-- ==== Sys2Proof/Word.lean ====
section
/-! DEFINITION. The words of the part: bytes, beats and the 32-bit counters. -/

namespace Sys2Proof

/-- A byte of DRAM or of a transfer (R1). -/
abbrev Byte := BitVec 8

/-- A beat of the buffer link, 8 bytes (R29). -/
abbrev Beat := BitVec 64

/-- A 32-bit counter or timestamp (R196). -/
abbrev Word32 := BitVec 32

/-- A word of the tether port, 16 bits (R154). -/
abbrev Word16 := BitVec 16

end Sys2Proof
end

