-- ==== Sys2Proof/Config.lean ====
section
/-! DEFINITION. Values the spec leaves open. Each is a constant without a body: nothing can be proved of its value. -/

namespace Sys2Proof

/-- R32: "The content of DRAM after RESET_N is neither cleared nor kept." The byte at an offset that nothing has written
since the power-on named by the first argument. DESIGN CHOICE (log 1), safe. -/
opaque Config.unwrittenByte : Nat → Nat → Byte

/-- R193: the results beat of LOAD_SETTINGS carries the index in 2 bytes; for a table that ignores its index (R192) an index
above 65,535 has no stated 2-byte form. DESIGN CHOICE (log 15), safe. -/
opaque Config.wideIndex : BitVec 64 → BitVec 16

end Sys2Proof
end

