-- ==== Sys2Proof/Syntax.lean ====
section
/-! DEFINITION. The commands of the part: one constructor for each row of spec/opcode_table.json. -/

namespace Sys2Proof

/-- A focus group of the lens (R110). -/
inductive Group where
  | g0 | g1
deriving DecidableEq, Repr

/-- A debounced line (R51). -/
inductive Line where
  | s1 | s2 | remote | lready
deriving DecidableEq, Repr

/-- An input line whose reading LINE_CHANGE changes: a debounced line (R51), or the HOME line of a group (R110), which is
read without debounce and has no row of its own (log 6). -/
inductive InputLine where
  | debounced (l : Line)
  | home (g : Group)
deriving DecidableEq, Repr

/-- One beat of a WRITE packet: its 8 byte-enable flags and its data (R29). -/
structure WriteBeat where
  enables : BitVec 8
  data : Beat
deriving DecidableEq, Repr

/-- A command: an event at one of the part's interfaces or inside it, or a posted request. A level is `true` for HIGH. The
request rows carry the slot, the post tag and the arguments, each an unsigned 64-bit number (R181). -/
inductive Instr where
  | resetN
  | linkStart
  | timeBaseTick
  | write (addr : BitVec 29) (beats : List WriteBeat)
  | read (tag : BitVec 5) (addr : BitVec 29) (count : Nat)
  | ordinaryLaneService
  | memoryGrant
  | reportIssue
  | lineChange (line : InputLine) (level : Bool)
  | debouncedChange (line : Line)
  | liveTrigger
  | shotTriggerDue
  | ftrigPulseBegin
  | ftrigPulseEnd
  | readoutTimeout
  | stepBoundary (group : Group)
  | stepPulseEnd (group : Group)
  | homingBoundary (group : Group)
  | settleDeadline (group : Group)
  | tlinkChange (level : Bool)
  | trdyChange (level : Bool)
  | settleWaitEnd
  | strobeEnd
  | wordSlot
  | stall
  | tack (level : Bool)
  | tnak (level : Bool)
  | verdictTimeout
  | configurePool (slot : Fin 8) (tag : Word32) (first last livePages : Beat)
  | loadSettings (slot : Fin 8) (tag : Word32) (table index : Beat)
  | selectCapture (slot : Fin 8) (tag : Word32) (profile : Beat)
  | setFocus (slot : Fin 8) (tag : Word32) (mode selection fixedZone policy : Beat)
  | homeLens (slot : Fin 8) (tag : Word32)
  | moveLens (slot : Fin 8) (tag : Word32) (target : Beat)
  | fire (slot : Fin 8) (tag : Word32) (count : Beat)
  | mapView (slot : Fin 8) (tag : Word32) (view source shot mode profile stream : Beat)
  | unmapView (slot : Fin 8) (tag : Word32) (view : Beat)
  | releaseCard (slot : Fin 8) (tag : Word32) (shot : Beat)
  | protect (slot : Fin 8) (tag : Word32) (shot : Beat)
  | unprotect (slot : Fin 8) (tag : Word32) (shot : Beat)
  | discard (slot : Fin 8) (tag : Word32) (shot : Beat)
  | prioritise (slot : Fin 8) (tag : Word32) (shot : Beat)
  | requeue (slot : Fin 8) (tag : Word32) (shot : Beat)
  | dropTether (slot : Fin 8) (tag : Word32) (shot : Beat)
  | tetherControlEnable (slot : Fin 8) (tag : Word32)
  | tetherControlDisable (slot : Fin 8) (tag : Word32)
  | tetherControlResume (slot : Fin 8) (tag : Word32)
  | clearBuffer (slot : Fin 8) (tag : Word32)
  | clearCauses (slot : Fin 8) (tag : Word32) (causes : Beat)
  | setMask (slot : Fin 8) (tag : Word32) (mask : Beat)
  | unknownKindRequest (slot : Fin 8) (tag : Word32) (kind : Byte)
deriving DecidableEq, Repr

end Sys2Proof
end

