-- ==== Sys2Proof/Decode.lean ====
section
/-! DEFINITION. The command a table word spells. No row of spec/opcode_table.json gives bits: its commands are events and
posted requests, which no word encodes, so every word is refused. -/

namespace Sys2Proof

/-- The command that a word spells by the bits of the opcode table: none, for the table gives no row any bits. -/
def decodeTableWord (_nbits _w : Nat) : Option Instr := none

end Sys2Proof
end

