-- ==== Sys2Proof/Machine/State.lean ====
section
/-! DEFINITION. The state of the part, block by block as 00_scope.md 0.3 lists the blocks, and the state after RESET_N.
Moments are counted in time base units since RESET_N (log 2). -/

namespace Sys2Proof.Machine

/-- The part has no fault: what goes wrong shows as causes, result codes, zeros or drops (R36, R183, R186). No command
raises one, so the type has no constructor. -/
inductive Fault
deriving DecidableEq, Repr

/-- Why a command gets no next state. -/
inductive Refusal where
  /-- A command whose meaning is not modelled, by its mnemonic. No command of this model is. Safe. -/
  | notModelled (mnemonic : String)
  /-- Raised by WRITE and READ: a beat count outside 1-32, which is no packet of the link (R29, log 12). Safe. -/
  | notAPacket
deriving DecidableEq, Repr

/-! ### Time base and DRAM -/

/-- The time base (R196). `ticks` counts units since RESET_N; the time base is its low 32 bits (log 2). -/
structure TimeBase where
  ticks : Nat
  divider : Nat
deriving DecidableEq, Repr

/-- The DRAM (R2): the bytes written since RESET_N, addresses strictly rising. A byte not listed is a free value of this
`epoch` (log 1). -/
structure Memory where
  epoch : Nat
  cells : List Host.Cell
deriving DecidableEq, Repr

/-! ### Input lines -/

/-- The readings of the input lines, `true` for HIGH (00_scope.md 0.6). -/
structure Pins where
  s1 : Bool
  s2 : Bool
  remote : Bool
  lready : Bool
  homeG0 : Bool
  homeG1 : Bool
  tlink : Bool
  trdy : Bool
  tack : Bool
  tnak : Bool
deriving DecidableEq, Repr

/-! ### Geometry and develop profiles -/

/-- A frame's geometry (R70). -/
structure Geometry where
  width : Nat
  height : Nat
  bits : Nat
deriving DecidableEq, Repr

/-- A develop profile with its derived NORM (R121, R123). `matrix` is row by row; `tone` holds K[0] to K[64]. -/
structure Profile where
  black : Nat
  white : Nat
  gainR : Nat
  gainG : Nat
  gainB : Nat
  matrix : List Int
  tone : List Nat
  norm : Nat
deriving DecidableEq, Repr

/-! ### Shot table -/

/-- The states of a record in use (R9). A FREE record is `none`. -/
inductive ShotState where
  | filling | provisional | kept | discarded
deriving DecidableEq, Repr

/-- What a FILLING record becomes at completion (R9). -/
inductive Destiny where
  | provisional | kept
deriving DecidableEq, Repr

/-- The tether policy of a capture profile (R54). -/
inductive TetherPolicy where
  | none | raw | developed
deriving DecidableEq, Repr

/-- The kind of a tether item (R9). -/
inductive TetherKind where
  | raw | developed
deriving DecidableEq, Repr

/-- The tether state of a shot (R9). -/
inductive TetherState where
  | queued | sending | sent | failed
deriving DecidableEq, Repr

/-- The class of a queue entry (R169). -/
inductive TetherClass where
  | normal | urgent
deriving DecidableEq, Repr

/-- The edge hint of a zone or a frame (R88, R100). -/
inductive Edge where
  | none | near | far
deriving DecidableEq, Repr

/-- A record's hold set (R9). -/
structure Holds where
  card : Bool
  tether : Bool
  protect : Bool
deriving DecidableEq, Repr

/-- A shot's tether part (R9). -/
structure TetherPart where
  kind : TetherKind
  profile : Fin 8
  state : TetherState
  cls : TetherClass
  attempts : Nat
deriving DecidableEq, Repr

/-- A shot's focus record (R107). -/
structure FocusRecord where
  zone : Option (Fin 12)
  disparity : Int
  confidence : Nat
  inFocus : Bool
  edge : Edge
  position : Nat
  target : Option Nat
  limit : Bool
  lensMoving : Bool
  noLens : Bool
deriving DecidableEq, Repr

/-- A record in use (R9). -/
structure Shot where
  number : Nat
  state : ShotState
  destiny : Option Destiny
  lapsed : Bool
  pre : Bool
  profile : Fin 4
  geom : Geometry
  cardHold : Bool
  policy : TetherPolicy
  tetherProfile : Fin 8
  trigTime : Word32
  pages : List Nat
  holds : Holds
  views : Nat
  tether : Option TetherPart
  focus : Option FocusRecord
deriving DecidableEq, Repr

/-- The shot table: 48 records, the shot number counter and the pre-capture list (R9, R11, R22). -/
structure ShotTable where
  records : Vector (Option Shot) 48
  counter : Nat
  preList : List (Fin 48)
deriving DecidableEq, Repr

/-- The page pool (R2). The live slots' pages follow from F and LP (R4). -/
structure Pool where
  configured : Bool
  first : Nat
  last : Nat
  livePages : Nat
  free : List Nat
  reservation : Nat
deriving DecidableEq, Repr

/-! ### Link port, window decoder, memory port -/

/-- A transfer taken from the link (R29). A WRITE's bytes are in address order, `none` where the enable flag is clear. -/
inductive Transfer where
  | write (addr : BitVec 29) (bytes : List (Option Byte))
  | read (tag : BitVec 5) (addr : BitVec 29) (count : Nat)
deriving DecidableEq, Repr

/-- What the performance of a PASSAGE request is told to (R38, R39, R43). -/
inductive Notice where
  | none
  | slots
  | capture (serial : Word32) (offset : Nat)
  | rawView (index : Fin 48) (number : Nat)
deriving DecidableEq, Repr

/-- Where a transfer of the ordinary lane stands (R34): not yet served, issued as a PASSAGE request for a DRAM offset, or
a read whose data or zeros wait for the turn of its response. -/
inductive Service where
  | waiting
  | issued (offset : Nat) (notice : Notice)
  | ready (data : List Byte)
deriving DecidableEq, Repr

/-- A place of the ordinary lane (R33, R34). -/
structure LaneEntry where
  transfer : Transfer
  service : Service
deriving DecidableEq, Repr

/-- A read of the develop lane (R33). -/
structure LaneRead where
  tag : BitVec 5
  addr : BitVec 29
  count : Nat
deriving DecidableEq, Repr

/-- A READ RESPONSE packet (R29). -/
structure Response where
  tag : BitVec 5
  data : List Byte
deriving DecidableEq, Repr

/-- The link port (R31-R35). `sent` is the model's own: the responses that have left the part, oldest first (log 8). -/
structure LinkPort where
  started : Bool
  credits : Nat
  ordinary : List LaneEntry
  develop : List LaneRead
  sent : List Response
deriving DecidableEq, Repr

/-- The source of a MAPPED view (R42). -/
inductive ViewSource where
  | shot (index : Fin 48) (number : Nat)
  | live
deriving DecidableEq, Repr

/-- A MAPPED entry of the view table (R42). -/
structure View where
  source : ViewSource
  developed : Bool
  profile : Fin 8
  stream : Bool
deriving DecidableEq, Repr

/-- The window decoder's state: the view table, and the latest live frame (R8, R42). -/
structure Windows where
  views : Vector (Option View) 4
  designation : Option (Fin 2)
  liveCount : Word32
  liveGeom : Option Geometry
deriving DecidableEq, Repr

/-- The settings table a LOAD_SETTINGS names (R192). -/
inductive TableRef where
  | capture (index : Fin 4)
  | live
  | develop (index : Fin 8)
  | zones
  | lens
  | tether
  | timing
deriving DecidableEq, Repr

/-- A report record of the request unit (R184). -/
inductive ReportRecord where
  | status
  | mirror (index : Fin 48)
  | zoneLow
  | zoneHigh
  | slot (index : Fin 8)
deriving DecidableEq, Repr

/-- A DEVELOP request: one 256-byte block of the fill in a row cache place (R141). -/
structure FillRequest where
  place : Fin 4
  block : Nat
  offset : Nat
deriving DecidableEq, Repr

/-- A TETHER request: one block for a raw place, or for nobody once its item has ended (R153, R156). -/
structure RawRequest where
  place : Fin 2
  offset : Nat
  wanted : Bool
deriving DecidableEq, Repr

/-- A REPORT request: the composed bytes with their offsets, the causes a status record shows, and the frame serial a
zone block carries (R184, R186, R185). -/
structure ReportRequest where
  record : ReportRecord
  chunks : List (Nat × List Byte)
  shows : BitVec 20
  serial : Word32
deriving DecidableEq, Repr

/-- A SETTINGS request: the read of a LOAD_SETTINGS in progress in a slot (R192). -/
structure SettingsRequest where
  slot : Fin 8
  table : TableRef
deriving DecidableEq, Repr

/-- The internal requesters of the memory port (R49). -/
inductive Requester where
  | develop | tether | report | settings
deriving DecidableEq, Repr

/-- The memory port (R49, R50). PASSAGE requests are the issued entries of the ordinary lane. -/
structure MemoryPort where
  develop : List FillRequest
  tether : List RawRequest
  report : Option ReportRequest
  settings : List SettingsRequest
  passageRun : Nat
  lastServed : Requester
deriving DecidableEq, Repr

/-! ### Release unit and frame intake -/

/-- A debouncer: the debounced state, and the moment a difference began (R51). -/
structure Debouncer where
  active : Bool
  since : Option Nat
deriving DecidableEq, Repr

/-- The release states (R56). -/
inductive ReleaseState where
  | standby | live | precapture | burst
deriving DecidableEq, Repr

/-- The wait reasons of a waiting trigger (R65). -/
inductive WaitReason where
  | frame | record | buffer | focus
deriving DecidableEq, Repr

/-- A scheduled FTRIG pulse (R68). -/
structure Pulse where
  beginAt : Nat
  endAt : Nat
  running : Bool
deriving DecidableEq, Repr

/-- The release unit (R51-R68). `waiting` is the reason of the waiting trigger, if one waits. -/
structure ReleaseUnit where
  s1 : Debouncer
  s2 : Debouncer
  remote : Debouncer
  lready : Debouncer
  state : ReleaseState
  waiting : Option WaitReason
  fireCount : Nat
  singlePending : Bool
  active : Option (Fin 4)
  liveTimer : Option Nat
  shotTimer : Option Nat
  pulses : List Pulse
deriving DecidableEq, Repr

/-- The states of a focus group (R110). -/
inductive GroupState where
  | unhomed | homing | idle | moving | settling | fault
deriving DecidableEq, Repr

/-- The trigger latch (R67). -/
structure Latch where
  g0 : GroupState
  g1 : GroupState
  position : Nat
deriving DecidableEq, Repr

/-- The kind of a frame (R69). -/
inductive FrameKind where
  | live (slot : Fin 2)
  | shot (index : Fin 48)
deriving DecidableEq, Repr

/-- The frame record of the frame in flight (R69). The need and the pages assigned follow from the geometry and the shot
record. -/
structure Frame where
  serial : Word32
  kind : FrameKind
  geom : Geometry
  accepted : Nat
  overlength : Bool
  trigAt : Nat
  latch : Latch
  deadline : Nat
deriving DecidableEq, Repr

/-- The frame intake (R69). -/
structure FrameIntake where
  frame : Option Frame
  serial : Word32
deriving DecidableEq, Repr

/-! ### Settings tables -/

/-- TIMING (R195). A level is `true` for HIGH. -/
structure Timing where
  tickDivider : Nat
  s1Level : Bool
  s2Level : Bool
  remoteLevel : Bool
  remoteUse : Bool
  s1Debounce : Nat
  s2Debounce : Nat
  remoteDebounce : Nat
  trigDelay : Nat
  trigWidth : Nat
  readoutLimit : Nat
  livePeriod : Nat
deriving DecidableEq, Repr

/-- A capture profile (R54). -/
structure Capture where
  continuous : Bool
  depth : Nat
  cardHold : Bool
  policy : TetherPolicy
  tetherProfile : Fin 8
  geom : Geometry
  burstPeriod : Nat
deriving DecidableEq, Repr

/-- The LIVE table (R54). -/
structure LiveTable where
  enabled : Bool
  geom : Geometry
deriving DecidableEq, Repr

/-- A zone of the ZONES table (R79). -/
structure Zone where
  enabled : Bool
  k0 : Nat
  k1 : Nat
  j0 : Nat
  j1 : Nat
deriving DecidableEq, Repr

/-- The ZONES table (R76, R79). -/
structure Zones where
  rowPhase : Nat
  leftOffset : Nat
  rightOffset : Nat
  zero : Int
  confMin : Nat
  zone : Vector Zone 12
deriving DecidableEq, Repr

/-- One group's fields of the LENS table (R108). -/
structure GroupSettings where
  stepPeriod : Nat
  settleTime : Nat
  backlash : Nat
  homeLimit : Nat
deriving DecidableEq, Repr

/-- The LENS table (R108). -/
structure Lens where
  g0 : GroupSettings
  g1 : GroupSettings
  knots : List (Nat × Nat)
  gain : Int
  deadband : Nat
  edgeStep : Nat
  inFocusBand : Nat
  jumpLimit : Nat
deriving DecidableEq, Repr

/-- The handshake modes of the tether port (R150). -/
inductive TetherMode where
  | interlocked | pulsed | timed
deriving DecidableEq, Repr

/-- The TETHER table (R150). A level is `true` for HIGH. -/
structure Tether where
  wide : Bool
  mode : TetherMode
  settle : Nat
  strobeWidth : Nat
  wordPeriod : Nat
  stallLimit : Nat
  verdictLimit : Nat
  attemptLimit : Nat
  tdLevel : Bool
  tstbLevel : Bool
  trdyLevel : Bool
  tackLevel : Bool
  tnakLevel : Bool
  tlinkLevel : Bool
deriving DecidableEq, Repr

/-- The working copies of the settings tables (chapter 11). `none` is an invalid table. -/
structure Tables where
  timing : Timing
  captures : Vector (Option Capture) 4
  live : LiveTable
  profiles : Vector Profile 8
  zones : Zones
  lens : Option Lens
  tether : Tether
deriving DecidableEq, Repr

/-! ### Phase detection and focus control -/

/-- The standing of a zone for a frame (R80). -/
inductive Standing where
  | disabled | outside | active
deriving DecidableEq, Repr

/-- A zone's accumulators (R81): `sums` holds C(-8) to C(+8). -/
structure ZoneSums where
  standing : Standing
  rowsUsed : Nat
  sums : List Nat
deriving DecidableEq, Repr

/-- The reduced samples of a site, `none` where the taken mark is clear (R81). -/
structure Site where
  left : Option Nat
  right : Option Nat
deriving DecidableEq, Repr

/-- The frame copy of the PD extractor (R81). `shot` is the shot number of a SHOT frame. -/
structure FrameCopy where
  zones : Zones
  geom : Geometry
  serial : Word32
  isShot : Bool
  trigTime : Word32
  shot : Nat
deriving DecidableEq, Repr

/-- The status of a zone result (R86). -/
inductive ZoneStatus where
  | disabled | outside | fewRows | edge | lowConfidence | valid
deriving DecidableEq, Repr

/-- A zone result (R86). -/
structure ZoneResult where
  status : ZoneStatus
  rowsUsed : Nat
  terms : Nat
  shift : Int
  subSite : Int
  disparity : Int
  confidence : Nat
  least : Nat
  total : Nat
  edge : Edge
deriving DecidableEq, Repr

/-- A result set (R92). -/
structure ResultSet where
  zones : Vector ZoneResult 12
  serial : Word32
  isShot : Bool
  trigTime : Word32
  shot : Nat
deriving DecidableEq, Repr

/-- The PD extractor and correlator (R81, R92). `row = none` is DONE. -/
structure PhaseUnit where
  copy : Option FrameCopy
  row : Option Nat
  store : List Site
  zones : Vector ZoneSums 12
  results : Option ResultSet
deriving DecidableEq, Repr

/-- Focus modes (R95). -/
inductive FocusMode where
  | off | single | tracking
deriving DecidableEq, Repr

/-- Zone selections (R95). -/
inductive Selection where
  | fixed | nearest | sticky
deriving DecidableEq, Repr

/-- Focus states (R97). -/
inductive FocusState where
  | off | noLens | idle | acquiring | locked | tracking
deriving DecidableEq, Repr

/-- A pair of targets with its LIMIT flag (R95). -/
structure TargetPair where
  g0 : Nat
  g1 : Nat
  limit : Bool
deriving DecidableEq, Repr

/-- Focus control (R95). `policyFocus` is the release policy FOCUS. -/
structure Focus where
  mode : FocusMode
  selection : Selection
  fixedZone : Fin 12
  policyFocus : Bool
  state : FocusState
  lastZone : Option (Fin 12)
  lastDisparity : Int
  lastInFocus : Bool
  lastSerial : Word32
  lastTarget : Option TargetPair
deriving DecidableEq, Repr

/-! ### Lens drive -/

/-- The leg of a MOVING group (R110). -/
inductive Leg where
  | none | descend | ascend
deriving DecidableEq, Repr

/-- A focus group (R110, R111). `boundary` is the next step boundary; `stepEnd` the moment the STEP pulse ends. -/
structure GroupDrive where
  state : GroupState
  leg : Leg
  position : Nat
  target : Option Nat
  waypoint : Option Nat
  pending : Option Nat
  homingSteps : Nat
  settleAt : Option Nat
  boundary : Option Nat
  stepEnd : Option Nat
  step : Bool
  dir : Bool
deriving DecidableEq, Repr

/-- The lens drive (R110, R112). `homing` is the slot of the HOME_LENS in progress. -/
structure LensDrive where
  g0 : GroupDrive
  g1 : GroupDrive
  homing : Option (Fin 8)
deriving DecidableEq, Repr

/-! ### Develop engine -/

/-- A source key (R135). -/
inductive Source where
  | shot (index : Fin 48) (number : Nat)
  | live (slot : Fin 2) (count : Word32)
deriving DecidableEq, Repr

/-- A row cache key: a source key and a developed row (R138). -/
structure Key where
  source : Source
  row : Nat
deriving DecidableEq, Repr

/-- A row cache place (R138). `data` is the raw row pair; `left` counts the requests of the fill not yet performed. -/
inductive Place where
  | empty
  | filling (key : Key) (data : List Byte) (left : Nat)
  | valid (key : Key) (data : List Byte)
  | discarding (left : Nat)
deriving DecidableEq, Repr

/-- The client of a run (R135). A develop-lane read in progress is the head of the develop lane (R136). -/
inductive Client where
  | lane | tether
deriving DecidableEq, Repr

/-- The run in progress (R135). -/
structure Run where
  client : Client
  key : Key
  geom : Geometry
  run : Nat
  profile : Profile
  stream : Bool
deriving DecidableEq, Repr

/-- The ACTIVE tether stream (R146). -/
structure Stream where
  index : Fin 48
  number : Nat
  geom : Geometry
  profile : Fin 8
  nextRow : Nat
  nextRun : Nat
deriving DecidableEq, Repr

/-- A READY staging place (R146). -/
structure Staged where
  row : Nat
  run : Nat
  data : List Byte
deriving DecidableEq, Repr

/-- The develop engine (R135-R147). `recency` is most recent first. -/
structure Engine where
  places : Vector Place 4
  recency : List (Fin 4)
  run : Option Run
  stream : Option Stream
  staging : Vector (Option Staged) 2
deriving DecidableEq, Repr

/-! ### Tether queue and tether port -/

/-- A reference to a shot (R169). -/
structure ShotRef where
  index : Fin 48
  number : Nat
deriving DecidableEq, Repr

/-- The tether queue (R169). -/
structure TetherQueue where
  urgent : List ShotRef
  normal : List ShotRef
deriving DecidableEq, Repr

/-- The states of the tether port (R151). -/
inductive PortState where
  | disabled | waitLink | idle | sending | awaitVerdict | halted
deriving DecidableEq, Repr

/-- A request that has asked to cut the item (R153, R165). DISABLE and CLEAR_BUFFER wait in their slots; CLEAR_BUFFER
remembers the number of records it freed (R190). -/
inductive CutBy where
  | disable (slot : Fin 8)
  | discard
  | dropTether
  | clearBuffer (slot : Fin 8) (freed : Nat)
deriving DecidableEq, Repr

/-- The phase of an item (R153). -/
inductive Phase where
  | header | payload | trailer
deriving DecidableEq, Repr

/-- The step of the unit in progress, and when its wait began or ends (R153, R158-R160). -/
inductive Handshake where
  /-- The next payload word is not staged (R158, R159). -/
  | waitWord
  /-- R158 step 1: waiting for READY before a unit. -/
  | waitReady (since : Nat)
  /-- SETTLE runs after the data was driven, until this moment. -/
  | settling (deadline : Nat)
  /-- R158 step 5: TSTB active, waiting for BUSY. -/
  | waitBusy (since : Nat)
  /-- TSTB active for STROBE_WIDTH, until this moment (R159, R160). -/
  | strobe (deadline : Nat)
  /-- R159 step 4: waiting for READY after a unit. -/
  | waitBetween (since : Nat)
  /-- TIMED: the strobe is over, the slot is not (R160). -/
  | slotRest
  /-- The whole item is out; the verdict window is open (R163). -/
  | done
deriving DecidableEq, Repr

/-- The item record (R153). `current` is the word in progress, from which an 8-bit port takes its high byte; `attached` is clear once the item is detached from its shot (R177); `slotEnd` is the end of the
current TIMED slot; `nextBlock` is the next block of a RAW payload to be given a place (R156); `underran` is set by R162. -/
structure Item where
  source : ShotRef
  attached : Bool
  kind : TetherKind
  attempt : Nat
  header : List Word16
  geom : Geometry
  phase : Phase
  word : Nat
  highByte : Bool
  current : Word16
  complete : Bool
  cut : List CutBy
  step : Handshake
  slotEnd : Nat
  nextBlock : Nat
  underran : Bool
deriving DecidableEq, Repr

/-- A raw place of the tether port (R156). -/
inductive RawPlace where
  | empty
  | reading (block : Nat)
  | ready (block : Nat) (data : List Byte)
deriving DecidableEq, Repr

/-- The tether port (R149-R168). `td` and `tstb` are logical values; the levels of the TETHER table make them lines. -/
structure TetherPort where
  state : PortState
  item : Option Item
  raw : Vector RawPlace 2
  td : Word16
  tstb : Bool
  verdictAt : Option Nat
deriving DecidableEq, Repr

/-! ### Request unit -/

/-- The result codes (R183). -/
inductive ResultCode where
  | done | busy | noShot | badValue | wrongState | noLens | unknownKind
deriving DecidableEq, Repr

/-- The state of a slot copy (R181). -/
inductive SlotState where
  | free | taken | done
deriving DecidableEq, Repr

/-- The request last taken in a slot: its kind, tag and beats 1 to 6 as taken, and its result (R183). -/
structure Taken where
  kind : Byte
  tag : Word32
  args : Vector Beat 6
  code : ResultCode
  results : Beat
deriving DecidableEq, Repr

/-- A slot copy (R181), with the request last taken. -/
structure Slot where
  state : SlotState
  kind : Byte
  tag : Word32
  args : Vector Beat 6
  taken : Option Taken
deriving DecidableEq, Repr

/-- The request unit (R180-R191). `marks` is the model's own: the records marked by the event under way, empty between
commands (log 21). -/
structure RequestUnit where
  slots : Vector Slot 8
  causes : BitVec 20
  shown : BitVec 20
  mask : BitVec 20
  reportList : List ReportRecord
  statusCount : Word32
  mirrorCounts : Vector Word32 48
  zoneSerial : Word32
  marks : List ReportRecord
deriving DecidableEq, Repr

/-! ### The machine -/

/-- The part's whole state, and the queue of commands that wait. -/
structure State where
  time : TimeBase
  mem : Memory
  pins : Pins
  link : LinkPort
  windows : Windows
  port : MemoryPort
  pool : Pool
  shots : ShotTable
  release : ReleaseUnit
  intake : FrameIntake
  phase : PhaseUnit
  focus : Focus
  lens : LensDrive
  tables : Tables
  engine : Engine
  queue : TetherQueue
  tport : TetherPort
  req : RequestUnit
  pending : List Instr
deriving DecidableEq, Repr

/-! ### Reset values -/

/-- R195: TIMING after RESET_N. -/
def Timing.reset : Timing :=
  { tickDivider := 24, s1Level := false, s2Level := false, remoteLevel := false, remoteUse := false,
    s1Debounce := 5000, s2Debounce := 5000, remoteDebounce := 5000, trigDelay := 0, trigWidth := 10,
    readoutLimit := 100000, livePeriod := 16667 }

/-- R150: TETHER after RESET_N. -/
def Tether.reset : Tether :=
  { wide := true, mode := .interlocked, settle := 2, strobeWidth := 2, wordPeriod := 10, stallLimit := 100000,
    verdictLimit := 2000000, attemptLimit := 3, tdLevel := true, tstbLevel := true, trdyLevel := true,
    tackLevel := true, tnakLevel := true, tlinkLevel := true }

/-- R121: the neutral profile. -/
def Profile.neutral : Profile :=
  { black := 0, white := 4095, gainR := 1024, gainG := 1024, gainB := 1024,
    matrix := [1024, 0, 0, 0, 1024, 0, 0, 0, 1024],
    tone := (List.range 64).map (4 * ·) ++ [255], norm := 65536 }

/-- R76, R79: ZONES after RESET_N. -/
def Zones.reset : Zones :=
  { rowPhase := 0, leftOffset := 0, rightOffset := 8, zero := 0, confMin := 16,
    zone := Vector.replicate 12 { enabled := false, k0 := 0, k1 := 0, j0 := 0, j1 := 0 } }

/-- A geometry no rule gives a value: the LIVE table's before its first load (DESIGN CHOICE, log 17). -/
def Geometry.zero : Geometry := { width := 0, height := 0, bits := 0 }

/-- R54, R76, R79, R108, R121, R150, R195: the tables after RESET_N. -/
def Tables.reset : Tables :=
  { timing := Timing.reset, captures := Vector.replicate 4 none,
    live := { enabled := false, geom := Geometry.zero }, profiles := Vector.replicate 8 Profile.neutral,
    zones := Zones.reset, lens := none, tether := Tether.reset }

/-- R51: a debouncer after RESET_N, for a line that then reads active or not. -/
def Debouncer.reset (reads : Bool) : Debouncer := { active := false, since := if reads then some 0 else none }

/-- R81: a zone's accumulators when cleared. -/
def ZoneSums.clear (st : Standing) : ZoneSums := { standing := st, rowsUsed := 0, sums := List.replicate 17 0 }

/-- R110: a focus group after RESET_N (the homing step count: DESIGN CHOICE 0, log 17). -/
def GroupDrive.reset : GroupDrive :=
  { state := .unhomed, leg := .none, position := 0, target := none, waypoint := none, pending := none,
    homingSteps := 0, settleAt := none, boundary := none, stepEnd := none, step := false, dir := false }

/-- R181: a slot copy after RESET_N. -/
def Slot.reset : Slot := { state := .free, kind := 0, tag := 0, args := Vector.replicate 6 0, taken := none }

/-- DESIGN CHOICE (log 6): the input lines' levels in `State.reset`, each inactive at its level of reset. -/
def Pins.reset : Pins :=
  { s1 := true, s2 := true, remote := true, lready := false, homeG0 := false, homeG1 := false,
    tlink := false, trdy := false, tack := false, tnak := false }

/-- The state after RESET_N, for the levels the input lines then have: every block's reset value as its chapter gives it; no
rule gives the zones' standing between frames, which is DISABLED here (log 43). -/
def State.resetWith (pins : Pins) : State :=
  { time := { ticks := 0, divider := 0 }
    mem := { epoch := 0, cells := [] }
    pins := pins
    link := { started := false, credits := 0, ordinary := [], develop := [], sent := [] }
    windows := { views := Vector.replicate 4 none, designation := none, liveCount := 0, liveGeom := none }
    port := { develop := [], tether := [], report := none, settings := [], passageRun := 0, lastServed := .settings }
    pool := { configured := false, first := 0, last := 0, livePages := 0, free := [], reservation := 0 }
    shots := { records := Vector.replicate 48 none, counter := 1, preList := [] }
    release :=
      { s1 := Debouncer.reset (pins.s1 == Timing.reset.s1Level)
        s2 := Debouncer.reset (pins.s2 == Timing.reset.s2Level)
        remote := Debouncer.reset (pins.remote == Timing.reset.remoteLevel)
        lready := Debouncer.reset pins.lready
        state := .standby, waiting := none, fireCount := 0, singlePending := false, active := none,
        liveTimer := none, shotTimer := none, pulses := [] }
    intake := { frame := none, serial := 0 }
    phase := { copy := none, row := none, store := [], zones := Vector.replicate 12 (ZoneSums.clear .disabled), results := none }
    focus :=
      { mode := .off, selection := .nearest, fixedZone := 0, policyFocus := false, state := .off, lastZone := none,
        lastDisparity := 0, lastInFocus := false, lastSerial := 0, lastTarget := none }
    lens := { g0 := GroupDrive.reset, g1 := GroupDrive.reset, homing := none }
    tables := Tables.reset
    engine := { places := Vector.replicate 4 .empty, recency := [], run := none, stream := none, staging := Vector.replicate 2 none }
    queue := { urgent := [], normal := [] }
    tport := { state := .disabled, item := none, raw := Vector.replicate 2 .empty, td := 0, tstb := false, verdictAt := none }
    req :=
      { slots := Vector.replicate 8 Slot.reset, causes := 0, shown := 0, mask := BitVec.allOnes 20, reportList := [],
        statusCount := 0, mirrorCounts := Vector.replicate 48 0, zoneSerial := 0, marks := [] }
    pending := [] }

/-- The machine right after RESET_N, with every input line inactive (log 6). -/
def State.reset : State := State.resetWith Pins.reset

end Sys2Proof.Machine
end

