-- ==== Sys2Proof/Machine/Arith.lean ====
section
/-! DEFINITION. The arithmetic conventions of 00_scope.md 0.7 (R1): rounding, clamping, little-endian bytes, signed fields;
and the few list and vector helpers the blocks share. -/

namespace Sys2Proof.Machine

/-! ### Rounding and clamping -/

/-- R1: "ceil means the least whole number not below the exact value". -/
def ceilDiv (a b : Nat) : Nat := (a + b - 1) / b

/-- R1: the quotient "rounded to nearest, halves away from zero", for a positive divisor. -/
def roundHalfAway (a : Int) (b : Nat) : Int :=
  let q : Int := (2 * a.natAbs + b) / (2 * b)
  if a < 0 then -q else q

/-- R1: "clamped to a..b". -/
def clamp (lo hi x : Int) : Int := if x < lo then lo else if hi < x then hi else x

/-- R1: "capped at b". -/
def cap (b x : Nat) : Nat := if b < x then b else x

/-- R1: 1 MiB. -/
def mib : Nat := 1048576

/-! ### Bytes -/

/-- Byte `i` of a number, the less significant first (R1, byte order). -/
def leByte (v i : Nat) : Byte := BitVec.ofNat 8 (v >>> (8 * i))

/-- The `n` little-endian bytes of a number (R1). -/
def leBytes (v n : Nat) : List Byte := (List.range n).map (leByte v)

/-- The number that little-endian bytes spell (R1). -/
def leNat : List Byte → Nat
  | [] => 0
  | b :: bs => b.toNat + 256 * leNat bs

/-- A signed number as the unsigned value of its two's complement field of `bits` bits (R194). -/
def twosField (bits : Nat) (x : Int) : Nat := (x % (2 ^ bits : Nat)).toNat

/-- The signed number a two's complement field of `bits` bits holds (R194). -/
def signedField (bits v : Nat) : Int := if v < 2 ^ (bits - 1) then (v : Int) else (v : Int) - (2 ^ bits : Nat)

/-- `w` with byte `i` replaced. -/
def setByte {n : Nat} (w : BitVec n) (i : Nat) (b : Byte) : BitVec n :=
  (w &&& ~~~(BitVec.ofNat n (0xFF <<< (8 * i)))) ||| BitVec.ofNat n (b.toNat <<< (8 * i))

/-- A Boolean as a field value: 1 or 0. -/
def flag (b : Bool) : Nat := if b then 1 else 0

/-- A bit set from its flags, bit 0 first. -/
def bits (bs : List Bool) : Nat := bs.foldr (fun b n => flag b + 2 * n) 0

/-- A field of a report record: offset, size in bytes, value (R1, layouts). -/
abbrev Field := Nat × Nat × Nat

/-- Byte `i` of a record: its field's byte, or zero where no field is named (R1). -/
def recordByte (fields : List Field) (i : Nat) : Byte :=
  match fields.find? (fun f => f.1 ≤ i && i < f.1 + f.2.1) with
  | some f => leByte f.2.2 (i - f.1)
  | none => 0

/-- A record of `size` bytes from its fields (R1). -/
def recordBytes (size : Nat) (fields : List Field) : List Byte := (List.range size).map (recordByte fields)

/-- Fields moved up by a base offset. -/
def shiftFields (base : Nat) (fields : List Field) : List Field := fields.map fun f => (base + f.1, f.2.1, f.2.2)

/-! ### Geometry (R70, R124) -/

/-- R70: frame_bytes. -/
def Geometry.frameBytes (g : Geometry) : Nat := g.width * 2 * g.height

/-- R69: the page need of a frame. -/
def Geometry.need (g : Geometry) : Nat := ceilDiv g.frameBytes mib

/-- R70: the largest value of the frame's bits, to which a sample word is limited (R78, R125). -/
def Geometry.sampleMax (g : Geometry) : Nat := 2 ^ g.bits - 1

/-- R124: the size of the developed image. -/
def Geometry.developedBytes (g : Geometry) : Nat := g.width * g.height

/-- R124: the number of runs in a developed row. -/
def Geometry.runs (g : Geometry) : Nat := g.width / 128

/-! ### Named numbers -/

/-- The low 32 bits of a count (R196). -/
def word32 (n : Nat) : Word32 := BitVec.ofNat 32 n

/-- A list with the elements equal to `a` taken out. -/
def dropElem {α : Type} [DecidableEq α] (a : α) (l : List α) : List α := l.filter (· ≠ a)

end Sys2Proof.Machine
end

