-- ==== Sys2Proof/Machine/Flags.lean ====
section
/-! DEFINITION. Report marks, the cause set and the attention line (R184, R186-R189). -/

namespace Sys2Proof.Machine

/-- The 20 causes, in the order of their codes (R186). -/
inductive Cause where
  | frameDone | shotKept | preEvicted | bufferWait | missedTrigger | strayWrite | overlength | readoutTimeout
  | focusLocked | lensHomed | lensFault | lensLost | tetherSent | tetherFailed | tetherHalted | underrun
  | requestDone | requestCollision | voidAccess | viewWriteDropped
deriving DecidableEq, Repr

/-- R186: the code of a cause. -/
def Cause.code : Cause → Nat
  | .frameDone => 0 | .shotKept => 1 | .preEvicted => 2 | .bufferWait => 3 | .missedTrigger => 4
  | .strayWrite => 5 | .overlength => 6 | .readoutTimeout => 7 | .focusLocked => 8 | .lensHomed => 9
  | .lensFault => 10 | .lensLost => 11 | .tetherSent => 12 | .tetherFailed => 13 | .tetherHalted => 14
  | .underrun => 15 | .requestDone => 16 | .requestCollision => 17 | .voidAccess => 18 | .viewWriteDropped => 19

/-- The set that holds one cause: bit n for cause code n (R185). -/
def Cause.bit (c : Cause) : BitVec 20 := BitVec.ofNat 20 (1 <<< c.code)

/-- R184: a record is marked by the event under way; `finishEvent` moves the marks to the report list. -/
def State.mark (s : State) (r : ReportRecord) : State := { s with req := { s.req with marks := s.req.marks ++ [r] } }

/-- R186: a cause becomes pending, and the status record is marked. -/
def State.raise (s : State) (c : Cause) : State :=
  { s with req := { s.req with causes := s.req.causes ||| c.bit, marks := s.req.marks ++ [.status] } }

/-- R189: ATTN is active while some cause is pending, unmasked and has its shown mark set. -/
def State.attn (s : State) : Bool := s.req.causes &&& ~~~s.req.mask &&& s.req.shown != 0

/-- R189: the level of the line ATTN, which is active low. -/
def State.attnLine (s : State) : Bool := !s.attn

/-- R187: the named causes become not pending and their shown marks are cleared. A status write in flight no longer shows
them (R186: "A cause raised after a status write's composition and before its performance is not shown by it"; log 20). -/
def State.clearCauseSet (s : State) (set : BitVec 20) : State :=
  { s with
    req := { s.req with causes := s.req.causes &&& ~~~set, shown := s.req.shown &&& ~~~set, marks := s.req.marks ++ [.status] }
    port := { s.port with report := s.port.report.map fun r => { r with shows := r.shows &&& ~~~set } } }

/-- R186: the shown marks set when a status write that showed `shows` is performed. -/
def State.showCauses (s : State) (shows : BitVec 20) : State :=
  { s with req := { s.req with shown := s.req.shown ||| (shows &&& s.req.causes) } }

/-- R188: the mask is replaced, and the status record is marked. -/
def State.replaceMask (s : State) (mask : BitVec 20) : State :=
  { s with req := { s.req with mask := mask, marks := s.req.marks ++ [.status] } }

/-- R184: "A marked record joins the tail of the list. A record marked while it is already in the list leaves its place and
joins the tail." -/
def joinReport (list : List ReportRecord) (r : ReportRecord) : List ReportRecord := dropElem r list ++ [r]

end Sys2Proof.Machine
end

