-- ==== Sys2Proof/Machine/Ops.lean ====
section
/-! DEFINITION. The named operations the blocks share: DRAM, moments and lines, shot records, presses, frame and group
views of the state, link answers and request completion. -/

namespace Sys2Proof.Machine

/-! ### DRAM (R1, R2, R49) -/

/-- The known byte at an address, if one was written. -/
def lookupCell : List Host.Cell → Nat → Option Byte
  | [], _ => none
  | c :: cs, a => if c.1 = a then some c.2 else lookupCell cs a

/-- A byte written into a list of rising addresses. -/
def insertCell : List Host.Cell → Nat → Byte → List Host.Cell
  | [], a, b => [(a, b)]
  | c :: cs, a, b =>
    if a < c.1 then (a, b) :: c :: cs
    else if a = c.1 then (a, b) :: cs
    else c :: insertCell cs a b

/-- The addresses of a list of cells rise strictly. -/
def risingCells : List Host.Cell → Bool
  | [] => true
  | [_] => true
  | c :: d :: cs => decide (c.1 < d.1) && risingCells (d :: cs)

/-- The canonical form of the DRAM. An unlisted address has no known value, so no entry can equal what it reads as. -/
def Memory.wf (m : Memory) : Bool := risingCells m.cells

/-- The byte DRAM holds at an offset: the last one written, else a free value of this power-on (R32, log 1). -/
def Memory.readByte (m : Memory) (a : Nat) : Byte := (lookupCell m.cells a).getD (Config.unwrittenByte m.epoch a)

/-- `n` bytes from an offset. -/
def Memory.readBytes (m : Memory) (a n : Nat) : List Byte := (List.range n).map fun i => m.readByte (a + i)

/-- One byte written. -/
def Memory.writeByte (m : Memory) (a : Nat) (b : Byte) : Memory := { m with cells := insertCell m.cells a b }

/-- R29: bytes written from an offset, in address order; a byte whose enable flag is clear is not written. -/
def Memory.writeMasked (m : Memory) (a : Nat) : List (Option Byte) → Memory
  | [] => m
  | none :: bs => m.writeMasked (a + 1) bs
  | some b :: bs => (m.writeByte a b).writeMasked (a + 1) bs

/-- R49: the bytes of a report record written at their offsets. -/
def Memory.writeChunks (m : Memory) : List (Nat × List Byte) → Memory
  | [] => m
  | c :: cs => (m.writeMasked c.1 (c.2.map some)).writeChunks cs

/-- R32: DRAM after RESET_N, "neither cleared nor kept": nothing known, and a fresh family of free values (log 1). -/
def Memory.afterReset (m : Memory) : Memory := { epoch := m.epoch + 1, cells := [] }

/-! ### Moments and lines -/

/-- The present moment, in units since RESET_N (R196, log 2). -/
def State.now (s : State) : Nat := s.time.ticks

/-- R196: the time base. -/
def State.timeBase (s : State) : Word32 := word32 s.time.ticks

/-- A moment, where one is set, is reached (R1, time). -/
def State.reached (s : State) (m : Option Nat) : Bool :=
  match m with
  | some t => t ≤ s.now
  | none => false

/-- R51, R110: whether a debounced line reads active under the levels in force. -/
def State.reads (s : State) : Line → Bool
  | .s1 => s.pins.s1 == s.tables.timing.s1Level
  | .s2 => s.pins.s2 == s.tables.timing.s2Level
  | .remote => s.pins.remote == s.tables.timing.remoteLevel
  | .lready => s.pins.lready

/-- R51: the debounce time of a line; LREADY uses S1_DEBOUNCE. -/
def State.debounceTime (s : State) : Line → Nat
  | .s1 => s.tables.timing.s1Debounce
  | .s2 => s.tables.timing.s2Debounce
  | .remote => s.tables.timing.remoteDebounce
  | .lready => s.tables.timing.s1Debounce

/-- The debouncer of a line (R51). -/
def State.debouncer (s : State) : Line → Debouncer
  | .s1 => s.release.s1
  | .s2 => s.release.s2
  | .remote => s.release.remote
  | .lready => s.release.lready

/-- The debouncer of a line replaced. -/
def State.setDebouncer (s : State) (l : Line) (d : Debouncer) : State :=
  match l with
  | .s1 => { s with release := { s.release with s1 := d } }
  | .s2 => { s with release := { s.release with s2 := d } }
  | .remote => { s with release := { s.release with remote := d } }
  | .lready => { s with release := { s.release with lready := d } }

/-- R52: the full press. -/
def State.fullPress (s : State) : Bool := s.release.s2.active || (s.release.remote.active && s.tables.timing.remoteUse)

/-- R52: the half press. -/
def State.halfPress (s : State) : Bool := s.release.s1.active || s.fullPress

/-- R149: whether TRDY reads READY, and TLINK, TACK and TNAK active, under the levels of the TETHER table. -/
def State.trdyReady (s : State) : Bool := s.pins.trdy == s.tables.tether.trdyLevel
def State.tlinkActive (s : State) : Bool := s.pins.tlink == s.tables.tether.tlinkLevel
def State.tackActive (s : State) : Bool := s.pins.tack == s.tables.tether.tackLevel
def State.tnakActive (s : State) : Bool := s.pins.tnak == s.tables.tether.tnakLevel

/-- R68: FTRIG is active while a scheduled pulse runs. -/
def State.ftrig (s : State) : Bool := s.release.pulses.any (·.running)

/-- R149: the level of the TSTB line, under the TETHER table. -/
def State.tstbLine (s : State) : Bool := s.tport.tstb == s.tables.tether.tstbLevel

/-- R149: the levels of the TD lines, under the TETHER table. DESIGN CHOICE (log 47): after a load that changes WIDTH from 16 to
8 between items, TD[15:8] keep the value last driven until the next unit is driven. -/
def State.tdLines (s : State) : Word16 := if s.tables.tether.tdLevel then s.tport.td else ~~~s.tport.td

/-! ### Settings and groups -/

/-- R54: the active capture profile. -/
def State.activeProfile (s : State) : Option Capture :=
  match s.release.active with
  | some c => s.tables.captures[c]
  | none => none

/-- R54: the camera is ready to shoot. -/
def State.readyToShoot (s : State) : Bool := s.pool.configured && s.release.active.isSome

/-- R24: the pre-capture depth N of the active capture profile; 0 with none. -/
def State.depth (s : State) : Nat :=
  match s.activeProfile with
  | some c => c.depth
  | none => 0

/-- A focus group of the lens drive. -/
def LensDrive.group (l : LensDrive) : Group → GroupDrive
  | .g0 => l.g0
  | .g1 => l.g1

/-- A focus group replaced. -/
def State.setGroup (s : State) (g : Group) (d : GroupDrive) : State :=
  match g with
  | .g0 => { s with lens := { s.lens with g0 := d } }
  | .g1 => { s with lens := { s.lens with g1 := d } }

/-- A group's fields of the LENS table (R108). -/
def Lens.group (l : Lens) : Group → GroupSettings
  | .g0 => l.g0
  | .g1 => l.g1

/-- R97: a group is homed while its state is IDLE, MOVING or SETTLING. -/
def GroupState.homed : GroupState → Bool
  | .idle | .moving | .settling => true
  | .unhomed | .homing | .fault => false

/-- Both groups are homed (R97). -/
def State.lensHomed (s : State) : Bool := s.lens.g0.state.homed && s.lens.g1.state.homed

/-! ### Shot records (R9) -/

/-- The record at a table index; `none` is FREE. -/
def State.record (s : State) (i : Fin 48) : Option Shot := s.shots.records[i]

/-- A record replaced. -/
def State.setRecord (s : State) (i : Fin 48) (r : Option Shot) : State :=
  { s with shots := { s.shots with records := s.shots.records.set i r } }

/-- A record in use changed; a FREE record stays FREE. -/
def State.modifyShot (s : State) (i : Fin 48) (f : Shot → Shot) : State := s.setRecord i ((s.record i).map f)

/-- Whether the record at an index is in use and holds a shot number. -/
def State.holdsNumber (s : State) (n : Nat) (i : Fin 48) : Bool :=
  match s.record i with
  | some r => r.number == n
  | none => false

/-- R17: the record in use that holds a shot number; number 0 finds no shot. -/
def State.findShot (s : State) (n : Nat) : Option (Fin 48) :=
  if n = 0 then none else (List.finRange 48).find? (s.holdsNumber n)

/-- The record of a reference, while its shot number is held there. -/
def State.shotAt (s : State) (r : ShotRef) : Option Shot :=
  match s.record r.index with
  | some x => if x.number = r.number then some x else none
  | none => none

/-- R65: the lowest FREE index. -/
def State.lowestFree (s : State) : Option (Fin 48) := (List.finRange 48).find? fun i => (s.record i).isNone

/-- The number of records in use. -/
def State.usedRecords (s : State) : Nat := (List.finRange 48).countP fun i => (s.record i).isSome

/-- The number of records in a state (R185). -/
def State.countState (s : State) (st : ShotState) : Nat :=
  (List.finRange 48).countP fun i => (s.record i).map (·.state) == some st

/-- R9: the hold set with no hold. -/
def Holds.empty : Holds := { card := false, tether := false, protect := false }

/-- R27: the hold set as bits: 0 CARD, 1 TETHER, 2 PROTECT. -/
def Holds.code (h : Holds) : Nat := bits [h.card, h.tether, h.protect]

/-! ### Live slots (R4, R8) -/

/-- R4: page `i` of a live slot. -/
def Pool.livePage (p : Pool) (slot : Fin 2) (i : Nat) : Nat := p.first + slot.val * p.livePages + i

/-- R8: the slot a live frame fills: the one not designated, or slot 0. -/
def State.fillingSlot (s : State) : Fin 2 :=
  match s.windows.designation with
  | some d => if d = 0 then 1 else 0
  | none => 0

/-! ### Link answers (R31, R34) -/

/-- R31: a READ RESPONSE is sent and its credit returned. -/
def State.respond (s : State) (tag : BitVec 5) (data : List Byte) : State :=
  { s with link := { s.link with sent := s.link.sent ++ [{ tag := tag, data := data }], credits := s.link.credits + 1 } }

/-- R31: the credit of a WRITE that has left the store is returned. -/
def State.returnCredit (s : State) : State := { s with link := { s.link with credits := s.link.credits + 1 } }

/-! ### Request completion (R183) -/

/-- R183: the codes of the results. -/
def ResultCode.code : ResultCode → Nat
  | .done => 0 | .busy => 1 | .noShot => 2 | .badValue => 3 | .wrongState => 4 | .noLens => 5 | .unknownKind => 6

/-- R183: the results beat packs its values, each with its size in bytes, in order from byte 0. -/
def packResults : List (Nat × Nat) → Nat
  | [] => 0
  | v :: vs => v.2 % 2 ^ (8 * v.1) + 2 ^ (8 * v.1) * packResults vs

/-- R183: a results beat of values of 2 bytes. -/
def results (vs : List Nat) : Beat := BitVec.ofNat 64 (packResults (vs.map fun v => (2, v)))

/-- The request last taken in a slot, changed. -/
def Slot.withResult (sl : Slot) (code : ResultCode) (beat : Beat) : Slot :=
  { sl with state := .done, taken := sl.taken.map fun t => { t with code := code, results := beat } }

/-- A slot copy replaced. -/
def State.setSlot (s : State) (i : Fin 8) (sl : Slot) : State :=
  { s with req := { s.req with slots := s.req.slots.set i sl } }

/-- R183: a request completes: the slot copy becomes DONE, the slot record is marked and REQUEST_DONE is raised. -/
def State.complete (s : State) (slot : Fin 8) (code : ResultCode) (beat : Beat) : State :=
  ((s.setSlot slot (s.req.slots[slot].withResult code beat)).mark (.slot slot)).raise .requestDone

end Sys2Proof.Machine
end

