-- ==== Sys2Proof/Machine/Develop.lean ====
section
/-! DEFINITION. Raw development: the five stages from four raw samples to one developed pixel (chapter 6). -/

namespace Sys2Proof.Machine

/-- R123: NORM = floor(4095 × 65,536 / (WL − BL)). -/
def normOf (black white : Nat) : Nat := 4095 * 65536 / (white - black)

/-- The four raw samples of a quad, limited to the frame's bits (R125). -/
structure Quad where
  r : Nat
  gr : Nat
  gb : Nat
  b : Nat
deriving DecidableEq, Repr

/-- R126: max(0, v − BL). -/
def blackLevel (p : Profile) (v : Nat) : Nat := v - p.black

/-- R126: the two black-levelled greens averaged, an exact half going up. -/
def greenMean (p : Profile) (q : Quad) : Nat := (blackLevel p q.gr + blackLevel p q.gb + 1) / 2

/-- R127: scaled by NORM, rounded with halves up, capped at 4095. -/
def normalise (p : Profile) (v : Nat) : Nat := cap 4095 ((v * p.norm + 32768) / 65536)

/-- R128: multiplied by the channel's gain, capped at 4095. -/
def whiteBalance (gain n : Nat) : Nat := cap 4095 ((n * gain + 512) / 1024)

/-- R129: the weighted sum of output channel `i` (0 R, 1 G, 2 B). -/
def matrixSum (p : Profile) (i : Nat) (w : Nat × Nat × Nat) : Int :=
  p.matrix.getD (3 * i) 0 * w.1 + p.matrix.getD (3 * i + 1) 0 * w.2.1 + p.matrix.getD (3 * i + 2) 0 * w.2.2

/-- R129: the sum scaled down, toward minus infinity, before the clamp. -/
def matrixScaled (p : Profile) (i : Nat) (w : Nat × Nat × Nat) : Int := (matrixSum p i w + 512) / 1024

/-- R129: the corrected value, clamped to 0..4095. -/
def corrected (p : Profile) (i : Nat) (w : Nat × Nat × Nat) : Nat := (clamp 0 4095 (matrixScaled p i w)).toNat

/-- R129: the clamp changed channel `i`. -/
def matrixClamped (p : Profile) (i : Nat) (w : Nat × Nat × Nat) : Bool := clamp 0 4095 (matrixScaled p i w) != matrixScaled p i w

/-- R130: the tone curve at a corrected value. -/
def tone (p : Profile) (m : Nat) : Nat :=
  let i := m / 64
  let f := m - 64 * i
  let k : Int := p.tone.getD i 0
  let k1 : Int := p.tone.getD (i + 1) 0
  (clamp 0 255 (k + ((k1 - k) * f + 32) / 64)).toNat

/-- R126-R128: the three white-balanced channels of a quad. -/
def balanced (p : Profile) (q : Quad) : Nat × Nat × Nat :=
  (whiteBalance p.gainR (normalise p (blackLevel p q.r)),
   whiteBalance p.gainG (normalise p (greenMean p q)),
   whiteBalance p.gainB (normalise p (blackLevel p q.b)))

/-- R131: the flags byte of a developed pixel. -/
def pixelFlags (p : Profile) (q : Quad) : Nat :=
  let w := balanced p q
  bits [p.white ≤ q.r, p.white ≤ q.gr || p.white ≤ q.gb, p.white ≤ q.b,
    matrixClamped p 0 w || matrixClamped p 1 w || matrixClamped p 2 w]

/-- R132: the four bytes of a developed pixel. -/
def developPixel (p : Profile) (q : Quad) : List Byte :=
  let w := balanced p q
  [tone p (corrected p 0 w), tone p (corrected p 1 w), tone p (corrected p 2 w), pixelFlags p q].map (BitVec.ofNat 8)

/-- R125: the raw sample at a row (0 or 1) and column of a row pair, limited to the frame's bits. -/
def pairSample (g : Geometry) (pair : List Byte) (row col : Nat) : Nat :=
  let o := row * (2 * g.width) + 2 * col
  cap g.sampleMax (leNat ((pair.drop o).take 2))

/-- R125: the quad of developed column `x` of a row pair. -/
def pairQuad (g : Geometry) (pair : List Byte) (x : Nat) : Quad :=
  { r := pairSample g pair 0 (2 * x), gr := pairSample g pair 0 (2 * x + 1),
    gb := pairSample g pair 1 (2 * x), b := pairSample g pair 1 (2 * x + 1) }

/-- R124, R132: the 256 bytes of run `r` of a row pair. -/
def developRun (g : Geometry) (p : Profile) (pair : List Byte) (r : Nat) : List Byte :=
  (List.range 64).flatMap fun i => developPixel p (pairQuad g pair (64 * r + i))

end Sys2Proof.Machine
end

