-- ==== Sys2Proof/Machine/Engine.lean ====
section
/-! DEFINITION. The develop engine: runs, the row cache, prefetch, invalidation and the tether stream (chapter 7). -/

namespace Sys2Proof.Machine

/-! ### The row cache (R138-R141) -/

/-- The key of a FILLING or VALID place. -/
def Place.key? : Place → Option Key
  | .filling k _ _ => some k
  | .valid k _ => some k
  | .empty | .discarding _ => none

/-- R138: a key is looked up only among FILLING and VALID places. -/
def Engine.lookup (e : Engine) (k : Key) : Option (Fin 4) := (List.finRange 4).find? fun i => e.places[i].key? == some k

/-- R140: the lowest-numbered EMPTY place. -/
def Engine.emptyPlace (e : Engine) : Option (Fin 4) := (List.finRange 4).find? fun i => e.places[i] == .empty

/-- R139: an entry is evictable when it is VALID and is not the entry of the run in progress. -/
def Engine.evictable (e : Engine) (i : Fin 4) : Bool :=
  match e.places[i] with
  | .valid k _ => e.run.map (·.key) != some k
  | _ => false

/-- R139: the evictable entry nearest the least recent end. -/
def Engine.victim (e : Engine) : Option (Fin 4) := e.recency.reverse.find? e.evictable

/-- R140: an EMPTY place, or the place of an evicted entry; an evicted entry leaves the recency order. -/
def Engine.makePlace (e : Engine) : Option (Fin 4 × Engine) :=
  match e.emptyPlace with
  | some i => some (i, e)
  | none =>
    match e.victim with
    | some i => some (i, { e with places := e.places.set i .empty, recency := dropElem i e.recency })
    | none => none

/-- R141: the DRAM target of the block of a source's frame at frame offset `o`; `none` is a missing page. -/
def State.sourceBlock (s : State) (src : Source) (o : Nat) : Option Nat :=
  match src with
  | .shot i n =>
    match s.shotAt { index := i, number := n } with
    | some x => x.pages[o / mib]?.map fun p => p * mib + o % mib
    | none => none
  | .live slot _ => some (s.pool.livePage slot (o / mib) * mib + o % mib)

/-- R141: the frame offset of block `b` of the row pair of developed row `y`: row 2y first, each row in column order. -/
def pairOffset (g : Geometry) (y b : Nat) : Nat := (2 * y + b / g.runs) * (2 * g.width) + (b % g.runs) * 256

/-- R141: the DEVELOP requests of a fill in place `p`, in block order. -/
def State.fillRequests (s : State) (p : Fin 4) (k : Key) (g : Geometry) : List FillRequest :=
  (List.range (g.width / 64)).filterMap fun b =>
    (s.sourceBlock k.source (pairOffset g k.row b)).map fun off => { place := p, block := b, offset := off }

/-- R141: the place of a fill that has `n` requests to come: VALID at once when it has none. -/
def newFill (k : Key) (g : Geometry) (n : Nat) : Place :=
  if n = 0 then .valid k (List.replicate (4 * g.width) 0) else .filling k (List.replicate (4 * g.width) 0) n

/-- R141: a fill for a key starts in place `p`, its entry most recent. -/
def State.startFill (s : State) (p : Fin 4) (k : Key) (g : Geometry) : State :=
  let reqs := s.fillRequests p k g
  { s with
    engine := { s.engine with places := s.engine.places.set p (newFill k g reqs.length), recency := p :: dropElem p s.engine.recency }
    port := { s.port with develop := s.port.develop ++ reqs } }

/-- R140: a fill is started where a place can be found; otherwise nothing changes. -/
def State.tryFill (s : State) (k : Key) (g : Geometry) : State :=
  match s.engine.makePlace with
  | some (p, e) => { s with engine := e }.startFill p k g
  | none => s

/-- R142: a prefetch of a developed row: made only when the row exists and its key is absent. -/
def State.prefetch (s : State) (k : Key) (g : Geometry) : State :=
  if k.row < g.height / 2 && (s.engine.lookup k).isNone then s.tryFill k g else s

/-- R138, R141: a fill's last request has been performed. -/
def Place.fillEnd : Place → Place
  | .filling k d _ => .valid k d
  | .discarding _ => .empty
  | p => p

/-- `data` with the 256 bytes of block `b` replaced. -/
def putBlock (data : List Byte) (b : Nat) (block : List Byte) : List Byte :=
  data.take (256 * b) ++ block ++ data.drop (256 * b + 256)

/-- R141: one request of a fill has been performed and read `block`. -/
def Place.fillStep (b : Nat) (block : List Byte) : Place → Place
  | .filling k d n => if n ≤ 1 then .valid k (putBlock d b block) else .filling k (putBlock d b block) (n - 1)
  | .discarding n => if n ≤ 1 then .empty else .discarding (n - 1)
  | p => p

/-! ### Answers and ends of runs (R135, R143) -/

/-- The oldest develop-lane read is answered with `data`; it leaves the lane and its credit returns. -/
def State.answerLane (s : State) (data : LaneRead → List Byte) : State :=
  match s.link.develop with
  | [] => s
  | r :: rest => ({ s with link := { s.link with develop := rest } }).respond r.tag (data r)

/-- The zero beats of a develop-lane read. -/
def LaneRead.zeros (r : LaneRead) : List Byte := List.replicate (8 * r.count) 0

/-- R143: a run in progress ends without completing; a read it served is answered with zeros. -/
def State.endRun (s : State) : State :=
  match s.engine.run with
  | none => s
  | some r =>
    let s1 := { s with engine := { s.engine with run := none } }
    match r.client with
    | .lane => s1.answerLane LaneRead.zeros
    | .tether => s1

/-! ### Invalidation (R143, R144, R148) -/

/-- R143: a place whose entry is keyed to a dropped source. -/
def Place.drop (hit : Source → Bool) : Place → Place
  | .valid k d => if hit k.source then .empty else .valid k d
  | .filling k d n => if hit k.source then .discarding n else .filling k d n
  | .empty => .empty
  | .discarding n => .discarding n

/-- Whether a place holds an entry of a dropped source. -/
def Place.hit (hit : Source → Bool) (p : Place) : Bool :=
  match p.key? with
  | some k => hit k.source
  | none => false

/-- R143: every VALID entry of a dropped source becomes EMPTY, every FILLING entry DISCARDING; they leave the recency order. -/
def Engine.dropEntries (e : Engine) (hit : Source → Bool) : Engine :=
  { e with places := e.places.map (Place.drop hit), recency := e.recency.filter fun i => !(e.places[i].hit hit) }

/-- The entries of some sources are dropped. -/
def State.dropEntries (s : State) (hit : Source → Bool) : State := { s with engine := s.engine.dropEntries hit }

/-- Whether a source is a shot's. -/
def Source.isShot (index : Fin 48) (number : Nat) : Source → Bool
  | .shot i n => i == index && n == number
  | .live _ _ => false

/-- Whether a source is a live slot's. -/
def Source.isLive (slot : Fin 2 → Bool) : Source → Bool
  | .live l _ => slot l
  | .shot _ _ => false

/-- Whether the run in progress reads a source (R35). -/
def Engine.runOf (e : Engine) (hit : Source → Bool) : Bool :=
  match e.run with
  | some r => hit r.key.source
  | none => false

/-- Whether the run's key is among the entries of some sources (R144). -/
def Engine.runEntryOf (e : Engine) (hit : Source → Bool) : Bool :=
  match e.run with
  | some r => hit r.key.source && (e.lookup r.key).isSome
  | none => false

/-- R15, R35, R143: the entries of a freed shot are dropped, and its run in progress ends, whether or not its key is among
them yet (log 45). -/
def State.dropFreedShot (s : State) (index : Fin 48) (number : Nat) : State :=
  let s1 := s.dropEntries (Source.isShot index number)
  if s.engine.runOf (Source.isShot index number) then s1.endRun else s1

/-- R43, R143: a RAW-view write of a shot drops its entries; its run in progress stays, its key absent. -/
def State.dropWrittenShot (s : State) (index : Fin 48) (number : Nat) : State := s.dropEntries (Source.isShot index number)

/-- R144: the entries of live slots are dropped; a run whose key was among them ends (log 28). -/
def State.dropLive (s : State) (slot : Fin 2 → Bool) : State :=
  let s1 := s.dropEntries (Source.isLive slot)
  if s.engine.runEntryOf (Source.isLive slot) then s1.endRun else s1

/-- R148: CLEAR_BUFFER's part: the row cache emptied, the run in progress ended, the tether stream IDLE. -/
def State.clearEngine (s : State) : State :=
  let s1 := (s.dropEntries fun _ => true).endRun
  { s1 with engine := { s1.engine with stream := none, staging := Vector.replicate 2 none } }

/-! ### Runs (R135-R137, R142, R147) -/

/-- R37, R45: the view of a link byte address in a view window, and the offset within it. -/
def viewOf (a : Nat) : Fin 4 := Fin.ofNat 4 ((a - 0x90000000) / 0x10000000)
def viewOffset (a : Nat) : Nat := (a - 0x90000000) % 0x10000000

/-- The byte address of a beat address (R29). -/
def byteAddr (a : BitVec 29) : Nat := 8 * a.toNat

/-- R137 case 4, R44: the source key and the geometry a DEVELOPED view's read is developed from. -/
def State.viewRun (s : State) (v : View) : Option (Source × Geometry) :=
  match v.source with
  | .shot i n => (s.shotAt { index := i, number := n }).map fun x => (.shot i n, x.geom)
  | .live =>
    match s.windows.designation, s.windows.liveGeom with
    | some d, some g => some (.live d s.windows.liveCount, g)
    | _, _ => none

/-- R45: the run of a view offset of a developed image. -/
def runAt (src : Source) (g : Geometry) (o : Nat) : Key × Nat :=
  ({ source := src, row := o / (2 * g.width) }, o % (2 * g.width) / 256)

/-- R137: the run the engine takes for a develop-lane read, or `none` where the read is answered with zeros. -/
def State.laneRun (s : State) (r : LaneRead) : Option Run :=
  let o := viewOffset (byteAddr r.addr)
  match s.windows.views[viewOf (byteAddr r.addr)] with
  | none => none
  | some v =>
    if v.developed then
      match s.viewRun v with
      | none => none
      | some (src, g) =>
        if g.developedBytes ≤ o then none
        else
          some { client := .lane, key := (runAt src g o).1, geom := g, run := (runAt src g o).2,
                 profile := s.tables.profiles[v.profile], stream := v.stream }
    else none

/-- R147: the tether stream wants a run. A freed shot has no page, so that a run of it is developed from zeros (R141,
log 27). -/
def State.streamWants (s : State) : Option Stream :=
  match s.engine.stream with
  | none => none
  | some t =>
    if ((List.finRange 2).any fun i => (s.engine.staging[i]).isNone) && t.nextRow < t.geom.height / 2 then some t else none

/-- R147: the stream's next run advances. -/
def Stream.advance (t : Stream) : Stream :=
  if t.nextRun + 1 < t.geom.runs then { t with nextRun := t.nextRun + 1 } else { t with nextRow := t.nextRow + 1, nextRun := 0 }

/-- R147: the run the engine takes for the tether stream. -/
def State.streamRun (s : State) (t : Stream) : Run :=
  { client := .tether, key := { source := .shot t.index t.number, row := t.nextRow }, geom := t.geom, run := t.nextRun,
    profile := s.tables.profiles[t.profile], stream := false }

/-- R142, R147: the engine takes the stream's next run; run 0 of a row first prefetches the next row. -/
def State.takeStreamRun (s : State) (t : Stream) : State :=
  let k : Key := { source := .shot t.index t.number, row := t.nextRow + 1 }
  let s1 := { s with engine := { s.engine with run := some (s.streamRun t), stream := some t.advance } }
  if t.nextRun = 0 then s1.prefetch k t.geom else s1

/-- R35, R45: the beats a read asked for, from the 256 bytes of its run. -/
def LaneRead.fromRun (r : LaneRead) (run : List Byte) : List Byte := (run.drop (byteAddr r.addr % 256)).take (8 * r.count)

/-- R147: a completed tether run fills the lowest-numbered EMPTY staging place. -/
def Engine.stage (e : Engine) (x : Staged) : Engine :=
  match (List.finRange 2).find? fun i => (e.staging[i]).isNone with
  | some i => { e with staging := e.staging.set i (some x) }
  | none => e

/-- R135, R142: the run in progress completes from the VALID place `p`. The prefetch that the last run of a row of a STREAM view
brings about is made before the engine picks its next run (log 46). -/
def State.completeRun (s : State) (r : Run) (p : Fin 4) (pair : List Byte) : State :=
  let out := developRun r.geom r.profile pair r.run
  let s1 := { s with engine := { s.engine with run := none, recency := p :: dropElem p s.engine.recency } }
  match r.client with
  | .lane =>
    let s2 := s1.answerLane fun q => q.fromRun out
    if r.stream && r.run + 1 == r.geom.runs then s2.prefetch { r.key with row := r.key.row + 1 } r.geom else s2
  | .tether => { s1 with engine := s1.engine.stage { row := r.key.row, run := r.run, data := out } }

/-- R136: the engine picks its next run; `none` when it stays idle. -/
def State.pickRun (s : State) : Option State :=
  match s.link.develop with
  | r :: _ =>
    match s.laneRun r with
    | some run => some { s with engine := { s.engine with run := some run } }
    | none => some (s.answerLane LaneRead.zeros)
  | [] =>
    match s.streamWants with
    | some t => some (s.takeStreamRun t)
    | none => none

/-- R135, R136, R140: one action of the engine; `none` when it is idle with nothing to take, or waits for a fill or a place. -/
def State.engineAct (s : State) : Option State :=
  match s.engine.run with
  | none => s.pickRun
  | some r =>
    match s.engine.lookup r.key with
    | some p =>
      match s.engine.places[p] with
      | .valid _ pair => some (s.completeRun r p pair)
      | _ => none
    | none =>
      match s.engine.makePlace with
      | some (p, e) => some ({ s with engine := e }.startFill p r.key r.geom)
      | none => none

/-- The engine acts until it is idle or waits. A read of the lane takes at most three actions and the stream stages at most
two runs, so the fuel of `engineSettle` is never short in a state the part can reach. -/
def State.engineActs : Nat → State → State
  | 0, s => s
  | n + 1, s =>
    match s.engineAct with
    | some s1 => s1.engineActs n
    | none => s

/-- The engine's actions that follow an event (R136, R140). -/
def State.engineSettle (s : State) : State := s.engineActs 128

/-! ### The tether stream's ends (R146) -/

/-- R146: the stream becomes ACTIVE for an item, from row 0, run 0, both places EMPTY. -/
def State.streamStart (s : State) (t : Stream) : State :=
  { s with engine := { s.engine with stream := some t, staging := Vector.replicate 2 none } }

/-- R146: the stream becomes IDLE, both places EMPTY; a tether run in progress ends and its bytes are discarded. -/
def State.streamEnd (s : State) : State :=
  let run := match s.engine.run with
    | some r => if r.client = .tether then none else some r
    | none => none
  { s with engine := { s.engine with run := run, stream := none, staging := Vector.replicate 2 none } }

end Sys2Proof.Machine
end

