-- ==== Sys2Proof/Machine/Shots.lean ====
section
/-! DEFINITION. The page pool and the shot table: opening, page assignment, completion, keeping, freeing, eviction, promotion
and lapse (chapter 1), and the entries of the tether queue (R169, R170). -/

namespace Sys2Proof.Machine

/-! ### Tether queue entries (R169-R171) -/

/-- R169: the order of the queue: the URGENT list, then the NORMAL list. -/
def TetherQueue.order (q : TetherQueue) : List ShotRef := q.urgent ++ q.normal

/-- R169: a shot leaves the queue. -/
def TetherQueue.leave (q : TetherQueue) (r : ShotRef) : TetherQueue :=
  { urgent := dropElem r q.urgent, normal := dropElem r q.normal }

/-- R170: a shot enters at the tail, or at the head, of the list of a class. -/
def TetherQueue.enter (q : TetherQueue) (cls : TetherClass) (atHead : Bool) (r : ShotRef) : TetherQueue :=
  match cls, atHead with
  | .urgent, true => { q with urgent := r :: q.urgent }
  | .urgent, false => { q with urgent := q.urgent ++ [r] }
  | .normal, true => { q with normal := r :: q.normal }
  | .normal, false => { q with normal := q.normal ++ [r] }

/-- A shot's tether part changed, where it has one. -/
def Shot.mapTether (x : Shot) (f : TetherPart → TetherPart) : Shot := { x with tether := x.tether.map f }

/-- A shot's tether state set. -/
def Shot.withTetherState (x : Shot) (st : TetherState) : Shot := x.mapTether fun t => { t with state := st }

/-- R170: the shot at an index enters the queue by the class of its tether part, its tether state becomes QUEUED, and its
mirror record is marked. -/
def State.enqueue (s : State) (i : Fin 48) (atHead : Bool) : State :=
  match s.record i with
  | some x =>
    match x.tether with
    | some t =>
      (({ s with queue := s.queue.enter t.cls atHead { index := i, number := x.number } }).modifyShot i
        fun x => x.withTetherState .queued).mark (.mirror i)
    | none => s
  | none => s

/-! ### Freeing (R15, R16) -/

/-- R15 step 3, R153: the raw reads in flight for an item are discarded when they end, and its raw places are EMPTY. -/
def State.abandonRaw (s : State) : State :=
  { s with
    tport := { s.tport with raw := Vector.replicate 2 .empty }
    port := { s.port with tether := s.port.tether.map fun r => { r with wanted := false } } }

/-- R15 step 3: the item on the port of a freed shot takes no further word from its pages. -/
def State.dropItemPages (s : State) (r : ShotRef) : State :=
  match s.tport.item with
  | some it => if it.source = r then s.abandonRaw else s
  | none => s

/-- R15: the record at an index is freed. -/
def State.freeShot (s : State) (i : Fin 48) : State :=
  match s.record i with
  | none => s
  | some x =>
    let s1 := { s with pool := { s.pool with free := s.pool.free ++ x.pages } }
    let s2 := (s1.dropFreedShot i x.number).dropItemPages { index := i, number := x.number }
    let s3 := s2.setRecord i none
    { s3 with shots := { s3.shots with preList := dropElem i s3.shots.preList } }

/-! ### Pre-capture (R22-R26) -/

/-- Whether the shot at an index has view count 0. -/
def State.unviewed (s : State) (i : Fin 48) : Bool :=
  match s.record i with
  | some x => x.views == 0
  | none => false

/-- R22: the unviewed shots of the pre-capture list, oldest first. -/
def State.unviewedList (s : State) : List (Fin 48) := s.shots.preList.filter s.unviewed

/-- R22: one eviction. -/
def State.evict (s : State) (i : Fin 48) : State := (s.freeShot i).raise .preEvicted

/-- Evictions one by one, in list order. -/
def State.evictAll (s : State) (is : List (Fin 48)) : State := is.foldl State.evict s

/-- R22: the oldest unviewed shots are evicted until the unviewed count is at most N. -/
def State.depthCheck (s : State) : State := s.evictAll (s.unviewedList.take (s.unviewedList.length - s.depth))

/-- R16: the freeing check, by the record's state after the change. -/
def State.freeingCheck (s : State) (i : Fin 48) : State :=
  match s.record i with
  | none => s
  | some x =>
    match x.state with
    | .kept => if x.holds = Holds.empty ∧ x.views = 0 then s.freeShot i else s
    | .discarded => if x.views = 0 then s.freeShot i else s
    | .provisional => if x.views = 0 then s.depthCheck else s
    | .filling => s

/-- R65 conditions 2 and 3: a record is FREE and the pages not reserved cover the need. -/
def State.hasRoom (s : State) (need : Nat) : Bool := s.lowestFree.isSome && s.pool.reservation + need ≤ s.pool.free.length

/-- R23: unviewed provisional shots are evicted, oldest first, until there is room. -/
def State.makeRoom (s : State) (need : Nat) : List (Fin 48) → State
  | [] => s
  | i :: is => if s.hasRoom need then s else (s.evict i).makeRoom need is

/-! ### Becoming KEPT (R13) -/

/-- R13 step 3: the tether part that a policy gives. -/
def TetherPolicy.part (p : TetherPolicy) (profile : Fin 8) : Option TetherPart :=
  match p with
  | .none => Option.none
  | .raw => some { kind := .raw, profile := profile, state := .queued, cls := .normal, attempts := 0 }
  | .developed => some { kind := .developed, profile := profile, state := .queued, cls := .normal, attempts := 0 }

/-- R13 steps 1 to 3: the record of a shot that becomes KEPT. -/
def Shot.kept (x : Shot) : Shot :=
  { x with
    state := .kept, destiny := none, lapsed := false
    holds := { x.holds with card := x.holds.card || x.cardHold, tether := x.holds.tether || x.policy != .none }
    tether := x.policy.part x.tetherProfile }

/-- R13: the record at an index becomes KEPT. -/
def State.becomeKept (s : State) (i : Fin 48) : State :=
  let s1 := ((s.modifyShot i Shot.kept).enqueue i false).raise .shotKept
  match s1.record i with
  | some x => if x.holds = Holds.empty ∧ x.views = 0 then s1.freeShot i else s1
  | none => s1

/-- The table index of the SHOT frame in flight. -/
def State.fillingIndex (s : State) : Option (Fin 48) :=
  match s.intake.frame with
  | some f => match f.kind with
    | .shot i => some i
    | .live _ => none
  | none => none

/-- A FILLING record with destiny PROVISIONAL. -/
def Shot.fillingProvisional (x : Shot) : Bool := x.state == .filling && x.destiny == some .provisional

/-- The record of the SHOT frame in flight changed. -/
def State.modifyFilling (s : State) (f : Shot → Shot) : State :=
  match s.fillingIndex with
  | some i => s.modifyShot i f
  | none => s

/-- R25: promotion at the full press. -/
def State.promote (s : State) : State :=
  let s1 := s.shots.preList.foldl State.becomeKept s
  let s2 := { s1 with shots := { s1.shots with preList := [] } }
  s2.modifyFilling fun x => if x.fillingProvisional && !x.lapsed then { x with destiny := some .kept } else x

/-- R26 step 1: a provisional shot leaves at the end of the half press. -/
def State.lapseShot (s : State) (i : Fin 48) : State :=
  if s.unviewed i then s.freeShot i else s.modifyShot i fun x => { x with state := .discarded, holds := Holds.empty }

/-- R26: the pre-capture lapses at the end of the half press. -/
def State.lapse (s : State) : State :=
  let s1 := s.shots.preList.foldl State.lapseShot s
  let s2 := { s1 with shots := { s1.shots with preList := [] } }
  s2.modifyFilling fun x => if x.fillingProvisional then { x with lapsed := true } else x

/-! ### A shot's frame (R6, R10-R12, R14) -/

/-- R11: the number after a shot number. -/
def nextNumber (n : Nat) : Nat := if n = 65535 then 1 else n + 1

/-- R11: the first number from `n` on that no record in use holds. -/
def searchNumber (held : List Nat) : Nat → Nat → Nat
  | 0, n => n
  | k + 1, n => if held.contains n then searchNumber held k (nextNumber n) else n

/-- The shot numbers of the records in use. -/
def State.heldNumbers (s : State) : List Nat := (List.finRange 48).filterMap fun i => (s.record i).map (·.number)

/-- R11: the number the next shot takes. -/
def State.newNumber (s : State) : Nat := searchNumber s.heldNumbers 48 s.shots.counter

/-- R10: the record of a new shot. -/
def newShot (number : Nat) (c : Fin 4) (p : Capture) (destiny : Destiny) (time : Word32) : Shot :=
  { number := number, state := .filling, destiny := some destiny, lapsed := false, pre := destiny == .provisional,
    profile := c, geom := p.geom, cardHold := p.cardHold, policy := p.policy, tetherProfile := p.tetherProfile,
    trigTime := time, pages := [], holds := Holds.empty, views := 0, tether := none, focus := none }

/-- R7, R10, R11: a shot trigger opens the record at `i` and adds the frame's need to the reservation. -/
def State.openShot (s : State) (i : Fin 48) (c : Fin 4) (p : Capture) (destiny : Destiny) : State :=
  let n := s.newNumber
  let s1 := s.setRecord i (some (newShot n c p destiny s.timeBase))
  { s1 with
    shots := { s1.shots with counter := nextNumber n }
    pool := { s1.pool with reservation := s1.pool.reservation + p.geom.need } }

/-- R6: the pages the page list lacks up to index `k` are taken from the head of the free list. -/
def State.assignPages (s : State) (i : Fin 48) (k : Nat) : State :=
  match s.record i with
  | none => s
  | some x =>
    let got := s.pool.free.take (k + 1 - x.pages.length)
    let s1 := { s with pool := { s.pool with free := s.pool.free.drop got.length, reservation := s.pool.reservation - got.length } }
    s1.setRecord i (some { x with pages := x.pages ++ got })

/-- R7: the reservation is released. -/
def State.releaseReservation (s : State) : State := { s with pool := { s.pool with reservation := 0 } }

/-- R12: the record of a completed frame moves on. -/
def State.completeShot (s : State) (i : Fin 48) : State :=
  let s0 := s.releaseReservation
  match s0.record i with
  | none => s0
  | some x =>
    if x.lapsed then s0.freeShot i
    else if x.destiny = some .kept then s0.becomeKept i
    else
      let s1 := s0.modifyShot i fun x => { x with state := .provisional, destiny := none }
      ({ s1 with shots := { s1.shots with preList := s1.shots.preList ++ [i] } }).depthCheck

/-- R14: the record of an aborted frame: its pages return to the free list, the reservation is released, it is freed. -/
def State.abortShot (s : State) (i : Fin 48) : State :=
  match s.record i with
  | none => s.releaseReservation
  | some x =>
    let s1 := ({ s with pool := { s.pool with free := s.pool.free ++ x.pages } }).releaseReservation
    (s1.modifyShot i fun x => { x with pages := [] }).freeShot i

end Sys2Proof.Machine
end

