-- ==== Sys2Proof/Machine/Phase.lean ====
section
/-! DEFINITION. Phase detection: the PD extractor's row store and accumulators, and the zone results (chapter 4). -/

namespace Sys2Proof.Machine

/-! ### Sites, rows and zones (R77-R80) -/

/-- R77: the number of PD rows of a frame. -/
def pdRows (g : Geometry) (phase : Nat) : Nat := if g.height ≤ phase then 0 else (g.height - 1 - phase) / 16 + 1

/-- R77: the number of sites of a PD row. -/
def pdSites (g : Geometry) : Nat := g.width / 16

/-- R78: a sample word reduced to 10 bits. -/
def reduceSample (g : Geometry) (v : Nat) : Nat := cap g.sampleMax v / 2 ^ (g.bits - 10)

/-- R79: the zone width w and the number of terms n of each sum. -/
def Zone.width (z : Zone) : Nat := z.k1 + 1 - z.k0
def Zone.terms (z : Zone) : Nat := z.width - 16

/-- R80: the standing of a zone for a frame. -/
def Zone.standing (z : Zone) (g : Geometry) (phase : Nat) : Standing :=
  if z.enabled then
    if pdSites g ≤ z.k1 || pdRows g phase ≤ z.j1 then .outside else .active
  else .disabled

/-! ### Accumulation (R81-R85) -/

/-- R81: the row store with no sample taken. -/
def emptyStore (g : Geometry) : List Site := List.replicate (pdSites g) { left := none, right := none }

/-- R81: the extractor at a frame opening. -/
def State.openPhase (s : State) (c : FrameCopy) : State :=
  { s with
    phase := { s.phase with
      copy := some c, row := some 0, store := emptyStore c.geom
      zones := c.zones.zone.map fun z => ZoneSums.clear (z.standing c.geom c.zones.rowPhase) } }

/-- R94: the extractor after an abort or between frames: no frame, current row DONE, everything cleared, and every zone's
standing DISABLED (log 43). -/
def State.closePhase (s : State) : State :=
  { s with phase := { s.phase with copy := none, row := none, store := [], zones := Vector.replicate 12 (ZoneSums.clear .disabled) } }

/-- R82 case 5: the 16-bit word at frame offset `p`, where both its bytes lie in the write with their flags set. -/
def writtenWord (off : Nat) (bytes : List (Option Byte)) (p : Nat) : Option Nat :=
  if p < off then none
  else
    match bytes[p - off]?, bytes[p + 1 - off]? with
    | some (some a), some (some b) => some (leNat [a, b])
    | _, _ => none

/-- R77: the frame offset of the sample at an offset column of site `k` of PD row `j`. -/
def siteOffset (c : FrameCopy) (j k col : Nat) : Nat := (16 * j + c.zones.rowPhase) * (2 * c.geom.width) + (16 * k + col) * 2

/-- R82 case 5: a site after a write of its row: a sample taken again replaces the earlier value. -/
def takeSite (c : FrameCopy) (j off : Nat) (bytes : List (Option Byte)) (k : Nat) (x : Site) : Site :=
  { left := ((writtenWord off bytes (siteOffset c j k c.zones.leftOffset)).map (reduceSample c.geom)).or x.left
    right := ((writtenWord off bytes (siteOffset c j k c.zones.rightOffset)).map (reduceSample c.geom)).or x.right }

/-- R84: a row counts for a zone when every site from k0 to k1 has both samples taken. -/
def rowCounts (z : Zone) (store : List Site) : Bool :=
  (List.range z.width).all fun i =>
    match store[z.k0 + i]? with
    | some x => x.left.isSome && x.right.isSome
    | none => false

/-- The left, or the right, reduced sample of a site. -/
def leftAt (store : List Site) (k : Nat) : Nat := ((store[k]?.bind (·.left))).getD 0
def rightAt (store : List Site) (k : Nat) : Nat := ((store[k]?.bind (·.right))).getD 0

/-- |a − b|. -/
def absDiff (a b : Nat) : Nat := a - b + (b - a)

/-- R85: SAD(s) of a zone over the row store, for the shift s = t − 8. -/
def sad (z : Zone) (store : List Site) (t : Nat) : Nat :=
  ((List.range z.terms).map fun i => absDiff (leftAt store (z.k0 + 8 + i)) (rightAt store (z.k0 + i + t))).sum

/-- R84, R85: a zone's accumulators after PD row `j` ends. -/
def countRow (z : Zone) (j : Nat) (store : List Site) (a : ZoneSums) : ZoneSums :=
  if a.standing = .active ∧ z.j0 ≤ j ∧ j ≤ z.j1 ∧ rowCounts z store then
    { a with rowsUsed := a.rowsUsed + 1, sums := a.sums.mapIdx fun t v => v + sad z store t }
  else a

/-- R83: PD row `j` ends: it is counted, the taken marks are cleared, and `next` becomes the current PD row. -/
def PhaseUnit.endRow (p : PhaseUnit) (c : FrameCopy) (j : Nat) (next : Option Nat) : PhaseUnit :=
  { p with
    zones := Vector.ofFn fun i : Fin 12 => countRow c.zones.zone[i] j p.store p.zones[i]
    store := emptyStore c.geom
    row := next }

/-- R83: the PD row after row `j` ended by its last byte. -/
def rowAfter (c : FrameCopy) (j : Nat) : Option Nat := if j + 1 < pdRows c.geom c.zones.rowPhase then some (j + 1) else none

/-- R82 case 5: a notice of the current PD row `j` is taken; the row ends if the write covers its last byte. -/
def PhaseUnit.takeNotice (p : PhaseUnit) (c : FrameCopy) (j off : Nat) (bytes : List (Option Byte)) : PhaseUnit :=
  let p1 := { p with store := p.store.mapIdx (takeSite c j off bytes) }
  if off + bytes.length = (16 * j + c.zones.rowPhase + 1) * (2 * c.geom.width) then p1.endRow c j (rowAfter c j) else p1

/-- R82: the notice of a capture write performed for the frame in flight. -/
def PhaseUnit.notice (p : PhaseUnit) (off : Nat) (bytes : List (Option Byte)) : PhaseUnit :=
  match p.copy, p.row with
  | some c, some cur =>
    let r := off / (2 * c.geom.width)
    if r % 16 ≠ c.zones.rowPhase then p
    else
      let j := r / 16
      if j < cur then p
      else if cur < j then (p.endRow c cur (some j)).takeNotice c j off bytes
      else p.takeNotice c j off bytes
  | _, _ => p

/-! ### The zone result (R86-R92) -/

/-- R86: the result of a zone that is not evaluated further than its status. -/
def ZoneResult.blank (st : ZoneStatus) : ZoneResult :=
  { status := st, rowsUsed := 0, terms := 0, shift := 0, subSite := 0, disparity := 0, confidence := 0, least := 0, total := 0,
    edge := .none }

/-- The least of the accumulators. -/
def leastSum (sums : List Nat) : Nat := sums.foldl min (sums.headD 0)

/-- R88: the shifts (as indices s + 8) in the order in which a tie is decided: smaller size first, then the negative one. -/
def shiftOrder : List Nat := [8, 7, 9, 6, 10, 5, 11, 4, 12, 3, 13, 2, 14, 1, 15, 0, 16]

/-- R88: the index of the best shift. -/
def bestShift (sums : List Nat) : Nat := (shiftOrder.find? fun t => sums.getD t 0 == leastSum sums).getD 8

/-- R89: the sub-site offset q, from the least sum and its two neighbours. -/
def subSite (a b c : Nat) : Int :=
  let d := a + c - 2 * b
  if d = 0 then 0 else clamp (-2) 2 (roundHalfAway (2 * ((a : Int) - c)) d)

/-- R91: the confidence. -/
def confidence (total least rows terms : Nat) : Nat := cap 255 ((total / 17 - least) / (rows * terms))

/-- R87-R91: the result of an active zone. -/
def evalActive (zs : Zones) (z : Zone) (a : ZoneSums) : ZoneResult :=
  let head := { ZoneResult.blank .fewRows with rowsUsed := a.rowsUsed, terms := z.terms }
  if a.rowsUsed < 2 then head
  else
    let t := bestShift a.sums
    let b := leastSum a.sums
    let found := { head with shift := (t : Int) - 8, least := b, total := a.sums.sum }
    if t = 16 then { found with status := .edge, edge := .near }
    else if t = 0 then { found with status := .edge, edge := .far }
    else
      let q := subSite (a.sums.getD (t - 1) 0) b (a.sums.getD (t + 1) 0)
      let k := confidence a.sums.sum b a.rowsUsed z.terms
      { found with
        subSite := q, disparity := 4 * ((t : Int) - 8) + q - zs.zero, confidence := k
        status := if zs.confMin ≤ k then .valid else .lowConfidence }

/-- R86: the result of a zone by its standing. -/
def evalZone (zs : Zones) (z : Zone) (a : ZoneSums) : ZoneResult :=
  match a.standing with
  | .disabled => ZoneResult.blank .disabled
  | .outside => ZoneResult.blank .outside
  | .active => evalActive zs z a

/-- R86, R92: the result set of a completed frame. -/
def PhaseUnit.evaluate (p : PhaseUnit) (c : FrameCopy) : ResultSet :=
  { zones := Vector.ofFn fun i : Fin 12 => evalZone c.zones c.zones.zone[i] p.zones[i]
    serial := c.serial, isShot := c.isShot, trigTime := c.trigTime, shot := c.shot }

end Sys2Proof.Machine
end

