-- ==== Sys2Proof/Machine/LensMotion.lean ====
section
/-! DEFINITION. The lens drive: steps, homing, motion, backlash, retargeting, settling and lens removal (5.7-5.9, 5.11). -/

namespace Sys2Proof.Machine

/-- R111: the moment the STEP pulse of a step that begins at `at_` ends: half the step period, rounded down. -/
def pulseEnd (c : GroupSettings) (at_ : Nat) : Nat := at_ + c.stepPeriod / 2

/-- R111: the lines of a step that begins at a boundary, and the next boundary. -/
def GroupDrive.pulse (g : GroupDrive) (c : GroupSettings) (at_ : Nat) (up : Bool) : GroupDrive :=
  { g with dir := up, step := true, stepEnd := some (pulseEnd c at_), boundary := some (at_ + c.stepPeriod) }

/-- R111: one step of a moving group. -/
def GroupDrive.stepOnce (g : GroupDrive) (c : GroupSettings) (at_ : Nat) (up : Bool) : GroupDrive :=
  { g.pulse c at_ up with position := if up then g.position + 1 else g.position - 1 }

/-- R116: the waypoint W = max(0, T − B). -/
def waypointOf (c : GroupSettings) (t : Nat) : Nat := t - c.backlash

/-- R116: motion toward `t` starts at a moment, with the group's first step. -/
def GroupDrive.startMotion (g : GroupDrive) (c : GroupSettings) (at_ t : Nat) : GroupDrive :=
  let g1 := { g with state := .moving, target := some t, pending := none, settleAt := none }
  if g.position < t then { g1 with leg := .ascend, waypoint := none }.stepOnce c at_ true
  else { g1 with leg := .descend, waypoint := some (waypointOf c t) }.stepOnce c at_ false

/-- R115: a group takes its own target according to its state. An IDLE group handed a target equal to its position stays as
it is, its target field too (log 44). -/
def GroupDrive.takeTarget (g : GroupDrive) (c : GroupSettings) (at_ t : Nat) : GroupDrive :=
  match g.state with
  | .unhomed | .homing | .fault => g
  | .idle | .settling => if t = g.position then g else g.startMotion c at_ t
  | .moving => if g.target = some t then { g with pending := none } else { g with pending := some t }

/-- R117: a pending target is taken at a step boundary, and the leg is chosen again. -/
def GroupDrive.takePending (g : GroupDrive) (c : GroupSettings) : GroupDrive :=
  match g.pending with
  | none => g
  | some t =>
    let g1 := { g with target := some t, pending := none }
    let descend := { g1 with leg := .descend, waypoint := some (waypointOf c t) }
    let ascend := { g1 with leg := .ascend, waypoint := none }
    if g.leg = .descend then (if waypointOf c t < g.position then descend else ascend)
    else if g.position ≤ t then ascend else descend

/-- R116 case 2: the group settles at its target; with SETTLE_TIME 0 it becomes IDLE at once. -/
def GroupDrive.settle (g : GroupDrive) (c : GroupSettings) (at_ : Nat) : GroupDrive :=
  let g1 := { g with leg := .none, waypoint := none, boundary := none }
  if c.settleTime = 0 then { g1 with state := .idle, settleAt := none }
  else { g1 with state := .settling, settleAt := some (at_ + c.settleTime) }

/-- R116: what a MOVING group does at a step boundary, after any pending target has been taken. -/
def GroupDrive.boundaryAct (g : GroupDrive) (c : GroupSettings) (at_ : Nat) : GroupDrive :=
  if g.leg = .descend then
    if g.waypoint = some g.position then
      let g1 := { g with leg := .ascend, waypoint := none }
      if g.target = some g.position then g1.settle c at_ else g1.stepOnce c at_ true
    else g.stepOnce c at_ false
  else if g.target = some g.position then g.settle c at_
  else g.stepOnce c at_ true

/-- R112: a group starts homing. A MOVING group keeps the boundary that ends its period; any other homes at once. -/
def GroupDrive.startHoming (g : GroupDrive) (now : Nat) : GroupDrive :=
  { g with
    state := .homing, leg := .none, position := 0, target := none, waypoint := none, pending := none, homingSteps := 0,
    settleAt := none, boundary := if g.state = .moving then g.boundary else some now }

/-- R113: what a HOMING group does at a homing boundary, by its HOME line. -/
def GroupDrive.homingAct (g : GroupDrive) (c : GroupSettings) (at_ : Nat) (home : Bool) : GroupDrive :=
  if home then { g with state := .idle, position := 0, homingSteps := 0, boundary := none }
  else if c.homeLimit ≤ g.homingSteps then { g with state := .fault, homingSteps := 0, boundary := none }
  else { g.pulse c at_ false with homingSteps := g.homingSteps + 1 }

/-- R119: a group at the loss of the lens. -/
def GroupDrive.lose (g : GroupDrive) : GroupDrive :=
  { g with
    state := .unhomed, leg := .none, position := 0, target := none, waypoint := none, pending := none, homingSteps := 0,
    settleAt := none, boundary := none, stepEnd := none, step := false }

/-! ### The lens drive in the state -/

/-- R112, R113: the HOME line of a group, active HIGH. -/
def Pins.home (p : Pins) : Group → Bool
  | .g0 => p.homeG0
  | .g1 => p.homeG1

/-- R113: a homing boundary of a group: LENS_FAULT at the limit. -/
def State.homingStep (s : State) (g : Group) (at_ : Nat) : State :=
  match s.tables.lens with
  | none => s
  | some l =>
    let d := (s.lens.group g).homingAct (l.group g) at_ (s.pins.home g)
    let s1 := s.setGroup g d
    if d.state = .fault then s1.raise .lensFault else s1

/-- R183: the codes of the group states (R185). -/
def GroupState.code : GroupState → Nat
  | .unhomed => 0 | .homing => 1 | .idle => 2 | .moving => 3 | .settling => 4 | .fault => 5

/-- R114: the results beat of HOME_LENS. -/
def LensDrive.homingResults (l : LensDrive) : Beat :=
  results [l.g0.state.code, l.g0.position, l.g1.state.code, l.g1.position]

/-- R114: HOME_LENS completes when both groups have left HOMING. -/
def State.homingEnd (s : State) : State :=
  match s.lens.homing with
  | none => s
  | some slot =>
    if s.lens.g0.state = .homing ∨ s.lens.g1.state = .homing then s
    else
      let s1 := { s with lens := { s.lens with homing := none } }
      if s.lens.g0.state = .idle ∧ s.lens.g1.state = .idle then
        (s1.raise .lensHomed).complete slot .done s.lens.homingResults
      else s1.complete slot .wrongState s.lens.homingResults

/-- R114, R119: the loss of the lens completes a HOME_LENS in progress with NO_LENS. -/
def State.loseLens (s : State) : State :=
  let lens := { s.lens with g0 := s.lens.g0.lose, g1 := s.lens.g1.lose, homing := none }
  let s1 := ({ s with lens := lens }).raise .lensLost
  match s.lens.homing with
  | none => s1
  | some slot => s1.complete slot .noLens lens.homingResults

/-- R105, R115: both targets are handed to the lens drive together. -/
def State.handTargets (s : State) (t : TargetPair) : State :=
  match s.tables.lens with
  | none => s
  | some l =>
    { s with
      lens := { s.lens with
        g0 := s.lens.g0.takeTarget l.g0 s.now t.g0
        g1 := s.lens.g1.takeTarget l.g1 s.now t.g1 } }

end Sys2Proof.Machine
end

