-- ==== Sys2Proof/Machine/FocusControl.lean ====
section
/-! DEFINITION. Focus control: focus states, acting on an evaluated frame, targets, the focus-priority condition and the
shot focus record (5.1-5.5). -/

namespace Sys2Proof.Machine

/-! ### Focus states (R97, R106) -/

/-- R97: the focus state, from the mode, the groups, the half press, and whether the state is LOCKED now. -/
def State.focusStateNow (s : State) : FocusState :=
  match s.focus.mode with
  | .off => .off
  | .single =>
    if !s.lensHomed then .noLens else if !s.halfPress then .idle
    else if s.focus.state = .locked then .locked else .acquiring
  | .tracking => if !s.lensHomed then .noLens else if !s.halfPress then .idle else .tracking

/-- R97: the focus state is derived again. -/
def State.deriveFocus (s : State) : State := { s with focus := { s.focus with state := s.focusStateNow } }

/-- R106: the focus-priority condition. -/
def State.focusPriority (s : State) : Bool :=
  match s.focus.state with
  | .locked | .off | .noLens => true
  | .tracking => s.focus.lastInFocus && s.lens.g0.state == .idle && s.lens.g1.state == .idle
  | .idle | .acquiring => false

/-! ### Zone and focus (R99-R101) -/

/-- A zone of a result set is VALID. -/
def ResultSet.valid (r : ResultSet) (i : Fin 12) : Bool := (r.zones[i]).status == .valid

/-- R99 NEAREST: the VALID zone with the largest d, of the lowest index. -/
def ResultSet.nearest (r : ResultSet) : Option (Fin 12) :=
  (List.finRange 12).foldl (init := none) fun best i =>
    if r.valid i then
      match best with
      | none => some i
      | some b => if (r.zones[b]).disparity < (r.zones[i]).disparity then some i else some b
    else best

/-- R99: JUMP_LIMIT and IN_FOCUS_BAND, 0 while no LENS table is valid. -/
def State.jumpLimit (s : State) : Nat := (s.tables.lens.map (·.jumpLimit)).getD 0
def State.inFocusBand (s : State) : Nat := (s.tables.lens.map (·.inFocusBand)).getD 0

/-- R99: the zone to follow. -/
def State.chooseZone (s : State) (r : ResultSet) : Option (Fin 12) :=
  match s.focus.selection with
  | .fixed => if r.valid s.focus.fixedZone then some s.focus.fixedZone else none
  | .nearest => r.nearest
  | .sticky =>
    match s.focus.lastZone with
    | some z =>
      if r.valid z && ((r.zones[z]).disparity - s.focus.lastDisparity).natAbs ≤ s.jumpLimit then some z else r.nearest
    | none => r.nearest

/-- The edge hint of a zone of status EDGE (R100). -/
def ZoneResult.hint (z : ZoneResult) : Edge := if z.status = .edge then z.edge else .none

/-- R100: the edge hint of a frame for which no zone was chosen. -/
def State.edgeHint (s : State) (r : ResultSet) : Edge :=
  match s.focus.selection with
  | .fixed => (r.zones[s.focus.fixedZone]).hint
  | .nearest | .sticky =>
    if (List.finRange 12).any fun i => (r.zones[i]).hint == .near then .near
    else if (List.finRange 12).any fun i => (r.zones[i]).hint == .far then .far
    else .none

/-- R101: a frame is in focus when a zone is chosen and the size of its d is at most IN_FOCUS_BAND. -/
def State.frameInFocus (s : State) (zone : Option (Fin 12)) (d : Int) : Bool := zone.isSome && d.natAbs ≤ s.inFocusBand

/-! ### Targets (R102-R105) -/

/-- The first and last knot positions (R103). -/
def Lens.firstX (l : Lens) : Nat := (l.knots.headD (0, 0)).1
def Lens.lastX (l : Lens) : Nat := (l.knots.getLastD (0, 0)).1

/-- R105: G1's position on the segment from `a` to `b` at G0 position `t`: y_i plus the quotient, the whole rounded. -/
def interpolate (a b : Nat × Nat) (t : Nat) : Nat :=
  let dx : Nat := b.1 - a.1
  (roundHalfAway ((a.2 : Int) * dx + ((b.2 : Int) - a.2) * ((t : Int) - a.1)) dx).toNat

/-- R105: the G1 target along a knot table, for a T below x_last: the first segment with x_i ≤ T < x_(i+1). -/
def g1Along : List (Nat × Nat) → Nat → Nat
  | a :: b :: rest, t => if a.1 ≤ t ∧ t < b.1 then interpolate a b t else g1Along (b :: rest) t
  | [a], _ => a.2
  | [], _ => 0

/-- R105: the G1 target of a G0 target: y_last at x_last, else along the table. -/
def Lens.g1Target (l : Lens) (t : Nat) : Nat := if t = l.lastX then (l.knots.getLastD (0, 0)).2 else g1Along l.knots t

/-- R103: a G0 target clamped to the knot range, with its LIMIT flag, and the G1 target that goes with it. -/
def Lens.pair (l : Lens) (t : Int) : TargetPair :=
  let c := clamp l.firstX l.lastX t
  { g0 := c.toNat, g1 := l.g1Target c.toNat, limit := c != t }

/-- R103: the G0 step Δ. -/
def Lens.delta (l : Lens) (d : Int) : Int := roundHalfAway (d * l.gain) 256

/-- R104: the sign of GAIN. -/
def Lens.sign (l : Lens) : Int := if 0 < l.gain then 1 else -1

/-- Both groups were IDLE, or homed, at the trigger (R101, R102). -/
def Latch.bothIdle (t : Latch) : Bool := t.g0 == .idle && t.g1 == .idle
def Latch.bothHomed (t : Latch) : Bool := t.g0.homed && t.g1.homed

/-- R101: the frame locks focus. -/
def State.frameLocks (s : State) (t : Latch) (inFocus : Bool) : Bool := s.focus.state == .acquiring && inFocus && t.bothIdle

/-- R101, R102: the frame may issue a target. In ACQUIRING a frame in focus issues none (R101). -/
def State.mayIssue (s : State) (t : Latch) (inFocus : Bool) : Bool :=
  t.bothHomed &&
    match s.focus.state with
    | .acquiring => t.bothIdle && !inFocus
    | .tracking => true
    | _ => false

/-- R103, R104: the target a frame issues, from its zone's d or its edge hint. -/
def Lens.frameTarget (l : Lens) (t : Latch) (zone : Option (Fin 12)) (d : Int) (edge : Edge) : Option TargetPair :=
  match zone with
  | some _ => if (l.delta d).natAbs < l.deadband then none else some (l.pair (t.position + l.delta d))
  | none =>
    match edge with
    | .near => some (l.pair (t.position + l.edgeStep * l.sign))
    | .far => some (l.pair (t.position - l.edgeStep * l.sign))
    | .none => none

/-! ### Acting on an evaluated frame (R98, R107) -/

/-- What focus control finds in a frame before it acts on it (R98 steps 1 to 3). -/
structure Finding where
  zone : Option (Fin 12)
  disparity : Int
  confidence : Nat
  edge : Edge
  inFocus : Bool
  locks : Bool
  target : Option TargetPair
deriving DecidableEq, Repr

/-- R98 steps 1 to 3. -/
def State.finding (s : State) (r : ResultSet) (t : Latch) : Finding :=
  let zone := s.chooseZone r
  let d := match zone with
    | some z => (r.zones[z]).disparity
    | none => 0
  let k := match zone with
    | some z => (r.zones[z]).confidence
    | none => 0
  let edge := if zone.isSome then .none else s.edgeHint r
  let inFocus := s.frameInFocus zone d
  let target := if s.mayIssue t inFocus then s.tables.lens.bind fun l => l.frameTarget t zone d edge else none
  { zone := zone, disparity := d, confidence := k, edge := edge, inFocus := inFocus, locks := s.frameLocks t inFocus,
    target := target }

/-- R107: the focus record of a SHOT frame. -/
def State.focusRecordOf (s : State) (f : Finding) (t : Latch) : FocusRecord :=
  { zone := f.zone, disparity := f.disparity, confidence := f.confidence, inFocus := f.inFocus, edge := f.edge,
    position := t.position, target := f.target.map (·.g0), limit := (f.target.map (·.limit)).getD false,
    lensMoving := t.g0 == .moving, noLens := !t.bothHomed || s.focus.state == .noLens }

/-- R107: some zone of the frame was enabled. -/
def ResultSet.anyEnabled (r : ResultSet) : Bool := (List.finRange 12).any fun i => (r.zones[i]).status != .disabled

/-- R98: focus control acts on an evaluated frame of a kind, with its trigger latch. -/
def State.actOnFrame (s : State) (r : ResultSet) (kind : FrameKind) (t : Latch) : State :=
  let f := s.finding r t
  let s1 := match f.target with
    | some p => s.handTargets p
    | none => s
  let s2 := if f.locks then ({ s1 with focus := { s1.focus with state := .locked } }).raise .focusLocked else s1
  let s3 := match kind with
    | .shot i => if r.anyEnabled then s2.modifyShot i fun x => { x with focus := some (s.focusRecordOf f t) } else s2
    | .live _ => s2
  { s3 with
    focus := { s3.focus with
      lastZone := f.zone, lastDisparity := f.disparity, lastInFocus := f.inFocus, lastSerial := r.serial
      lastTarget := f.target.or s3.focus.lastTarget } }

end Sys2Proof.Machine
end

