-- ==== Sys2Proof/Machine/Release.lean ====
section
/-! DEFINITION. The release unit and the opening of frames: debounce, presses, release states, triggers, readiness and firing
(chapter 3), and the frame's end (R73-R75). -/

namespace Sys2Proof.Machine

/-! ### Opening a frame (R67-R69, R81, R144) -/

/-- R67: the trigger latch. -/
def State.latchNow (s : State) : Latch := { g0 := s.lens.g0.state, g1 := s.lens.g1.state, position := s.lens.g0.position }

/-- R68: the FTRIG pulse of a trigger fired now. -/
def State.newPulse (s : State) : Pulse :=
  { beginAt := s.now + s.tables.timing.trigDelay, endAt := s.now + s.tables.timing.trigDelay + s.tables.timing.trigWidth,
    running := false }

/-- The shot number a SHOT frame's record carries (R81). -/
def State.frameShot (s : State) : FrameKind → Nat
  | .live _ => 0
  | .shot i => ((s.record i).map (·.number)).getD 0

/-- Whether a frame is a SHOT frame. -/
def FrameKind.isShot : FrameKind → Bool
  | .live _ => false
  | .shot _ => true

/-- R67 steps 3 to 5, R69, R81: the frame record opens with the risen serial, the extractor takes its copy, the FTRIG pulse is
scheduled. -/
def State.openFrame (s : State) (kind : FrameKind) (g : Geometry) : State :=
  let serial := s.intake.serial + 1
  let frame : Frame :=
    { serial := serial, kind := kind, geom := g, accepted := 0, overlength := false, trigAt := s.now, latch := s.latchNow,
      deadline := s.now + s.tables.timing.readoutLimit }
  let copy : FrameCopy :=
    { zones := s.tables.zones, geom := g, serial := serial, isShot := kind.isShot, trigTime := s.timeBase, shot := s.frameShot kind }
  let s1 := s.openPhase copy
  { s1 with
    intake := { frame := some frame, serial := serial }
    release := { s1.release with pulses := s1.release.pulses ++ [s.newPulse] } }

/-- R8, R57, R144: a live trigger fires: the entries of the slot it fills are dropped and its frame opens. -/
def State.fireLive (s : State) : State :=
  let slot := s.fillingSlot
  (s.dropLive (· == slot)).openFrame (.live slot) s.tables.live.geom

/-- R57: a live trigger falls due at moment `due`: it fires if no frame is in flight and there is a live slot (R2), and the
live timer is advanced. -/
def State.liveFallsDue (s : State) (due : Nat) : State :=
  let s1 := { s with release := { s.release with liveTimer := some (due + s.tables.timing.livePeriod) } }
  if s.intake.frame.isNone && s.pool.configured then s1.fireLive else s1

/-! ### Release states and wanted triggers (R56, R58, R63) -/

/-- The kinds of shot trigger: pre-capture, burst of the full press, burst that fulfils the single request, FIRE. -/
inductive TriggerKind where
  | pre | burst | single | fire
deriving DecidableEq, Repr

/-- R58, R59, R62: the destiny a trigger gives. -/
def TriggerKind.destiny : TriggerKind → Destiny
  | .pre => .provisional
  | .burst | .single | .fire => .kept

/-- The active profile's drive is CONTINUOUS. -/
def State.continuousDrive (s : State) : Bool := (s.activeProfile.map (·.continuous)).getD false

/-- R56: the release state that the presses, the pending shots and the settings give. -/
def State.releaseStateNow (s : State) : ReleaseState :=
  if (s.readyToShoot && s.fullPress) || s.release.singlePending || 0 < s.release.fireCount then .burst
  else if s.readyToShoot && s.halfPress && s.continuousDrive && 0 < s.depth then .precapture
  else if s.tables.live.enabled then .live
  else .standby

/-- R58, R63: the kind of shot trigger the release state wants. -/
def State.wantedTrigger (s : State) : Option TriggerKind :=
  match s.release.state with
  | .precapture => some .pre
  | .burst =>
    if s.fullPress && s.continuousDrive then some .burst
    else if s.release.singlePending then some .single
    else if 0 < s.release.fireCount then some .fire
    else none
  | .live | .standby => none

/-- R57: live triggers are fired in BURST while the shot trigger waits with reason FOCUS and the LIVE table is ON. -/
def State.focusLive (s : State) : Bool :=
  s.release.state == .burst && s.release.waiting == some .focus && s.tables.live.enabled

/-- R57: live triggers begin or stop by what changed since `old`. A CLEAR_BUFFER that drops a trigger waiting with FOCUS
ends the wait reason, so that the live timer becomes none here though R75 keeps it (log 42). -/
def State.syncLive (s old : State) : State :=
  if (s.release.state == .live && old.release.state != .live) || (s.focusLive && !old.focusLive) then s.liveFallsDue s.now
  else if s.release.state == .live || s.focusLive then s
  else { s with release := { s.release with liveTimer := none } }

/-- R64: a waiting trigger that is no longer wanted is dropped. -/
def State.dropUnwanted (s : State) : State :=
  if s.wantedTrigger.isNone then { s with release := { s.release with waiting := none } } else s

/-- R56, R57, R64: the release state is derived again. -/
def State.deriveRelease (s old : State) : State :=
  (({ s with release := { s.release with state := s.releaseStateNow } }).dropUnwanted).syncLive old

/-! ### Readiness and firing (R64, R65, R67) -/

/-- The page need of the active profile's frame. -/
def State.activeNeed (s : State) : Nat := (s.activeProfile.map (·.geom.need)).getD 0

/-- R65: the first failing condition of a trigger that has fallen due. -/
def State.failing (s : State) (k : TriggerKind) : Option WaitReason :=
  if s.intake.frame.isSome then some .frame
  else if s.lowestFree.isNone then some .record
  else if s.pool.free.length < s.pool.reservation + s.activeNeed then some .buffer
  else if k != .pre && s.focus.policyFocus && !s.focusPriority then some .focus
  else none

/-- R67 step 1: the release unit's part of a shot trigger's firing. -/
def ReleaseUnit.fired (r : ReleaseUnit) (k : TriggerKind) (now : Nat) : ReleaseUnit :=
  { r with
    waiting := none, shotTimer := some now
    singlePending := r.singlePending && k != .single
    fireCount := if k = .fire then r.fireCount - 1 else r.fireCount }

/-- R67: a shot trigger fires. -/
def State.fireShot (s : State) (k : TriggerKind) : State :=
  match s.release.active, s.activeProfile, s.lowestFree with
  | some c, some p, some i =>
    let s1 := s.openShot i c p k.destiny
    ({ s1 with release := s1.release.fired k s.now }).openFrame (.shot i) p.geom
  | _, _, _ => s

/-- R65: a trigger waits with a reason; BUFFER_WAIT is raised when the reason becomes BUFFER. -/
def State.waitFor (s : State) (r : WaitReason) : State :=
  let s1 := { s with release := { s.release with waiting := some r } }
  if r = .buffer ∧ s.release.waiting ≠ some .buffer then s1.raise .bufferWait else s1

/-- R23, R58: room is made for a pre-capture trigger with no frame in flight that lacks a record or pages. -/
def State.roomFor (s : State) (k : TriggerKind) : State :=
  if k = .pre ∧ s.intake.frame.isNone then s.makeRoom s.activeNeed s.unviewedList else s

/-- R65, R67: a trigger that has fallen due is tested: it fires, and the release state is derived again, or it waits. -/
def State.testTrigger (s : State) (k : TriggerKind) : State :=
  let s1 := s.roomFor k
  match s1.failing k with
  | none => (s1.fireShot k).deriveRelease s1
  | some r => (s1.waitFor r).syncLive s1

/-- R64: the moment the wanted trigger may fall due is reached. -/
def State.shotDue (s : State) : Bool :=
  match s.release.shotTimer, s.activeProfile with
  | some t, some p => t + p.burstPeriod ≤ s.now
  | _, _ => true

/-- The frame of `old` has completed or been aborted. -/
def State.frameEnded (s old : State) : Bool :=
  old.intake.frame.isSome && old.intake.frame.map (·.serial) != s.intake.frame.map (·.serial)

/-- A record of `old` has been freed. -/
def State.recordFreed (s old : State) : Bool :=
  (List.finRange 48).any fun i => (old.record i).isSome && (old.record i).map (·.number) != (s.record i).map (·.number)

/-- R65: one of the waiting trigger's conditions may have changed since `old`; R64: or its kind has. -/
def State.retestDue (s old : State) : Bool :=
  s.frameEnded old || s.recordFreed old || old.pool.free != s.pool.free || old.pool.reservation != s.pool.reservation
    || old.focusPriority != s.focusPriority || old.activeProfile != s.activeProfile
    || old.focus.policyFocus != s.focus.policyFocus || old.wantedTrigger != s.wantedTrigger

/-- R56, R64, R65: what the release unit does after an event that began in `old`. -/
def State.updateRelease (s old : State) : State :=
  let s1 := s.deriveRelease old
  match s1.wantedTrigger with
  | none => s1
  | some k =>
    if s1.release.waiting.isSome then (if s1.retestDue old then s1.testTrigger k else s1)
    else if s1.shotDue then s1.testTrigger k
    else s1

/-! ### Presses (R52, R59-R61) -/

/-- R59 steps 2 to 4: a full-press activation after promotion. -/
def State.requestBurst (s : State) : State :=
  if !s.readyToShoot then s.raise .missedTrigger
  else if s.continuousDrive then s
  else if s.release.singlePending then s.raise .missedTrigger
  else { s with release := { s.release with singlePending := true } }

/-- R60: at a full-press release the waiting burst trigger of drive CONTINUOUS is dropped. -/
def State.dropBurst (s old : State) : State :=
  if old.wantedTrigger = some .burst then { s with release := { s.release with waiting := none } } else s

/-- R52: the press events of a change from `old`, the release taken before the half-press end. -/
def State.pressEvents (s old : State) : State :=
  let s1 := if !old.fullPress && s.fullPress then s.promote.requestBurst else s
  let s2 := if old.fullPress && !s.fullPress then s1.dropBurst old else s1
  if old.halfPress && !s.halfPress then s2.lapse else s2

/-! ### Debounce (R51, R53) -/

/-- R51: a change of a line counts: its debounced state takes the new value and the change is handed on. -/
def State.countChange (s : State) (l : Line) : State :=
  let now := !(s.debouncer l).active
  let s1 := s.setDebouncer l { active := now, since := none }
  match l with
  | .lready => if now then s1 else s1.loseLens
  | .s1 | .s2 | .remote => s1.pressEvents s

/-- R51: a difference has lasted the debounce time of its line. -/
def State.debounceOver (s : State) (l : Line) : Bool :=
  match (s.debouncer l).since with
  | some t => t + s.debounceTime l ≤ s.now
  | none => false

/-- R51, R53: a line's reading is compared with its debounced state: a difference begins, goes on or ends. -/
def State.readLine (s : State) (l : Line) : State :=
  let d := s.debouncer l
  s.setDebouncer l { d with since := if s.reads l = d.active then none else d.since.or (some s.now) }

/-! ### The end of a frame (R73-R75) -/

/-- The frame record closes. -/
def State.closeFrame (s : State) : State := { s with intake := { s.intake with frame := none } }

/-- R92, R93: the result set of a completed frame becomes the last one, and both zone blocks are marked. -/
def State.storeResults (s : State) (r : ResultSet) : State :=
  (({ s with phase := { s.phase with results := some r } }).mark .zoneLow).mark .zoneHigh

/-- R73, R86: the correlator evaluates the frame and focus control acts on it, unless the focus mode is OFF. -/
def State.evaluateFrame (s : State) (f : Frame) : State :=
  match s.phase.copy with
  | none => s
  | some c =>
    if s.focus.mode = .off then s
    else
      let r := s.phase.evaluate c
      (s.storeResults r).actOnFrame r f.kind f.latch

/-- R8: a live frame completes: its slot is designated, its geometry copied, the completion count rises. -/
def State.completeLive (s : State) (slot : Fin 2) (g : Geometry) : State :=
  { s with windows := { s.windows with designation := some slot, liveCount := s.windows.liveCount + 1, liveGeom := some g } }

/-- R73: the frame in flight completes. -/
def State.completeFrame (s : State) (f : Frame) : State :=
  let s1 := (s.evaluateFrame f).closePhase
  let s2 := match f.kind with
    | .live slot => s1.completeLive slot f.geom
    | .shot i => s1.completeShot i
  (s2.raise .frameDone).closeFrame

/-- R74: the frame in flight is aborted by its readout deadline. -/
def State.timeoutFrame (s : State) (f : Frame) : State :=
  let s1 := s.closePhase
  let s2 := match f.kind with
    | .live _ => s1
    | .shot i => s1.abortShot i
  (s2.raise .readoutTimeout).closeFrame

end Sys2Proof.Machine
end

