-- ==== Sys2Proof/Machine/Port.lean ====
section
/-! DEFINITION. The tether port: items, staging, handshakes, stalls and underruns, verdicts and cuts (chapters 8 and 9). -/

namespace Sys2Proof.Machine

/-! ### The item (R153-R156) -/

/-- R155: the payload byte count. -/
def payloadBytes (k : TetherKind) (g : Geometry) : Nat :=
  match k with
  | .raw => g.frameBytes
  | .developed => g.developedBytes

/-- The payload length in words. -/
def Item.payloadWords (it : Item) : Nat := payloadBytes it.kind it.geom / 2

/-- R9, R154: the codes of the item kind and of the class. -/
def TetherKind.code : TetherKind → Nat
  | .raw => 1
  | .developed => 2
def TetherClass.code : TetherClass → Nat
  | .normal => 0
  | .urgent => 1

/-- R154 word 9: the focus record's disparity and its two flags. -/
def focusWord (f : Option FocusRecord) : Nat :=
  match f with
  | some r => twosField 8 r.disparity + 256 * bits [r.inFocus, false]
  | none => 256 * bits [false, true]

/-- R154: the 11 header words of an item, from the shot record at the taking. -/
def itemHeader (x : Shot) (t : TetherPart) : List Word16 :=
  let n := payloadBytes t.kind x.geom
  let half := match t.kind with
    | .raw => 1
    | .developed => 2
  [0x5AC3, t.kind.code + 256 * (t.attempts + 1), x.number, n % 65536, n / 65536, x.geom.width / half, x.geom.height / half,
    x.trigTime.toNat % 65536, x.trigTime.toNat / 65536, focusWord x.focus, t.cls.code].map (BitVec.ofNat 16)

/-- R153: the item record at the taking, at a moment. -/
def newItem (r : ShotRef) (x : Shot) (t : TetherPart) (now : Nat) : Item :=
  { source := r, attached := true, kind := t.kind, attempt := t.attempts + 1, header := itemHeader x t, geom := x.geom,
    phase := .header, word := 0, highByte := false, current := 0, complete := false, cut := [], step := .waitWord, slotEnd := now,
    nextBlock := 0, underran := false }

/-- The item on the port changed. -/
def State.modifyItem (s : State) (f : Item → Item) : State := { s with tport := { s.tport with item := s.tport.item.map f } }

/-- The port state set. -/
def State.setPort (s : State) (p : PortState) : State := { s with tport := { s.tport with state := p } }

/-- R151: "Wherever this manual says that the port goes to IDLE, the port goes to WAIT_LINK instead if TLINK is inactive". -/
def State.portIdle (s : State) : State := s.setPort (if s.tlinkActive then .idle else .waitLink)

/-! ### Staged words (R155, R156) -/

/-- The word at index `k` of a staged block of 256 bytes. -/
def blockWord (data : List Byte) (k : Nat) : Word16 := BitVec.ofNat 16 (leNat ((data.drop (2 * k)).take 2))

/-- R156: the data of a READY raw place of a block. -/
def RawPlace.block? (b : Nat) : RawPlace → Option (List Byte)
  | .ready n d => if n = b then some d else none
  | .empty | .reading _ => none

/-- R156: the staged 256 bytes that hold payload block `b`: a READY raw place, or the staging place of run `b` of the image. -/
def State.stagedBlock (s : State) (it : Item) (b : Nat) : Option (List Byte) :=
  match it.kind with
  | .raw => (List.finRange 2).findSome? fun i => (s.tport.raw[i]).block? b
  | .developed =>
    (List.finRange 2).findSome? fun i =>
      match s.engine.staging[i] with
      | some x => if x.row * it.geom.runs + x.run = b then some x.data else none
      | none => none

/-- R155: the trailer's words. -/
def trailerWord (complete : Bool) (k : Nat) : Word16 := if k = 0 then 0xC35A else if complete then 0 else 1

/-- R154-R156: the word the next unit belongs to, `none` where it is a payload word that is not staged. A high byte belongs
to the word in progress, which the item record holds (R165, R167). -/
def State.nextWord (s : State) (it : Item) : Option Word16 :=
  if it.highByte then some it.current
  else
    match it.phase with
    | .header => some (it.header.getD it.word 0)
    | .payload => (s.stagedBlock it (it.word / 128)).map fun d => blockWord d (it.word % 128)
    | .trailer => some (trailerWord it.complete it.word)

/-- R154: the unit of a word: the word on a 16-bit port, its low or high byte on an 8-bit port. -/
def unitData (wide highByte : Bool) (w : Word16) : Word16 :=
  if wide then w else if highByte then w >>> 8 else w &&& 0xFF

/-- R156: an EMPTY raw place is given the next block of the frame: a TETHER request, or zeros where the page is missing. -/
def State.feedPlace (s : State) (i : Fin 2) : State :=
  match s.tport.item with
  | none => s
  | some it =>
    if it.kind = .raw ∧ it.cut = [] ∧ s.tport.raw[i] = .empty ∧ it.nextBlock * 256 < it.geom.frameBytes then
      let o := it.nextBlock * 256
      let s1 := s.modifyItem fun it => { it with nextBlock := it.nextBlock + 1 }
      match s.sourceBlock (.shot it.source.index it.source.number) o with
      | some off =>
        { s1 with
          tport := { s1.tport with raw := s1.tport.raw.set i (.reading it.nextBlock) }
          port := { s1.port with tether := s1.port.tether ++ [{ place := i, offset := off, wanted := true }] } }
      | none => { s1 with tport := { s1.tport with raw := s1.tport.raw.set i (.ready it.nextBlock (List.replicate 256 0)) } }
    else s

/-- R156: the lower-numbered EMPTY place is filled first. -/
def State.feedRaw (s : State) : State := (s.feedPlace 0).feedPlace 1

/-- R156, R146: the place that holds payload block `b` becomes EMPTY. -/
def State.freeBlock (s : State) (it : Item) (b : Nat) : State :=
  match it.kind with
  | .raw => { s with tport := { s.tport with raw := s.tport.raw.map fun p => if (p.block? b).isSome then .empty else p } }
  | .developed =>
    { s with
      engine := { s.engine with
        staging := s.engine.staging.map fun p =>
          match p with
          | some x => if x.row * it.geom.runs + x.run = b then none else some x
          | none => none } }

/-! ### Units (R157-R160) -/

/-- A unit begins: its data is driven, and SETTLE runs from `at_`. -/
def State.driveUnit (s : State) (it : Item) (w : Word16) (at_ : Nat) : State :=
  let s1 := { s with tport := { s.tport with td := unitData s.tables.tether.wide it.highByte w, tstb := false } }
  s1.modifyItem fun it =>
    { it with current := w, step := .settling (at_ + s.tables.tether.settle), slotEnd := at_ + s.tables.tether.wordPeriod }

/-- The handshake step set. -/
def State.setStep (s : State) (h : Handshake) : State := s.modifyItem fun it => { it with step := h }

/-- R162 step 1: the trailer of an item that underruns. -/
def Item.underrun (it : Item) : Item :=
  { it with phase := .trailer, word := 0, highByte := false, complete := false, underran := true }

/-- The next unit at moment `at_`, after any wait that stands before it (R158 steps 1 and 2, R159, R160). -/
def State.beginUnit (s : State) (at_ : Nat) : State :=
  match s.tport.item with
  | none => s
  | some it =>
    match s.nextWord it with
    | some w =>
      if s.tables.tether.mode = .interlocked ∧ ¬ s.trdyReady then s.setStep (.waitReady at_) else s.driveUnit it w at_
    | none =>
      if s.tables.tether.mode = .timed then
        (s.modifyItem Item.underrun).driveUnit it.underrun (trailerWord false 0) at_
      else s.setStep .waitWord

/-! ### Item ends (R153, R161-R163, R165, R177) -/

/-- R153: the item ends: the record closes, the tether stream becomes IDLE, the raw places EMPTY. -/
def State.endItem (s : State) : State :=
  let s1 := s.streamEnd.abandonRaw
  { s1 with tport := { s1.tport with item := none, verdictAt := none, tstb := false } }

/-- R170: the shot of an attached item returns to the queue. -/
def State.returnShot (s : State) (it : Item) (atHead : Bool) : State :=
  if it.attached then s.enqueue it.source.index atHead else s

/-- R172: attempts rise by one; at the limit the shot becomes FAILED, else it returns to the queue. -/
def State.countAttempt (s : State) (it : Item) (atHead : Bool) : State :=
  if it.attached then
    let s1 := s.modifyShot it.source.index fun x => x.mapTether fun t => { t with attempts := t.attempts + 1 }
    if s.tables.tether.attemptLimit ≤ it.attempt then
      (s1.modifyShot it.source.index fun x => x.withTetherState .failed).raise .tetherFailed
    else s1.enqueue it.source.index atHead
  else s

/-- R185: the codes of the port states. -/
def PortState.code : PortState → Nat
  | .disabled => 0 | .waitLink => 1 | .idle => 2 | .sending => 3 | .awaitVerdict => 4 | .halted => 5

/-- Whether a DISABLE is among the requests that asked for a cut (R165). -/
def CutBy.isDisable : CutBy → Bool
  | .disable _ => true
  | .discard | .dropTether | .clearBuffer _ _ => false

/-- R165, R166, R190: the end of a cut handed to one asking request. -/
def State.answerCut (s : State) (c : CutBy) : State :=
  match c with
  | .disable slot => s.complete slot .done (results [s.tport.state.code])
  | .clearBuffer slot freed => s.complete slot .done (results [s.pool.free.length, freed])
  | .discard | .dropTether => s

/-- Whether a CLEAR_BUFFER is among the requests that asked for a cut (R178). -/
def CutBy.isClear : CutBy → Bool
  | .clearBuffer _ _ => true
  | .disable _ | .discard | .dropTether => false

/-- R165, R166, R177: a cut ends, by its trailer or by a stall: the item ends, an attached shot returns to the head of its
class, the port goes to DISABLED if a DISABLE asked, and the asking requests are given the end. R178: an underrun that
CLEAR_BUFFER cuts raises no UNDERRUN (log 25). -/
def State.endCut (s : State) (it : Item) (stalled : Bool) : State :=
  let s1 := s.endItem.returnShot it true
  let s2 := if it.cut.any CutBy.isDisable then s1.setPort .disabled else if stalled then s1.setPort .halted else s1.portIdle
  let s3 := if stalled then s2.raise .tetherHalted else s2
  let s4 := if it.underran && !stalled && !it.cut.any CutBy.isClear then s3.raise .underrun else s3
  it.cut.foldl State.answerCut s4

/-- R162 steps 2 to 4: the end of an item that underran. -/
def State.endUnderrun (s : State) (it : Item) : State := (((s.endItem).countAttempt it true).raise .underrun).portIdle

/-- R163: the verdict window opens. -/
def State.openVerdict (s : State) (at_ : Nat) : State :=
  (({ s with tport := { s.tport with verdictAt := some (at_ + s.tables.tether.verdictLimit) } }).setPort .awaitVerdict).setStep .done

/-- The last unit of the trailer has ended (R162, R163, R165). -/
def State.endTrailer (s : State) (it : Item) (at_ : Nat) : State :=
  if it.cut ≠ [] then s.endCut it false
  else if it.complete then s.openVerdict at_
  else s.endUnderrun it

/-- The item after the word in progress has gone out: the next word of its phase, or the next phase. The trailer follows
the last payload word, COMPLETE; a cut brings the ABORTED trailer next (R155, R165). -/
def Item.nextAfterWord (it : Item) : Item :=
  match it.phase with
  | .header =>
    if it.cut ≠ [] then { it with phase := .trailer, word := 0, complete := false }
    else if it.word + 1 < 11 then { it with word := it.word + 1 } else { it with phase := .payload, word := 0 }
  | .payload =>
    if it.word + 1 < it.payloadWords then
      if it.cut ≠ [] then { it with phase := .trailer, word := 0, complete := false } else { it with word := it.word + 1 }
    else { it with phase := .trailer, word := 0, complete := it.cut.isEmpty }
  | .trailer => { it with word := it.word + 1 }

/-- R156: the places are handed back when the last word of a block has been sent. -/
def State.handBack (s : State) (it : Item) : State :=
  if it.phase = .payload ∧ it.word % 128 = 127 then s.freeBlock it (it.word / 128) else s

/-- The wait or the unit that follows an ended unit, by the mode (R158-R160). -/
def State.followUnit (s : State) (at_ : Nat) : State :=
  match s.tables.tether.mode with
  | .interlocked | .timed => s.beginUnit at_
  | .pulsed => if s.trdyReady then s.beginUnit at_ else s.setStep (.waitBetween at_)

/-- A unit has ended at moment `at_`: on an 8-bit port the high byte follows the low; the word done, the item goes on. -/
def State.endUnit (s : State) (at_ : Nat) : State :=
  match s.tport.item with
  | none => s
  | some it =>
    let s1 := { s with tport := { s.tport with tstb := false } }
    if !s.tables.tether.wide && !it.highByte then
      (s1.modifyItem fun it => { it with highByte := true }).followUnit at_
    else
      let it1 := { it with highByte := false }
      if it.phase = .trailer ∧ it.word = 1 then (s1.modifyItem fun _ => it1).endTrailer it1 at_
      else (((s1.handBack it).modifyItem fun _ => it1.nextAfterWord).feedRaw).followUnit at_

/-! ### Taking an item (R152) -/

/-- R152, R146: the tether stream of a DEVELOPED item. -/
def itemStream (r : ShotRef) (x : Shot) (t : TetherPart) : Stream :=
  { index := r.index, number := r.number, geom := x.geom, profile := t.profile, nextRow := 0, nextRun := 0 }

/-- R152: the port takes the queue's head. -/
def State.takeItem (s : State) (r : ShotRef) (x : Shot) (t : TetherPart) : State :=
  let s1 := ({ s with queue := s.queue.leave r }).modifyShot r.index fun x => x.withTetherState .sending
  let s2 := ({ s1 with tport := { s1.tport with item := some (newItem r x t s.now), raw := Vector.replicate 2 .empty } }).setPort .sending
  let s3 := match t.kind with
    | .developed => s2.streamStart (itemStream r x t)
    | .raw => s2.feedRaw
  s3.beginUnit s.now

/-- R152, R171: a port in IDLE takes the head of a queue that is not empty. -/
def State.takeNext (s : State) : State :=
  if s.tport.state = .idle then
    match s.queue.order with
    | [] => s
    | r :: _ =>
      match s.shotAt r with
      | some x =>
        match x.tether with
        | some t => s.takeItem r x t
        | none => s
      | none => s
  else s

/-- R158, R159: a port that waits for a staged word goes on once it is staged. -/
def State.resumeUnit (s : State) : State :=
  match s.tport.item with
  | none => s
  | some it => if it.step = .waitWord ∧ s.tport.state = .sending ∧ (s.nextWord it).isSome then s.beginUnit s.now else s

/-! ### Cuts (R165-R167, R177) -/

/-- R155: the trailer has begun: the first unit of its END word has been driven. Asked of an item with no unit under way. -/
def Item.trailerBegun (it : Item) : Bool := it.phase == .trailer && (it.word != 0 || it.highByte)

/-- R155, R165: an item with no unit under way turns to the ABORTED trailer, unless its trailer has begun. -/
def Item.turnToTrailer (it : Item) : Item :=
  if it.trailerBegun then it else { it with phase := .trailer, word := 0, highByte := false, complete := false }

/-- Whether a unit is under way (R157): its data is driven and its last step is not done. -/
def Handshake.underWay : Handshake → Bool
  | .settling _ | .waitBusy _ | .strobe _ | .slotRest => true
  | .waitWord | .waitReady _ | .waitBetween _ | .done => false

/-- R165: a request asks to cut the item on the port. A request that asks for a cut already under way joins it, and the rest of
the word that the first one lets finish still goes out. -/
def State.askCut (s : State) (c : CutBy) : State :=
  match s.tport.item with
  | none => s
  | some it =>
    let it1 := { it with cut := it.cut ++ [c] }
    let s1 := s.modifyItem fun _ => it1
    if s.tport.state = .awaitVerdict then s1.endCut it1 false
    else if it.step.underWay || it.cut != [] then s1
    else
      let s2 := s1.modifyItem Item.turnToTrailer
      if it.step = .waitWord then s2.beginUnit s.now else s2

/-- R177: the item of a shot is detached from it. -/
def State.detachItem (s : State) : State := s.modifyItem fun it => { it with attached := false }

/-- Whether the item on the port is attached to a shot (R153, R177). -/
def State.onPort (s : State) (r : ShotRef) : Bool :=
  match s.tport.item with
  | some it => it.attached && it.source == r
  | none => false

/-- R175, R176: a shot that leaves tethering: a queued one leaves the queue; the item of one on the port is detached and cut. -/
def State.withdraw (s : State) (r : ShotRef) (c : CutBy) : State :=
  let s1 := { s with queue := s.queue.leave r }
  if s1.onPort r then s1.detachItem.askCut c else s1

/-! ### Events of the port (R158-R163) -/

/-- The wait on TRDY in progress, and when it began (R161). -/
def Handshake.trdyWait : Handshake → Option Nat
  | .waitReady t | .waitBusy t | .waitBetween t => some t
  | .waitWord | .settling _ | .strobe _ | .slotRest | .done => none

/-- R158, R159: TRDY stands at the reading a handshake waits for. -/
def State.trdyAdvance (s : State) : State :=
  match s.tport.item with
  | none => s
  | some it =>
    match it.step with
    | .waitReady _ => if s.trdyReady then s.beginUnit s.now else s
    | .waitBusy _ => if s.trdyReady then s else s.endUnit s.now
    | .waitBetween _ => if s.trdyReady then s.beginUnit s.now else s
    | .waitWord | .settling _ | .strobe _ | .slotRest | .done => s

/-- R158 steps 4 and 5, R159, R160: SETTLE is over; TSTB is driven active. -/
def State.settleOver (s : State) (at_ : Nat) : State :=
  let s1 := { s with tport := { s.tport with tstb := true } }
  match s.tables.tether.mode with
  | .interlocked => if s.trdyReady then s1.setStep (.waitBusy at_) else s1.endUnit at_
  | .pulsed | .timed => s1.setStep (.strobe (at_ + s.tables.tether.strobeWidth))

/-- R159, R160: the strobe is over; in PULSED mode the unit ends, in TIMED mode it ends with its slot. -/
def State.strobeOver (s : State) (at_ : Nat) : State :=
  match s.tables.tether.mode with
  | .timed => ({ s with tport := { s.tport with tstb := false } }).setStep .slotRest
  | .pulsed | .interlocked => s.endUnit at_

/-- R161, R165: a wait on TRDY has lasted STALL_LIMIT. -/
def State.stallPort (s : State) (it : Item) : State :=
  if it.cut ≠ [] then s.endCut it true
  else ((s.endItem.returnShot it true).setPort .halted).raise .tetherHalted

/-- R163: the verdict TACK: the shot is SENT, TETHER is removed, and the freeing check follows (R16, R21). -/
def State.acceptItem (s : State) (it : Item) : State :=
  let s1 := s.endItem.modifyShot it.source.index fun x =>
    { x.withTetherState .sent with holds := { x.holds with tether := false } }
  ((s1.freeingCheck it.source.index).raise .tetherSent).portIdle

/-- R163: the verdict TNAK. -/
def State.refuseItem (s : State) (it : Item) : State := ((s.endItem).countAttempt it false).portIdle

/-- R163: the deadline of the verdict window. -/
def State.verdictLost (s : State) (it : Item) : State :=
  ((s.endItem.returnShot it true).setPort .halted).raise .tetherHalted

/-- R163: the item whose verdict is awaited. -/
def State.awaited (s : State) : Option Item := if s.tport.state = .awaitVerdict then s.tport.item else none

end Sys2Proof.Machine
end

