-- ==== Sys2Proof/Machine/Report.lean ====
section
/-! DEFINITION. The report records: the shot mirror, the zone report, the status record and the slot records; marking at the
end of an event, and issue (R27, R93, R184, R185). -/

namespace Sys2Proof.Machine

/-! ### Codes -/

def ShotState.code : ShotState → Nat
  | .filling => 1 | .provisional => 2 | .kept => 3 | .discarded => 4
def Destiny.code : Destiny → Nat
  | .provisional => 1 | .kept => 2
def TetherPolicy.code : TetherPolicy → Nat
  | .none => 0 | .raw => 1 | .developed => 2
def TetherState.code : TetherState → Nat
  | .queued => 0 | .sending => 1 | .sent => 2 | .failed => 3
def Edge.code : Edge → Nat
  | .none => 0 | .near => 1 | .far => 2
def ZoneStatus.code : ZoneStatus → Nat
  | .disabled => 0 | .outside => 1 | .fewRows => 2 | .edge => 3 | .lowConfidence => 4 | .valid => 5
def ReleaseState.code : ReleaseState → Nat
  | .standby => 0 | .live => 1 | .precapture => 2 | .burst => 3
def WaitReason.code : WaitReason → Nat
  | .frame => 1 | .record => 2 | .buffer => 3 | .focus => 4
def FocusMode.code : FocusMode → Nat
  | .off => 0 | .single => 1 | .tracking => 2
def Selection.code : Selection → Nat
  | .fixed => 0 | .nearest => 1 | .sticky => 2
def FocusState.code : FocusState → Nat
  | .off => 0 | .noLens => 1 | .idle => 2 | .acquiring => 3 | .locked => 4 | .tracking => 5
def Leg.code : Leg → Nat
  | .none => 0 | .descend => 1 | .ascend => 2
def SlotState.code : SlotState → Nat
  | .free => 0 | .taken => 2 | .done => 3

/-- A zone index, 255 for NONE (R27, R185). -/
def zoneCode (z : Option (Fin 12)) : Nat := (z.map (·.val)).getD 255

/-! ### The shot mirror (R27) -/

/-- R27: the tether part's bytes 28 to 32; absent, they read zero. -/
def tetherFields : Option TetherPart → List Field
  | some t => [(28, 1, t.kind.code), (29, 1, t.profile.val), (30, 1, t.state.code), (31, 1, t.cls.code), (32, 1, t.attempts)]
  | none => []

/-- R27: the focus record's bytes 33 to 41; absent parts read zero. -/
def focusFields : Option FocusRecord → List Field
  | some r =>
    [(33, 1, zoneCode r.zone), (34, 1, twosField 8 r.disparity), (35, 1, r.confidence),
     (36, 1, bits [r.inFocus, r.limit, r.lensMoving, r.noLens]), (37, 1, r.edge.code), (38, 2, r.position),
     (40, 2, r.target.getD 0)]
  | none => []

/-- R27: the fields of a mirror record but its update count. -/
def mirrorFields : Option Shot → List Field
  | some x =>
    [(0, 2, x.number), (2, 1, x.state.code), (3, 1, (x.destiny.map Destiny.code).getD 0), (4, 1, x.profile.val),
     (5, 1, x.holds.code), (6, 1, x.views),
     (7, 1, bits [x.pre, x.lapsed, x.tether.isSome, x.focus.isSome, ((x.focus.bind (·.target))).isSome]),
     (8, 2, x.geom.width), (10, 2, x.geom.height), (12, 1, x.geom.bits), (13, 1, x.pages.length), (14, 1, flag x.cardHold),
     (15, 1, x.policy.code), (16, 4, x.geom.frameBytes), (20, 4, x.trigTime.toNat)]
      ++ tetherFields x.tether ++ focusFields x.focus
  | none => []

/-- R27: a mirror record's 128 bytes with an update count. -/
def mirrorBytes (x : Option Shot) (count : Word32) : List Byte := recordBytes 128 ((24, 4, count.toNat) :: mirrorFields x)

/-- R27: the DRAM offset of a mirror record. -/
def mirrorOffset (i : Fin 48) : Nat := 0x1000 + 128 * i.val

/-! ### The zone report (R93) -/

/-- R93: an entry of the zone report. -/
def zoneEntry (r : ResultSet) (i : Fin 12) : List Byte :=
  let z := r.zones[i]
  recordBytes 32
    [(0, 1, i.val), (1, 1, z.status.code), (2, 1, z.edge.code), (3, 1, twosField 8 z.shift), (4, 2, z.rowsUsed), (6, 1, z.terms),
     (7, 1, twosField 8 z.subSite), (8, 1, twosField 8 z.disparity), (9, 1, z.confidence), (10, 1, if r.isShot then 2 else 1),
     (12, 4, r.serial.toNat), (16, 4, r.trigTime.toNat), (20, 2, r.shot), (24, 4, z.least), (28, 4, z.total)]

/-- R93: entries 0 to 7, or 8 to 11, of the zone report. -/
def zoneBlock (r : Option ResultSet) (high : Bool) : List Byte :=
  match r with
  | some r => ((List.finRange 12).filter fun i => high == decide (8 ≤ i.val)).flatMap (zoneEntry r)
  | none => []

/-! ### The status record (R185) -/

/-- R185: the bytes of a view's flags, and its shot number. -/
def viewCode : Option View → Nat
  | some v => bits [true, v.source == .live, v.developed, v.stream] + 16 * v.profile.val
  | none => 0
def viewShot : Option View → Nat
  | some v => match v.source with
    | .shot _ n => n
    | .live => 0
  | none => 0

/-- R185: a group's six bytes. -/
def groupFields (g : GroupDrive) : List Field :=
  [(0, 1, g.state.code), (1, 1, g.leg.code), (2, 2, g.position), (4, 2, g.target.getD 0xFFFF)]

/-- R185: the fields of the frame in flight. -/
def frameFields : Option Frame → List Field
  | some f =>
    [(27, 1, if f.kind.isShot then 2 else 1), (28, 4, f.serial.toNat), (32, 4, f.accepted),
     (36, 1, match f.kind with | .shot i => i.val | .live _ => 255)]
  | none => [(36, 1, 255)]

/-- R185: the shot on the port (0 when detached), its kind and its attempt number. -/
def itemFields : Option Item → List Field
  | some it =>
    [(85, 1, flag (it.cut != [])), (86, 2, if it.attached then it.source.number else 0), (88, 1, it.kind.code), (89, 1, it.attempt)]
  | none => []

/-- R185: every field of the status record but the update count and the time base. -/
def State.statusFields (s : State) : List Field :=
  [(8, 1, flag s.pool.configured), (9, 1, s.pool.livePages), (10, 2, s.pool.first), (12, 2, s.pool.last),
   (14, 2, s.pool.free.length), (16, 1, s.pool.reservation), (17, 1, s.countState .filling), (18, 1, s.countState .provisional),
   (19, 1, s.countState .kept), (20, 1, s.countState .discarded), (21, 1, (s.release.active.map (·.val)).getD 255),
   (22, 1, s.release.state.code), (23, 1, (s.release.waiting.map WaitReason.code).getD 0), (24, 2, s.release.fireCount),
   (26, 1, bits [s.release.singlePending, s.halfPress, s.fullPress, s.release.s1.active, s.release.s2.active,
     s.release.remote.active, s.release.lready.active]),
   (37, 1, (s.windows.designation.map (·.val)).getD 255), (40, 4, s.windows.liveCount.toNat)]
  ++ frameFields s.intake.frame
  ++ (List.finRange 4).map (fun i => (44 + i.val, 1, viewCode s.windows.views[i]))
  ++ (List.finRange 4).map (fun i => (48 + 2 * i.val, 2, viewShot s.windows.views[i]))
  ++ [(56, 1, s.focus.mode.code), (57, 1, s.focus.selection.code), (58, 1, s.focus.fixedZone.val), (59, 1, flag s.focus.policyFocus),
   (60, 1, s.focus.state.code), (61, 1, zoneCode s.focus.lastZone), (62, 1, twosField 8 s.focus.lastDisparity),
   (63, 1, bits [s.focus.lastInFocus, s.focus.lastTarget.isSome, (s.focus.lastTarget.map (·.limit)).getD false]),
   (64, 4, s.focus.lastSerial.toNat), (68, 2, (s.focus.lastTarget.map (·.g0)).getD 0), (70, 2, (s.focus.lastTarget.map (·.g1)).getD 0)]
  ++ shiftFields 72 (groupFields s.lens.g0) ++ shiftFields 78 (groupFields s.lens.g1)
  ++ [(84, 1, s.tport.state.code)] ++ itemFields s.tport.item
  ++ [(90, 1, s.queue.order.length), (91, 1, s.queue.urgent.length), (92, 4, s.req.zoneSerial.toNat),
   (96, 4, s.req.causes.toNat), (100, 4, s.req.mask.toNat)]

/-- R185: the status record's 256 bytes with an update count. -/
def State.statusBytes (s : State) (count : Word32) : List Byte :=
  recordBytes 256 ((0, 4, count.toNat) :: (4, 4, s.timeBase.toNat) :: s.statusFields)

/-! ### Slot records (R181, R183) -/

/-- R181: the DRAM offset of a request slot. -/
def slotOffset (i : Fin 8) : Nat := 0x100 + 64 * i.val

/-- R183: beat 0 of a slot record: kind and tag as taken, the slot state, the result code (0 in a TAKEN write). -/
def Slot.beat0 (sl : Slot) : List Byte :=
  match sl.taken with
  | some t =>
    recordBytes 8 [(0, 1, t.kind.toNat), (1, 1, sl.state.code), (2, 1, if sl.state = .done then t.code.code else 0), (4, 4, t.tag.toNat)]
  | none => recordBytes 8 [(1, 1, sl.state.code)]

/-- R183: beat 7 of a slot record: the results beat; zero in a TAKEN write (log 14). -/
def Slot.beat7 (sl : Slot) : List Byte :=
  match sl.taken with
  | some t => leBytes (if sl.state = .done then t.results.toNat else 0) 8
  | none => leBytes 0 8

/-! ### Issue (R184) -/

/-- R184: the composed chunks of a record, with the update counts already risen. -/
def State.recordChunks (s : State) : ReportRecord → List (Nat × List Byte)
  | .status => [(0, s.statusBytes s.req.statusCount)]
  | .mirror i => [(mirrorOffset i, mirrorBytes (s.record i) s.req.mirrorCounts[i])]
  | .zoneLow => [(0x400, zoneBlock s.phase.results false)]
  | .zoneHigh => [(0x500, zoneBlock s.phase.results true)]
  | .slot i => [(slotOffset i, s.req.slots[i].beat0), (slotOffset i + 56, s.req.slots[i].beat7)]

/-- R184: a status or mirror record's update count rises by one at each write composed. -/
def State.countWrite (s : State) : ReportRecord → State
  | .status => { s with req := { s.req with statusCount := s.req.statusCount + 1 } }
  | .mirror i => { s with req := { s.req with mirrorCounts := s.req.mirrorCounts.set i (s.req.mirrorCounts[i] + 1) } }
  | .zoneLow | .zoneHigh | .slot _ => s

/-- The serial of the last result set, 0 when there is none (R92). -/
def PhaseUnit.resultSerial (p : PhaseUnit) : Word32 := (p.results.map (·.serial)).getD 0

/-- R184: a record composed from the values as they stand. -/
def State.composeRecord (s : State) (r : ReportRecord) : ReportRequest :=
  { record := r, chunks := s.recordChunks r, shows := s.req.causes, serial := s.phase.resultSerial }

/-- R184: the record at the head of the report list is composed and issued. -/
def State.issueReport (s : State) : State :=
  match s.port.report, s.req.reportList with
  | none, r :: rest =>
    let s1 := ({ s with req := { s.req with reportList := rest } }).countWrite r
    { s1 with port := { s1.port with report := some (s1.composeRecord r) } }
  | _, _ => s

/-- R93, R185, R186, R189: what a performed report write brings about: a status write sets shown marks; the second zone block
changes the zone report serial. -/
def State.reportPerformed (s : State) (r : ReportRequest) : State :=
  match r.record with
  | .status => s.showCauses r.shows
  | .zoneHigh => { s with req := { s.req with zoneSerial := r.serial } }
  | .zoneLow | .mirror _ | .slot _ => s

/-- R50: a REPORT request is performed. -/
def State.performReport (s : State) (r : ReportRequest) : State :=
  ({ s with
    mem := s.mem.writeChunks r.chunks
    port := { s.port with report := none } }).reportPerformed r

/-! ### Marks at the end of an event (R27, R184) -/

/-- R27: the mirror records whose shot records an event changed. -/
def State.changedMirrors (s old : State) : List ReportRecord :=
  ((List.finRange 48).filter fun i => s.record i ≠ old.record i).map .mirror

/-- R27: the mirrors of the records changed since `old` are marked. -/
def State.markMirrors (s old : State) : State := { s with req := { s.req with marks := s.req.marks ++ s.changedMirrors old } }

/-- R184: the records an event marks: those marked on the way, the changed mirrors, and last the status record. -/
def State.eventMarks (s old : State) : List ReportRecord :=
  dropElem .status s.req.marks ++ s.changedMirrors old
    ++ (if s.req.marks.contains .status || s.statusFields != old.statusFields then [.status] else [])

/-- R184: at the end of an event its marks join the report list. -/
def State.finishEvent (s old : State) : State :=
  { s with req := { s.req with reportList := (s.eventMarks old).foldl joinReport s.req.reportList, marks := [] } }

/-! ### What follows an event -/

/-- What an event that began in `old` brings about at once beside its own effect: the focus state, the release unit, the
taking of an item, the develop engine and the port's waiting unit (log 22). -/
def State.settle (s old : State) : State := ((((s.deriveFocus).updateRelease old).takeNext).engineSettle).resumeUnit

/-- A whole event: its effect, what follows at once, and its marks. -/
def State.event (s : State) (f : State → State) : State := ((f s).settle s).finishEvent s

/-- A whole event of which nothing follows at once but its marks. -/
def State.quietEvent (s : State) (f : State → State) : State := (f s).finishEvent s

end Sys2Proof.Machine
end

