-- ==== Sys2Proof/Machine/Operands.lean ====
section
/-! DEFINITION. The operand forms: a packet's bytes and its window (chapter 2), the bytes of a post and a request's arguments
(chapter 10). -/

namespace Sys2Proof.Machine

/-! ### Packets and windows (R29, R30, R37) -/

/-- R29: the 8 bytes of a WRITE's beat in address order, `none` where the enable flag is clear. Flag i, the least significant
first, belongs to the byte at address i of the beat (log 41). -/
def beatBytes (b : WriteBeat) : List (Option Byte) :=
  (List.range 8).map fun i => if b.enables.getLsbD i then some (leByte b.data.toNat i) else none

/-- R29: a WRITE's bytes in address order. -/
def writeBytes (beats : List WriteBeat) : List (Option Byte) := beats.flatMap beatBytes

/-- R30: "the beat at which it starts plus its beat count does not pass the end of the block"; a block is 32 beats. -/
def malformed (addr : BitVec 29) (count : Nat) : Bool := 32 < addr.toNat % 32 + count

/-- The beat address of a transfer. -/
def Transfer.addr : Transfer → BitVec 29
  | .write a _ => a
  | .read _ a _ => a

/-- The beat count of a transfer. -/
def Transfer.count : Transfer → Nat
  | .write _ bs => bs.length / 8
  | .read _ _ n => n

/-- Whether a transfer is a WRITE. -/
def Transfer.isWrite : Transfer → Bool
  | .write _ _ => true
  | .read _ _ _ => false

/-- R37: the windows of the link address map. -/
inductive Window where
  | direct | capture | view (v : Fin 4) | void
deriving DecidableEq, Repr

/-- R37: the window of a link byte address. -/
def windowOf (a : Nat) : Window :=
  if a < 0x80000000 then .direct
  else if a < 0x90000000 then .capture
  else if a < 0xD0000000 then .view (viewOf a)
  else .void

/-- R37: the frame offset of a link byte address in the capture aperture. -/
def frameOffset (a : Nat) : Nat := a - 0x80000000

/-! ### Posts and arguments (R181-R183) -/

/-- R181: the kind codes of the catalogue (10.2.1). -/
def kindCode (k : Nat) : Byte := BitVec.ofNat 8 k

/-- An argument of a request as taken: beat 1 is argument 0. -/
def arg (a : Vector Beat 6) (i : Fin 6) : Nat := a[i].toNat

/-- R181: beats 1 onward of a slot copy after a post that writes the given arguments. -/
def putArgs (a : Vector Beat 6) (new : List Beat) : Vector Beat 6 := Vector.ofFn fun i : Fin 6 => new.getD i.val a[i]

/-- R181: a slot copy after one enabled byte at an offset of its slot. Byte 1, bytes 2 and 3, and beat 7 are not copied. -/
def Slot.putByte (sl : Slot) (o : Nat) (b : Byte) : Slot :=
  if o = 0 then { sl with kind := b }
  else if 4 ≤ o ∧ o < 8 then { sl with tag := setByte sl.tag (o - 4) b }
  else if h : 8 ≤ o ∧ o < 56 then
    { sl with args := sl.args.set (o / 8 - 1) (setByte (sl.args[o / 8 - 1]'(by omega)) (o % 8) b) (by omega) }
  else sl

/-- R181: a slot copy after the enabled bytes that a write from offset `o` of its slot carries. -/
def Slot.putBytes (sl : Slot) : Nat → List (Option Byte) → Slot
  | _, [] => sl
  | o, none :: bs => sl.putBytes (o + 1) bs
  | o, some b :: bs => (sl.putByte o b).putBytes (o + 1) bs

/-- The bytes of a write from DRAM offset `off` that lie in slot `i`, with the offset in the slot of the first. -/
def slotPart (i : Fin 8) (off : Nat) (bytes : List (Option Byte)) : Nat × List (Option Byte) :=
  let base := slotOffset i
  if off < base then (0, (bytes.drop (base - off)).take 64) else (off - base, bytes.take (base + 64 - off))

/-- R182: a write from DRAM offset `off` enables byte 1 of a slot's beat 0 with the value POSTED. -/
def posts (i : Fin 8) (off : Nat) (bytes : List (Option Byte)) : Bool :=
  let part := slotPart i off bytes
  part.1 ≤ 1 && (part.2[1 - part.1]?).join == some 1

end Sys2Proof.Machine
end

