-- ==== Sys2Proof/Machine/Settings.lean ====
section
/-! DEFINITION. The settings tables: their layouts, their field tests, and what an accepted load brings about (chapter 11). -/

namespace Sys2Proof.Machine

/-! ### Places (R192, R194) -/

/-- R192: the table that a code and an index name, `none` where they name no table. -/
def tableOf (table index : Nat) : Option TableRef :=
  match table with
  | 0 => if h : index < 4 then some (.capture ⟨index, h⟩) else none
  | 1 => some .live
  | 2 => if h : index < 8 then some (.develop ⟨index, h⟩) else none
  | 3 => some .zones
  | 4 => some .lens
  | 5 => some .tether
  | 6 => some .timing
  | _ => none

/-- R192: the code of a table. -/
def TableRef.code : TableRef → Nat
  | .capture _ => 0 | .live => 1 | .develop _ => 2 | .zones => 3 | .lens => 4 | .tether => 5 | .timing => 6

/-- R194: the DRAM offset of a table. -/
def TableRef.base : TableRef → Nat
  | .capture c => 0x4000 + 0x40 * c.val
  | .live => 0x4100
  | .timing => 0x4140
  | .tether => 0x4180
  | .zones => 0x4200
  | .lens => 0x4300
  | .develop p => 0x4400 + 0x100 * p.val

/-- R194: the size of a table. -/
def TableRef.size : TableRef → Nat
  | .capture _ => 16
  | .live => 6
  | .timing => 24
  | .tether => 24
  | .zones => 160
  | .lens => 108
  | .develop _ => 97

/-! ### Field tests (R193) -/

/-- A field of `n` bytes at an offset of a table's bytes (R194). -/
def field (b : List Byte) (o n : Nat) : Nat := leNat ((b.drop o).take n)

/-- The test of a field at an offset: whether the field passes. -/
abbrev FieldTest := Nat × Bool

/-- R193: the offset of the first field that fails, in order of rising offset. -/
def firstFail (ts : List FieldTest) : Option Nat := (ts.find? fun t => !t.2).map (·.1)

/-- A value within a range, both ends included (R1). -/
def within (lo hi v : Nat) : Bool := lo ≤ v && v ≤ hi

/-- R70: the tests of a geometry, the fields at their offsets; frame_bytes is tested at the height (R193). -/
def geometryTests (bitsAt widthAt heightAt : Nat) (g : Geometry) (more : Bool) : List FieldTest :=
  [(bitsAt, g.bits == 12 || g.bits == 14), (widthAt, within 128 8192 g.width && g.width % 128 == 0),
   (heightAt, within 64 8192 g.height && g.height % 2 == 0 && g.frameBytes ≤ 64 * mib && more)]

/-! ### CAPTURE and LIVE (R54, R70, R194) -/

/-- The geometry of a CAPTURE table's bytes. -/
def captureGeom (b : List Byte) : Geometry := { width := field b 6 2, height := field b 8 2, bits := field b 5 1 }

/-- R54, R193: the tests of a CAPTURE table. -/
def captureTests (b : List Byte) : List FieldTest :=
  [(0, decide (field b 0 1 ≤ 1)), (1, decide (field b 1 1 ≤ 16)), (2, decide (field b 2 1 ≤ 1)), (3, decide (field b 3 1 ≤ 2)),
   (4, decide (field b 4 1 ≤ 7))]
    ++ geometryTests 5 6 8 (captureGeom b) true ++ [(12, within 1000 1000000 (field b 12 4))]

/-- R194: the tether policy of a code. -/
def policyOf : Nat → TetherPolicy
  | 1 => .raw
  | 2 => .developed
  | _ => .none

/-- R194: the capture profile of a CAPTURE table's bytes. -/
def parseCapture (b : List Byte) : Capture :=
  { continuous := field b 0 1 == 1, depth := field b 1 1, cardHold := field b 2 1 == 1, policy := policyOf (field b 3 1),
    tetherProfile := Fin.ofNat 8 (field b 4 1), geom := captureGeom b, burstPeriod := field b 12 4 }

/-- The geometry of a LIVE table's bytes. -/
def liveGeomOf (b : List Byte) : Geometry := { width := field b 2 2, height := field b 4 2, bits := field b 1 1 }

/-- R193: LIVE with enable ON needs a configured pool whose slots hold its frame. -/
def liveFits (p : Pool) (b : List Byte) : Bool :=
  field b 0 1 != 1 || (p.configured && (liveGeomOf b).frameBytes ≤ p.livePages * mib)

/-- R54, R193: the tests of a LIVE table. -/
def liveTests (p : Pool) (b : List Byte) : List FieldTest :=
  (0, decide (field b 0 1 ≤ 1)) :: geometryTests 1 2 4 (liveGeomOf b) (liveFits p b)

/-- R194: the LIVE table of its bytes. -/
def parseLive (b : List Byte) : LiveTable := { enabled := field b 0 1 == 1, geom := liveGeomOf b }

/-! ### TIMING and TETHER (R150, R195, R198) -/

/-- R195: the tests of a TIMING table. -/
def timingTests (b : List Byte) : List FieldTest :=
  [(0, 1 ≤ field b 0 1), (1, field b 1 1 ≤ 1), (2, field b 2 1 ≤ 1), (3, field b 3 1 ≤ 1), (4, field b 4 1 ≤ 1),
   (14, 1 ≤ field b 14 2), (16, within 1000 1000000 (field b 16 4)), (20, within 1000 1000000 (field b 20 4))]

/-- R195: the TIMING table of its bytes. -/
def parseTiming (b : List Byte) : Timing :=
  { tickDivider := field b 0 1, s1Level := field b 1 1 == 1, s2Level := field b 2 1 == 1, remoteLevel := field b 3 1 == 1,
    remoteUse := field b 4 1 == 1, s1Debounce := field b 6 2, s2Debounce := field b 8 2, remoteDebounce := field b 10 2,
    trigDelay := field b 12 2, trigWidth := field b 14 2, readoutLimit := field b 16 4, livePeriod := field b 20 4 }

/-- R150: "MODE is TIMED and WORD_PERIOD is less than SETTLE + STROBE_WIDTH" is refused. -/
def slotFits (b : List Byte) : Bool := field b 1 1 != 2 || field b 2 1 + field b 3 1 ≤ field b 4 2

/-- R150, R193: the tests of a TETHER table. -/
def tetherTests (b : List Byte) : List FieldTest :=
  [(0, field b 0 1 == 8 || field b 0 1 == 16), (1, field b 1 1 ≤ 2), (2, 1 ≤ field b 2 1), (3, 1 ≤ field b 3 1),
   (4, 1 ≤ field b 4 2 && slotFits b), (6, within 1 15 (field b 6 1)), (8, field b 8 1 ≤ 1), (9, field b 9 1 ≤ 1),
   (10, field b 10 1 ≤ 1), (11, field b 11 1 ≤ 1), (12, field b 12 1 ≤ 1), (13, field b 13 1 ≤ 1),
   (16, within 100 1000000 (field b 16 4)), (20, within 1000 10000000 (field b 20 4))]

/-- R198: the handshake mode of a code. -/
def modeOf : Nat → TetherMode
  | 1 => .pulsed
  | 2 => .timed
  | _ => .interlocked

/-- R198: the TETHER table of its bytes. -/
def parseTether (b : List Byte) : Tether :=
  { wide := field b 0 1 == 16, mode := modeOf (field b 1 1), settle := field b 2 1, strobeWidth := field b 3 1,
    wordPeriod := field b 4 2, stallLimit := field b 16 4, verdictLimit := field b 20 4, attemptLimit := field b 6 1,
    tdLevel := field b 8 1 == 1, tstbLevel := field b 9 1 == 1, trdyLevel := field b 10 1 == 1, tackLevel := field b 11 1 == 1,
    tnakLevel := field b 12 1 == 1, tlinkLevel := field b 13 1 == 1 }

/-! ### ZONES (R76, R79, R197) -/

/-- R197: zone `z` of a ZONES table's bytes. -/
def parseZone (b : List Byte) (z : Nat) : Zone :=
  { enabled := field b (16 + 12 * z) 1 == 1, k0 := field b (18 + 12 * z) 2, k1 := field b (20 + 12 * z) 2,
    j0 := field b (22 + 12 * z) 2, j1 := field b (24 + 12 * z) 2 }

/-- R79: the tests of a zone; one whose enable is OFF is not tested further. -/
def zoneTests (b : List Byte) (z : Nat) : List FieldTest :=
  let x := parseZone b z
  (16 + 12 * z, decide (field b (16 + 12 * z) 1 ≤ 1)) ::
    if x.enabled then
      [(18 + 12 * z, decide (x.k0 ≤ 511)), (20 + 12 * z, x.k1 ≤ 511 && x.k0 ≤ x.k1 && within 24 128 (x.k1 - x.k0 + 1)),
       (22 + 12 * z, decide (x.j0 ≤ 511)), (24 + 12 * z, x.j1 ≤ 511 && x.j0 ≤ x.j1)]
    else []

/-- R76: DISPARITY_ZERO within −16..+16. -/
def zeroOk (b : List Byte) : Bool := (signedField 8 (field b 3 1)).natAbs ≤ 16

/-- R76, R79, R193: the tests of a ZONES table. -/
def zonesTests (b : List Byte) : List FieldTest :=
  [(0, decide (field b 0 1 ≤ 15)), (1, decide (field b 1 1 ≤ 15)), (2, field b 2 1 ≤ 15 && field b 2 1 != field b 1 1), (3, zeroOk b)]
    ++ (List.range 12).flatMap (zoneTests b)

/-- R197: the ZONES table of its bytes. -/
def parseZones (b : List Byte) : Zones :=
  { rowPhase := field b 0 1, leftOffset := field b 1 1, rightOffset := field b 2 1, zero := signedField 8 (field b 3 1),
    confMin := field b 4 1, zone := Vector.ofFn fun z : Fin 12 => parseZone b z.val }

/-! ### LENS (R108, R197) -/

/-- R108: the tests of a group's fields, at its base. -/
def groupTests (b : List Byte) (o : Nat) : List FieldTest :=
  [(o, within 50 10000 (field b o 2)), (o + 4, decide (field b (o + 4) 4 ≤ 100000)), (o + 8, within 1 32767 (field b (o + 8) 2))]

/-- R197: a group's fields, at its base. -/
def parseGroup (b : List Byte) (o : Nat) : GroupSettings :=
  { stepPeriod := field b o 2, backlash := field b (o + 2) 1, settleTime := field b (o + 4) 4, homeLimit := field b (o + 8) 2 }

/-- R197: knot `i`. -/
def parseKnot (b : List Byte) (i : Nat) : Nat × Nat := (field b (40 + 4 * i) 2, field b (42 + 4 * i) 2)

/-- R108, R193: the tests of knot `i`: each value at most 32,767, x above the x before it. -/
def knotTests (b : List Byte) (i : Nat) : List FieldTest :=
  [(40 + 4 * i, (parseKnot b i).1 ≤ 32767 && (i == 0 || (parseKnot b (i - 1)).1 < (parseKnot b i).1)),
   (42 + 4 * i, decide ((parseKnot b i).2 ≤ 32767))]

/-- R108, R193, R197: the tests of a LENS table. The count is tested before the knots; knots beyond it are not tested. -/
def lensTests (b : List Byte) : List FieldTest :=
  groupTests b 0 ++ groupTests b 16
    ++ [(32, field b 32 2 != 0), (35, decide (field b 35 1 ≤ 15)), (36, within 1 4095 (field b 36 2)), (38, decide (field b 38 1 ≤ 46)),
        (39, within 2 17 (field b 39 1))]
    ++ (List.range (field b 39 1)).flatMap (knotTests b)

/-- R197: the LENS table of its bytes. -/
def parseLens (b : List Byte) : Lens :=
  { g0 := parseGroup b 0, g1 := parseGroup b 16, knots := (List.range (field b 39 1)).map (parseKnot b),
    gain := signedField 16 (field b 32 2), deadband := field b 34 1, edgeStep := field b 36 2, inFocusBand := field b 35 1,
    jumpLimit := field b 38 1 }

/-! ### DEVELOP (R121, R122, R198) -/

/-- A signed 16-bit matrix entry within −8192..+8191 (R121). -/
def entryOk (v : Nat) : Bool := decide (-8192 ≤ signedField 16 v) && decide (signedField 16 v ≤ 8191)

/-- R122: the tests of a DEVELOP table. -/
def developTests (b : List Byte) : List FieldTest :=
  [(0, decide (field b 0 2 ≤ 16382)), (2, field b 0 2 < field b 2 2 && field b 2 2 ≤ 16383), (4, decide (field b 4 2 ≤ 16383)),
   (6, decide (field b 6 2 ≤ 16383)), (8, decide (field b 8 2 ≤ 16383))]
    ++ (List.range 9).map fun e => (10 + 2 * e, entryOk (field b (10 + 2 * e) 2))

/-- R123, R198: the develop profile of a DEVELOP table's bytes, with its NORM. -/
def parseProfile (b : List Byte) : Profile :=
  { black := field b 0 2, white := field b 2 2, gainR := field b 4 2, gainG := field b 6 2, gainB := field b 8 2,
    matrix := (List.range 9).map fun e => signedField 16 (field b (10 + 2 * e) 2),
    tone := (List.range 65).map fun i => field b (32 + i) 1, norm := normOf (field b 0 2) (field b 2 2) }

/-! ### Tests and effects of a load (R53, R55, R109, R150, R193) -/

/-- R193: the tests of a table's bytes. -/
def State.loadTests (s : State) (b : List Byte) : TableRef → List FieldTest
  | .capture _ => captureTests b
  | .live => liveTests s.pool b
  | .develop _ => developTests b
  | .zones => zonesTests b
  | .lens => lensTests b
  | .tether => tetherTests b
  | .timing => timingTests b

/-- R109: a group is HOMING, MOVING or SETTLING. -/
def GroupState.busy : GroupState → Bool
  | .homing | .moving | .settling => true
  | .unhomed | .idle | .fault => false

/-- R109, R150: the BUSY tests of LENS and TETHER. -/
def State.loadBusy (s : State) : TableRef → Bool
  | .lens => s.lens.g0.state.busy || s.lens.g1.state.busy
  | .tether => s.tport.state != .disabled
  | .capture _ | .live | .develop _ | .zones | .timing => false

/-- The depth check where the depth of the active profile has fallen (R24). -/
def State.depthFalls (s old : State) : State := if s.depth < old.depth then s.depthCheck else s

/-- R54, R55: an accepted LOAD_SETTINGS CAPTURE. -/
def State.loadCapture (s : State) (i : Fin 4) (c : Capture) : State :=
  let s1 := { s with tables := { s.tables with captures := s.tables.captures.set i (some c) } }
  s1.depthFalls s

/-- R57: a LIVE_PERIOD loaded while the timer runs: the last due time plus the new period; if it has passed, a live trigger
falls due at the load. -/
def State.reperiod (s : State) (old new : Nat) : State :=
  match s.release.liveTimer with
  | none => s
  | some t =>
    let s1 := { s with release := { s.release with liveTimer := some (t - old + new) } }
    if t - old + new ≤ s.now then s1.liveFallsDue s.now else s1

/-- R196: a load that changes TICK_DIVIDER sets the divider count to 0. -/
def TimeBase.redivide (t : TimeBase) (old new : Nat) : TimeBase := if old = new then t else { t with divider := 0 }

/-- A change counts, and what follows it happens at once. -/
def State.countAndSettle (s : State) (l : Line) : State := (s.countChange l).settle s

/-- R51, R53: the reading is compared, and a difference that has lasted its time counts at once. -/
def State.recheckLine (s : State) (l : Line) : State :=
  let s1 := s.readLine l
  if s1.debounceOver l then s1.countAndSettle l else s1

/-- R53, R57, R97, R195, R196: an accepted LOAD_SETTINGS TIMING. Each press event or counted change brings about what follows it
before the next line is taken (log 35). -/
def State.loadTiming (s : State) (t : Timing) : State :=
  let s1 := { s with
    tables := { s.tables with timing := t }
    time := s.time.redivide s.tables.timing.tickDivider t.tickDivider }
  let s2 := ((s1.reperiod s.tables.timing.livePeriod t.livePeriod).pressEvents s).settle s
  (((s2.recheckLine .s1).recheckLine .s2).recheckLine .remote).recheckLine .lready

/-- R193: an accepted load replaces the working table whole, with the effects of 11.3. -/
def State.replaceTable (s : State) (b : List Byte) : TableRef → State
  | .capture i => s.loadCapture i (parseCapture b)
  | .live => { s with tables := { s.tables with live := parseLive b } }
  | .develop p => { s with tables := { s.tables with profiles := s.tables.profiles.set p (parseProfile b) } }
  | .zones => { s with tables := { s.tables with zones := parseZones b } }
  | .lens => { s with tables := { s.tables with lens := some (parseLens b) } }
  | .tether => { s with tables := { s.tables with tether := parseTether b } }
  | .timing => s.loadTiming (parseTiming b)

/-- R193: the index of a results beat: 2 bytes; an ignored index above 65,535 has no stated form (log 15). -/
def indexValue (index : Beat) : Nat := if index.toNat ≤ 65535 then index.toNat else (Config.wideIndex index).toNat

/-- The index argument of the load in progress in a slot, as taken (R183). -/
def Slot.loadIndex (sl : Slot) : Beat := (sl.taken.map fun t => t.args[1]).getD 0

/-- R122, R193: the results beat of an accepted load; DEVELOP's carries p and NORM (log 16). -/
def loadResults (t : TableRef) (index : Beat) (b : List Byte) : Beat :=
  match t with
  | .develop p => BitVec.ofNat 64 (packResults [(2, p.val), (4, (parseProfile b).norm)])
  | .capture _ | .live | .zones | .lens | .tether | .timing => results [t.code, indexValue index]

/-- R193: the settings read of a LOAD_SETTINGS has been performed. What follows an accepted load happens at once; a TIMING load
has brought it about line by line by then (R53, log 35). -/
def State.endLoad (s : State) (q : SettingsRequest) : State :=
  let b := s.mem.readBytes q.table.base q.table.size
  if s.loadBusy q.table then s.complete q.slot .busy 0
  else
    match firstFail (s.loadTests b q.table) with
    | some o => s.complete q.slot .badValue (results [q.table.base + o])
    | none =>
      let beat := loadResults q.table (s.req.slots[q.slot].loadIndex) b
      let s1 := (s.replaceTable b q.table).complete q.slot .done beat
      if q.table = .timing then s1 else s1.settle s

end Sys2Proof.Machine
end

