-- ==== Sys2Proof/Machine/Requests.lean ====
section
/-! DEFINITION. The requests: what each does when it is taken (the owning rules of chapters 1 to 9, chapter 10), and posting
(R182, R183). Each definition is one request; `slot` is the slot it was posted in. -/

namespace Sys2Proof.Machine

/-- R183: a request completes with a code other than DONE and a results beat of zero (log 14). -/
def State.refuse (s : State) (slot : Fin 8) (code : ResultCode) : State := s.complete slot code 0

/-! ### Pool and settings -/

/-- R3: some shot record is not FREE, or a frame is in flight. -/
def State.poolBusy (s : State) : Bool := (List.finRange 48).any (fun i => (s.record i).isSome) || s.intake.frame.isSome

/-- R3 tests 2 to 4. -/
def State.poolBad (s : State) (f l lp : Nat) : Bool :=
  f < 1 || 2047 < l || l < f || lp < 1 || 16 < lp || l + 1 - f < 2 * lp + 64
    || (s.tables.live.enabled && lp * mib < s.tables.live.geom.frameBytes)

/-- R4: the pool of F, L and LP: pages F + 2LP to L free, in ascending order. -/
def newPool (f l lp : Nat) : Pool :=
  { configured := true, first := f, last := l, livePages := lp,
    free := List.range' (f + 2 * lp) (l + 1 - f - 2 * lp), reservation := 0 }

/-- R4, R8, R42, R144: an accepted CONFIGURE_POOL. -/
def State.setPool (s : State) (f l lp : Nat) : State :=
  ({ s with
    pool := newPool f l lp
    windows := { s.windows with designation := none, liveGeom := none } }).dropLive fun _ => true

/-- R3, R4: CONFIGURE_POOL. -/
def State.reqConfigurePool (s : State) (slot : Fin 8) (f l lp : Nat) : State :=
  if s.poolBusy then s.refuse slot .busy
  else if s.poolBad f l lp then s.refuse slot .badValue
  else
    let s1 := s.setPool f l lp
    (s1.complete slot .done (results [s1.pool.free.length])).settle s

/-- R192: LOAD_SETTINGS. -/
def State.reqLoadSettings (s : State) (slot : Fin 8) (table index : Nat) : State :=
  match tableOf table index with
  | none => s.refuse slot .badValue
  | some t =>
    if s.loadBusy t then s.refuse slot .busy
    else { s with port := { s.port with settings := s.port.settings ++ [{ slot := slot, table := t }] } }

/-! ### Release unit -/

/-- R55: the profile an index selects, where it is valid. -/
def State.selectable (s : State) (c : Nat) : Option (Fin 4) :=
  if h : c < 4 then (if (s.tables.captures[c]).isSome then some ⟨c, h⟩ else none) else none

/-- R55: SELECT_CAPTURE. -/
def State.reqSelectCapture (s : State) (slot : Fin 8) (c : Nat) : State :=
  match s.selectable c with
  | none => s.refuse slot .badValue
  | some i =>
    let s1 := ({ s with release := { s.release with active := some i } }).depthFalls s
    (s1.complete slot .done (results [c])).settle s

/-- R62: FIRE. -/
def State.reqFire (s : State) (slot : Fin 8) (n : Nat) : State :=
  if n < 1 || 255 < n || 65535 < s.release.fireCount + n then s.refuse slot .badValue
  else if !s.readyToShoot then s.refuse slot .wrongState
  else
    let s1 := { s with release := { s.release with fireCount := s.release.fireCount + n } }
    (s1.complete slot .done (results [s1.release.fireCount])).settle s

/-! ### Focus and lens -/

/-- R96: the focus mode and the zone selection of a code. -/
def focusModeOf : Nat → Option FocusMode
  | 0 => some .off
  | 1 => some .single
  | 2 => some .tracking
  | _ => none
def selectionOf : Nat → Option Selection
  | 0 => some .fixed
  | 1 => some .nearest
  | 2 => some .sticky
  | _ => none

/-- R96: the focus settings replaced; a change of the mode or the selection makes the last chosen zone NONE (log 19), and a
change of the mode gives up any lock, so that the focus state is derived afresh. -/
def Focus.replace (f : Focus) (mode : FocusMode) (sel : Selection) (zone : Fin 12) (policy : Bool) : Focus :=
  let keep := mode = f.mode ∧ sel = f.selection
  { f with
    mode := mode, selection := sel, fixedZone := zone, policyFocus := policy
    state := if mode = f.mode then f.state else .off
    lastZone := if keep then f.lastZone else none
    lastDisparity := if keep then f.lastDisparity else 0 }

/-- R96: the new settings take effect; the focus state is derived again when the mode changed. -/
def State.replaceFocus (s : State) (mode : FocusMode) (sel : Selection) (zone : Fin 12) (policy : Bool) : State :=
  let s1 := { s with focus := s.focus.replace mode sel zone policy }
  if mode = s.focus.mode then s1 else s1.deriveFocus

/-- R96: SET_FOCUS. -/
def State.reqSetFocus (s : State) (slot : Fin 8) (mode sel zone policy : Nat) : State :=
  match focusModeOf mode, selectionOf sel with
  | some m, some z =>
    if h : zone < 12 then
      if policy ≤ 1 then
        let s1 := s.replaceFocus m z ⟨zone, h⟩ (policy == 1)
        (s1.complete slot .done (results [s1.focus.state.code])).settle s
      else s.refuse slot .badValue
    else s.refuse slot .badValue
  | _, _ => s.refuse slot .badValue

/-- R112: both groups start homing, and the focus state follows. -/
def State.startHoming (s : State) (slot : Fin 8) : State :=
  ({ s with
    lens := { s.lens with g0 := s.lens.g0.startHoming s.now, g1 := s.lens.g1.startHoming s.now, homing := some slot } }).deriveFocus

/-- R112: the first homing boundary of a group that was not MOVING is at once. -/
def State.firstHoming (s old : State) (g : Group) : State :=
  if (old.lens.group g).state = .moving then s else s.homingStep g s.now

/-- R112 to R114: HOME_LENS. What follows the start (R97, R106) happens before the first homing boundaries (log 36). -/
def State.reqHomeLens (s : State) (slot : Fin 8) : State :=
  if s.tables.lens.isNone then s.refuse slot .wrongState
  else if !s.release.lready.active then s.refuse slot .noLens
  else if s.lens.g0.state = .homing ∨ s.lens.g1.state = .homing then s.refuse slot .busy
  else
    let s1 := (s.startHoming slot).settle s
    (((s1.firstHoming s .g0).firstHoming s .g1).homingEnd).settle s1

/-- R118: an accepted MOVE_LENS: both targets are handed on, the last target is this pair, and LOCKED becomes ACQUIRING. -/
def State.moveTo (s : State) (p : TargetPair) : State :=
  let s1 := s.handTargets p
  { s1 with
    focus := { s1.focus with
      lastTarget := some p
      state := if s1.focus.state = .locked then .acquiring else s1.focus.state } }

/-- R118: the results beat of MOVE_LENS. -/
def TargetPair.beat (p : TargetPair) : Beat := results [p.g0, p.g1, flag p.limit]

/-- R118: MOVE_LENS. -/
def State.reqMoveLens (s : State) (slot : Fin 8) (target : Nat) : State :=
  if 32767 < target then s.refuse slot .badValue
  else
    match s.tables.lens with
    | none => s.refuse slot .noLens
    | some l =>
      if !s.lensHomed then s.refuse slot .noLens
      else if s.focus.state = .acquiring ∨ s.focus.state = .tracking then s.refuse slot .wrongState
      else ((s.moveTo (l.pair target)).complete slot .done (l.pair target).beat).settle s

/-! ### Views -/

/-- R46 tests 1 and 2. -/
def mapBad (view source mode profile stream : Nat) : Bool := 3 < view || 1 < source || 1 < mode || 1 < stream || 7 < profile

/-- A view table entry replaced (R42). -/
def State.setView (s : State) (v : Fin 4) (x : Option View) : State :=
  { s with windows := { s.windows with views := s.windows.views.set v x } }

/-- R46: a shot that MAP_VIEW may map. -/
def Shot.mappable (x : Shot) : Bool := x.state == .provisional || x.state == .kept

/-- R46: MAP_VIEW of a shot source, after tests 1 to 3. -/
def State.mapShot (s : State) (slot : Fin 8) (v : Fin 4) (shot : Nat) (e : ViewSource → View) : State :=
  match s.findShot shot with
  | none => s.refuse slot .noShot
  | some i =>
    match s.record i with
    | none => s.refuse slot .noShot
    | some x =>
      if x.mappable then
        ((s.setView v (some (e (.shot i x.number)))).modifyShot i fun x => { x with views := x.views + 1 }).complete slot .done
          (results [v.val, x.number, x.views + 1])
      else s.refuse slot .wrongState

/-- R46: MAP_VIEW. -/
def State.reqMapView (s : State) (slot : Fin 8) (view source shot mode profile stream : Nat) : State :=
  if mapBad view source mode profile stream then s.refuse slot .badValue
  else
    let v := Fin.ofNat 4 view
    let e := fun src => { source := src, developed := mode == 1, profile := Fin.ofNat 8 profile, stream := stream == 1 }
    if (s.windows.views[v]).isSome then s.refuse slot .wrongState
    else if source = 0 then s.mapShot slot v shot e
    else (s.setView v (some (e .live))).complete slot .done (results [view, 0])

/-- R47: the results beat of UNMAP_VIEW of a shot: its state (FREE if it was freed) and view count. -/
def State.unmapResults (s : State) (v : Fin 4) (r : ShotRef) : Beat :=
  match s.shotAt r with
  | some x => results [v.val, r.number, x.state.code, x.views]
  | none => results [v.val, r.number, 0, 0]

/-- R47: UNMAP_VIEW. -/
def State.reqUnmapView (s : State) (slot : Fin 8) (view : Nat) : State :=
  if 3 < view then s.refuse slot .badValue
  else
    let v := Fin.ofNat 4 view
    match s.windows.views[v] with
    | none => s.refuse slot .wrongState
    | some e =>
      match e.source with
      | .live => (s.setView v none).complete slot .done (results [view, 0])
      | .shot i n =>
        let s1 := ((s.setView v none).modifyShot i fun x => { x with views := x.views - 1 }).freeingCheck i
        (s1.complete slot .done (s1.unmapResults v { index := i, number := n })).settle s

/-! ### Hold requests (R17-R20) -/

/-- R17: the results beat of a hold request: the shot's state and hold set as they stand, FREE and none if it was freed. -/
def State.holdResults (s : State) (r : ShotRef) : Beat :=
  match s.shotAt r with
  | some x => results [x.state.code, x.holds.code]
  | none => results [0, 0]

/-- R17: a hold request completes with a code and the shot's two values. -/
def State.holdDone (s : State) (slot : Fin 8) (code : ResultCode) (r : ShotRef) : State := s.complete slot code (s.holdResults r)

/-- R17: the index and the record of a shot named by its number. -/
def State.named (s : State) (n : Nat) : Option (ShotRef × Shot) :=
  match s.findShot n with
  | none => none
  | some i => (s.record i).map fun x => ({ index := i, number := x.number }, x)

/-- R18: RELEASE_CARD. -/
def State.reqReleaseCard (s : State) (slot : Fin 8) (n : Nat) : State :=
  match s.named n with
  | none => s.refuse slot .noShot
  | some (r, x) =>
    if x.holds.card then
      let s1 := (s.modifyShot r.index fun x => { x with holds := { x.holds with card := false } }).freeingCheck r.index
      (s1.holdDone slot .done r).settle s
    else s.holdDone slot .done r

/-- R19: PROTECT. -/
def State.reqProtect (s : State) (slot : Fin 8) (n : Nat) : State :=
  match s.named n with
  | none => s.refuse slot .noShot
  | some (r, x) =>
    if x.state = .kept then
      (s.modifyShot r.index fun x => { x with holds := { x.holds with protect := true } }).holdDone slot .done r
    else s.holdDone slot .wrongState r

/-- R19: UNPROTECT. -/
def State.reqUnprotect (s : State) (slot : Fin 8) (n : Nat) : State :=
  match s.named n with
  | none => s.refuse slot .noShot
  | some (r, x) =>
    if x.state = .kept then
      if x.holds.protect then
        let s1 := (s.modifyShot r.index fun x => { x with holds := { x.holds with protect := false } }).freeingCheck r.index
        (s1.holdDone slot .done r).settle s
      else s.holdDone slot .done r
    else s.holdDone slot .wrongState r

/-- R20: a shot leaves: it is freed with view count 0, or becomes DISCARDED with no hold. -/
def State.leaveBuffer (s : State) (i : Fin 48) (x : Shot) : State :=
  if x.views = 0 then s.freeShot i else s.modifyShot i fun x => { x with state := .discarded, holds := Holds.empty }

/-- R20, R176: DISCARD by the shot's state. -/
def State.discardShot (s : State) (r : ShotRef) (x : Shot) : State :=
  match x.state with
  | .filling => s.modifyShot r.index fun x => { x with lapsed := true }
  | .provisional => ({ s with shots := { s.shots with preList := dropElem r.index s.shots.preList } }).leaveBuffer r.index x
  | .kept => (s.withdraw r .discard).leaveBuffer r.index x
  | .discarded => s

/-- R20: DISCARD. -/
def State.reqDiscard (s : State) (slot : Fin 8) (n : Nat) : State :=
  match s.named n with
  | none => s.refuse slot .noShot
  | some (r, x) => (((s.discardShot r x).holdDone slot .done r)).settle s

/-! ### Tether queue requests (9.4) -/

/-- R169: the position of a shot in the queue, counted from 1, 0 when it is not queued (9.4). -/
def TetherQueue.position (q : TetherQueue) (r : ShotRef) : Nat := if r ∈ q.order then q.order.idxOf r + 1 else 0

/-- 9.4: the results beat of a queue request: tether state, class and attempts in 2 bytes each, the presence flag and the
position, counted from 1, in 1 byte each (log 13). -/
def queueBeat (st cls attempts : Nat) (presence : Bool) (position : Nat) : Beat :=
  BitVec.ofNat 64 (packResults [(2, st), (2, cls), (2, attempts), (1, flag presence), (1, position)])

/-- 9.4, R179: the values a queue request's results beat carries, as they stand. -/
def State.queueResults (s : State) (r : ShotRef) : Beat :=
  match (s.shotAt r).bind (·.tether) with
  | some t => queueBeat t.state.code t.cls.code t.attempts true (s.queue.position r)
  | none => queueBeat 0 0 0 false (s.queue.position r)

/-- A queue request completes with a code and the shot's values. -/
def State.queueDone (s : State) (slot : Fin 8) (code : ResultCode) (r : ShotRef) : State := s.complete slot code (s.queueResults r)

/-- A shot's class becomes URGENT. -/
def State.makeUrgent (s : State) (i : Fin 48) : State := s.modifyShot i fun x => x.mapTether fun t => { t with cls := .urgent }

/-- R170, R173: PRIORITISE of a shot that has a tether part. -/
def State.prioritiseShot (s : State) (r : ShotRef) (x : Shot) (t : TetherPart) : State :=
  if x.state = .kept then
    match t.state with
    | .queued => (({ s with queue := (s.queue.leave r).enter .urgent false r }).makeUrgent r.index).mark (.mirror r.index)
    | .sending | .failed => s.makeUrgent r.index
    | .sent => s
  else s

/-- R173: PRIORITISE. -/
def State.reqPrioritise (s : State) (slot : Fin 8) (n : Nat) : State :=
  match s.named n with
  | none => s.refuse slot .noShot
  | some (r, x) =>
    match x.tether with
    | some t => (s.prioritiseShot r x t).queueDone slot .done r
    | none => s.queueDone slot .done r

/-- R174: a shot that REQUEUE may take: KEPT, with a tether part whose state is FAILED. -/
def Shot.requeueable (x : Shot) : Bool := x.state == .kept && x.tether.map (·.state) == some .failed

/-- R174: REQUEUE. -/
def State.reqRequeue (s : State) (slot : Fin 8) (n : Nat) : State :=
  match s.named n with
  | none => s.refuse slot .noShot
  | some (r, x) =>
    if x.requeueable then
      let s1 := (s.modifyShot r.index fun x => x.mapTether fun t => { t with attempts := 0 }).enqueue r.index false
      (s1.queueDone slot .done r).settle s
    else s.queueDone slot .wrongState r

/-- R175: a shot is withdrawn from tethering. -/
def State.dropTether (s : State) (r : ShotRef) : State :=
  let s1 := (s.withdraw r .dropTether).modifyShot r.index fun x => { x with holds := { x.holds with tether := false }, tether := none }
  s1.freeingCheck r.index

/-- R175: DROP_TETHER. -/
def State.reqDropTether (s : State) (slot : Fin 8) (n : Nat) : State :=
  match s.named n with
  | none => s.refuse slot .noShot
  | some (r, x) => if x.holds.tether then ((s.dropTether r).queueDone slot .done r).settle s else s.queueDone slot .done r

/-! ### Tether port -/

/-- R164: a TETHER_CONTROL completes with a code and the port state. -/
def State.portDone (s : State) (slot : Fin 8) (code : ResultCode) : State := s.complete slot code (results [s.tport.state.code])

/-- R164: TETHER_CONTROL ENABLE. -/
def State.reqEnable (s : State) (slot : Fin 8) : State :=
  if s.tport.state = .disabled then (s.portIdle.portDone slot .done).settle s else s.portDone slot .wrongState

/-- R166: TETHER_CONTROL DISABLE. -/
def State.reqDisable (s : State) (slot : Fin 8) : State :=
  match s.tport.state with
  | .disabled | .waitLink | .idle | .halted => (s.setPort .disabled).portDone slot .done
  | .awaitVerdict | .sending => (s.askCut (.disable slot)).settle s

/-- R164: TETHER_CONTROL RESUME. -/
def State.reqResume (s : State) (slot : Fin 8) : State :=
  if s.tport.state = .halted then (s.portIdle.portDone slot .done).settle s else s.portDone slot .wrongState

/-- R164: TETHER_CONTROL by its action. -/
def State.reqTetherControl (s : State) (slot : Fin 8) (action : Nat) : State :=
  match action with
  | 0 => s.reqEnable slot
  | 1 => s.reqDisable slot
  | 2 => s.reqResume slot
  | _ => s.portDone slot .badValue

/-! ### CLEAR_BUFFER (R190) -/

/-- R28 step 1: every view unmapped and every view count 0. -/
def State.clearViews (s : State) : State :=
  { s with
    windows := { s.windows with views := Vector.replicate 4 none }
    shots := { s.shots with records := s.shots.records.map fun r => r.map fun x => { x with views := 0 } } }

/-- R28, R75, R94: the frame in flight is aborted and the rest of the reservation released. -/
def State.clearFrame (s : State) : State := ((s.closePhase).closeFrame).releaseReservation

/-- R75: the release unit's part. -/
def State.clearRelease (s : State) : State :=
  { s with release := { s.release with fireCount := 0, singlePending := false, waiting := none, shotTimer := none } }

/-- R28 steps 3 and 5: every record in use is freed, in table index order, and the pre-capture list is emptied. -/
def State.clearRecords (s : State) : State :=
  let s1 := (List.finRange 48).foldl State.freeShot s
  { s1 with shots := { s1.shots with preList := [] } }

/-- R178: the item on the port is detached, and every entry leaves the queue. -/
def State.clearQueue (s : State) : State := { s.detachItem with queue := { urgent := [], normal := [] } }

/-- R190: the at-once effects of CLEAR_BUFFER in every block. -/
def State.clearAll (s : State) : State := (((((s.clearQueue).clearViews).clearFrame).clearRelease).clearEngine).clearRecords

/-- R190: CLEAR_BUFFER. The cut of an item on the port is asked for with its results to come (log 26). -/
def State.reqClearBuffer (s : State) (slot : Fin 8) : State :=
  let freed := s.usedRecords
  let s1 := s.clearAll
  match s1.tport.item with
  | none => (s1.complete slot .done (results [s1.pool.free.length, freed])).settle s
  | some _ => (s1.askCut (.clearBuffer slot freed)).settle s

/-! ### Causes and mask -/

/-- R187, R188: some bit from 20 to 63 is set. -/
def causeBad (v : Nat) : Bool := 2 ^ 20 ≤ v

/-- R187: CLEAR_CAUSES. The results beat carries the pending set after the clearing. -/
def State.reqClearCauses (s : State) (slot : Fin 8) (v : Nat) : State :=
  if causeBad v then s.refuse slot .badValue
  else
    let s1 := s.clearCauseSet (BitVec.ofNat 20 v)
    s1.complete slot .done (BitVec.ofNat 64 s1.req.causes.toNat)

/-- R188: SET_MASK. -/
def State.reqSetMask (s : State) (slot : Fin 8) (v : Nat) : State :=
  if causeBad v then s.refuse slot .badValue
  else (s.replaceMask (BitVec.ofNat 20 v)).complete slot .done (BitVec.ofNat 64 v)

/-! ### Taking (R183) -/

/-- R183: a request is handed to its owning block by its kind; a kind of 0 or above 20 completes with UNKNOWN_KIND. -/
def State.perform (s : State) (slot : Fin 8) (kind : Byte) (a : Vector Beat 6) : State :=
  match kind.toNat with
  | 1 => s.reqConfigurePool slot (arg a 0) (arg a 1) (arg a 2)
  | 2 => s.reqLoadSettings slot (arg a 0) (arg a 1)
  | 3 => s.reqSelectCapture slot (arg a 0)
  | 4 => s.reqSetFocus slot (arg a 0) (arg a 1) (arg a 2) (arg a 3)
  | 5 => s.reqHomeLens slot
  | 6 => s.reqMoveLens slot (arg a 0)
  | 7 => s.reqFire slot (arg a 0)
  | 8 => s.reqMapView slot (arg a 0) (arg a 1) (arg a 2) (arg a 3) (arg a 4) (arg a 5)
  | 9 => s.reqUnmapView slot (arg a 0)
  | 10 => s.reqReleaseCard slot (arg a 0)
  | 11 => s.reqProtect slot (arg a 0)
  | 12 => s.reqUnprotect slot (arg a 0)
  | 13 => s.reqDiscard slot (arg a 0)
  | 14 => s.reqPrioritise slot (arg a 0)
  | 15 => s.reqRequeue slot (arg a 0)
  | 16 => s.reqDropTether slot (arg a 0)
  | 17 => s.reqTetherControl slot (arg a 0)
  | 18 => s.reqClearBuffer slot
  | 19 => s.reqClearCauses slot (arg a 0)
  | 20 => s.reqSetMask slot (arg a 0)
  | _ => s.refuse slot .unknownKind

/-- R182, R183: a slot copy at the taking of its request: TAKEN, the request's values kept. -/
def Slot.take (sl : Slot) : Slot :=
  { sl with state := .taken, taken := some { kind := sl.kind, tag := sl.tag, args := sl.args, code := .done, results := 0 } }

/-- R183: the taking: the slot copy becomes TAKEN and its record is marked. -/
def State.take (s : State) (slot : Fin 8) : State := (s.setSlot slot s.req.slots[slot].take).mark (.slot slot)

/-- R182: a post to a slot: the request is taken and performed, or ignored with REQUEST_COLLISION. -/
def State.post (s : State) (slot : Fin 8) : State :=
  if s.req.slots[slot].state = .taken then s.raise .requestCollision
  else (s.take slot).perform slot s.req.slots[slot].kind s.req.slots[slot].args

/-- R38, R181: the enabled bytes of a write from a DRAM offset reach the slot copies. -/
def State.copyBytes (s : State) (off : Nat) (bytes : List (Option Byte)) : State :=
  { s with
    req := { s.req with
      slots := Vector.ofFn fun i : Fin 8 => s.req.slots[i].putBytes (slotPart i off bytes).1 (slotPart i off bytes).2 } }

/-- R27, R184: the post to a slot that a write carries; the records it changes are marked whatever a later post of the same
write makes of them. -/
def State.postIn (s : State) (slot : Fin 8) : State := (s.post slot).markMirrors s

/-- R38, R182: a write performed from a DRAM offset is handed over: the slot copies follow its bytes, and the posts it carries
are acted on in slot order. -/
def State.handOver (s : State) (off : Nat) (bytes : List (Option Byte)) : State :=
  (List.finRange 8).foldl (fun s i => if posts i off bytes then s.postIn i else s) (s.copyBytes off bytes)

/-- R181: a slot copy after a write of beat 0 with a kind and a tag, and of the first argument beats. -/
def Slot.load (sl : Slot) (kind : Byte) (tag : Word32) (args : List Beat) : Slot :=
  { sl with kind := kind, tag := tag, args := putArgs sl.args args }

/-- A request command (log 7): the handover of a write of beat 0 (kind, POSTED, tag) and of the request's argument beats. -/
def State.request (s : State) (slot : Fin 8) (kind : Byte) (tag : Word32) (args : List Beat) : State :=
  (s.setSlot slot (s.req.slots[slot].load kind tag args)).post slot

end Sys2Proof.Machine
end

