-- ==== Sys2Proof/Machine/Passage.lean ====
section
/-! DEFINITION. The passage of host traffic: the lanes, the targets of the windows, capture writes, and the grants of the memory
port (chapter 2, 3.7). -/

namespace Sys2Proof.Machine

/-! ### Capture writes (R71, R72) -/

/-- A DRAM target: the offset, and whom the performance is told to. -/
abbrev Target := Nat × Notice

/-- R71 case 3: the target in a SHOT frame's page list, after the assignment of the pages it lacks. -/
def State.shotTarget (s : State) (f : Frame) (i : Fin 48) (o : Nat) : State × Option Target :=
  let s1 := s.assignPages i (o / mib)
  (s1, ((s1.record i).bind fun x => x.pages[o / mib]?).map fun p => (p * mib + o % mib, .capture f.serial o))

/-- R71: a capture-aperture write at a frame offset is decided at service. -/
def State.captureWrite (s : State) (o : Nat) : State × Option Target :=
  match s.intake.frame with
  | none => (s.raise .strayWrite, none)
  | some f =>
    if f.geom.frameBytes ≤ o then
      if f.overlength then (s, none)
      else (({ s with intake := { s.intake with frame := some { f with overlength := true } } }).raise .overlength, none)
    else
      match f.kind with
      | .shot i => s.shotTarget f i o
      | .live slot => (s, some (s.pool.livePage slot (o / mib) * mib + o % mib, .capture f.serial o))

/-- R40: a capture-aperture read at a frame offset is translated against the frame in flight. -/
def State.captureRead (s : State) (o : Nat) : Option Target :=
  match s.intake.frame with
  | none => none
  | some f =>
    if f.geom.frameBytes ≤ o then none
    else
      match f.kind with
      | .shot i => ((s.record i).bind fun x => x.pages[o / mib]?).map fun p => (p * mib + o % mib, .none)
      | .live slot => some (s.pool.livePage slot (o / mib) * mib + o % mib, .none)

/-- R72: the number of enabled bytes of a write. -/
def enabledCount (bytes : List (Option Byte)) : Nat := bytes.countP Option.isSome

/-- R72: a write from a frame offset covers the frame's last byte. -/
def coversEnd (f : Frame) (o : Nat) (bytes : List (Option Byte)) : Bool :=
  o < f.geom.frameBytes && f.geom.frameBytes ≤ o + bytes.length

/-- R69, R72: bytes accepted rise by the enabled bytes, capped at 0xFFFF_FFFF. -/
def Frame.accept (f : Frame) (bytes : List (Option Byte)) : Frame :=
  { f with accepted := cap 0xFFFFFFFF (f.accepted + enabledCount bytes) }

/-- R72: the notice of a capture write performed: ignored unless its serial is that of the frame in flight. -/
def State.captureNotice (s : State) (serial : Word32) (o : Nat) (bytes : List (Option Byte)) : State :=
  match s.intake.frame with
  | none => s
  | some f =>
    if f.serial = serial then
      let f1 := f.accept bytes
      let s1 := { s with intake := { s.intake with frame := some f1 }, phase := s.phase.notice o bytes }
      if coversEnd f1 o bytes then (s1.completeFrame f1).settle s else s1
    else s

/-! ### View transfers (R43-R45) -/

/-- R43: the target of a shot's view offset, through the record as it stands. -/
def State.shotViewTarget (s : State) (i : Fin 48) (n o : Nat) : Option Nat :=
  match s.shotAt { index := i, number := n } with
  | some x => if x.geom.frameBytes ≤ o then none else (x.pages[o / mib]?).map fun p => p * mib + o % mib
  | none => none

/-- R44: the target of a live view offset, through the designated slot as it stands. -/
def State.liveViewTarget (s : State) (o : Nat) : Option Nat :=
  match s.windows.designation, s.windows.liveGeom with
  | some d, some g => if g.frameBytes ≤ o then none else some (s.pool.livePage d (o / mib) * mib + o % mib)
  | _, _ => none

/-- R43 to R45: the target of an ordinary-lane write through a view. -/
def State.viewWriteTarget (s : State) (v : Fin 4) (o : Nat) : Option Target :=
  match s.windows.views[v] with
  | none => none
  | some e =>
    match e.developed, e.source with
    | false, .shot i n => (s.shotViewTarget i n o).map fun a => (a, .rawView i n)
    | _, _ => none

/-- R43 to R45: the target of an ordinary-lane read through a view. -/
def State.viewReadTarget (s : State) (v : Fin 4) (o : Nat) : Option Target :=
  match s.windows.views[v] with
  | none => none
  | some e =>
    match e.developed, e.source with
    | false, .shot i n => (s.shotViewTarget i n o).map fun a => (a, .none)
    | false, .live => (s.liveViewTarget o).map fun a => (a, .none)
    | true, _ => none

/-! ### The ordinary lane (R34, R36) -/

/-- R30, R37 to R45: the target of a WRITE at service; a dropped write raises the cause its rule names. -/
def State.writeTarget (s : State) (a : Nat) : State × Option Target :=
  match windowOf a with
  | .direct => (s, some (a, .slots))
  | .capture => s.captureWrite (frameOffset a)
  | .view v =>
    match s.viewWriteTarget v (viewOffset a) with
    | some t => (s, some t)
    | none => (s.raise .viewWriteDropped, none)
  | .void => (s.raise .voidAccess, none)

/-- R30, R37 to R45: the target of a READ at service. -/
def State.readTarget (s : State) (a : Nat) : State × Option Target :=
  match windowOf a with
  | .direct => (s, some (a, .none))
  | .capture => (s, s.captureRead (frameOffset a))
  | .view v => (s, s.viewReadTarget v (viewOffset a))
  | .void => (s.raise .voidAccess, none)

/-- R34: the look-up of a transfer's target at service; a malformed transfer is a void access (R30, log 11). -/
def State.lookUp (s : State) (t : Transfer) : State × Option Target :=
  if malformed t.addr t.count then (s.raise .voidAccess, none)
  else if t.isWrite then s.writeTarget (byteAddr t.addr)
  else s.readTarget (byteAddr t.addr)

/-- R34: the reads at the front of the lane whose data or zeros are ready leave it, in arrival order; writes wait for no read. -/
def flushReads : List LaneEntry → List LaneEntry × List Response
  | [] => ([], [])
  | e :: es =>
    match e.transfer, e.service with
    | .read tag _ _, .ready d => ((flushReads es).1, { tag := tag, data := d } :: (flushReads es).2)
    | .read _ _ _, .waiting => (e :: es, [])
    | .read _ _ _, .issued _ _ => (e :: es, [])
    | .write _ _, _ => (e :: (flushReads es).1, (flushReads es).2)

/-- R31, R34: the answers that may be sent are sent, each with its credit. -/
def State.flush (s : State) : State :=
  let out := flushReads s.link.ordinary
  { s with
    link := { s.link with
      ordinary := out.1, sent := s.link.sent ++ out.2, credits := s.link.credits + out.2.length } }

/-- The place of the oldest entry of the ordinary lane that waits for service. -/
def waitingAt (l : List LaneEntry) : Option Nat := l.findIdx? fun e => e.service == .waiting

/-- The place of the oldest entry of the ordinary lane whose PASSAGE request waits at the memory port. -/
def issuedAt (l : List LaneEntry) : Option Nat :=
  l.findIdx? fun e => match e.service with
    | .issued _ _ => true
    | .waiting | .ready _ => false

/-- An entry's service changed. -/
def setService (l : List LaneEntry) (k : Nat) (x : Service) : List LaneEntry := l.modify k fun e => { e with service := x }

/-- The ordinary lane replaced. -/
def State.setOrdinary (s : State) (l : List LaneEntry) : State := { s with link := { s.link with ordinary := l } }

/-- R31: the entry at a place leaves the store, and its credit is returned. -/
def State.leaveStore (s : State) (k : Nat) : State := (s.setOrdinary (s.link.ordinary.eraseIdx k)).returnCredit

/-- R36: the zero beats of a transfer. -/
def zeroBeats (count : Nat) : List Byte := List.replicate (8 * count) 0

/-- R34: the outcome of a served transfer at a place: a PASSAGE request, zeros, or a drop. -/
def State.outcome (s : State) (k : Nat) (t : Transfer) : Option Target → State
  | some (off, n) => s.setOrdinary (setService s.link.ordinary k (.issued off n))
  | none =>
    if t.isWrite then s.leaveStore k
    else (s.setOrdinary (setService s.link.ordinary k (.ready (zeroBeats t.count)))).flush

/-- R34: the oldest waiting transfer of the ordinary lane is served. -/
def State.serve (s : State) : State :=
  match waitingAt s.link.ordinary with
  | none => s
  | some k =>
    match s.link.ordinary[k]? with
    | none => s
    | some e => (s.lookUp e.transfer).1.outcome k e.transfer (s.lookUp e.transfer).2

/-! ### The memory port (R49, R50) -/

/-- R49: an internal requester waits. -/
def State.waits (s : State) : Requester → Bool
  | .develop => !s.port.develop.isEmpty
  | .tether => !s.port.tether.isEmpty
  | .report => s.port.report.isSome
  | .settings => !s.port.settings.isEmpty

/-- R50: the fixed cycle DEVELOP, TETHER, REPORT, SETTINGS, counted on from the one after `r`. -/
def cycleAfter : Requester → List Requester
  | .develop => [.tether, .report, .settings, .develop]
  | .tether => [.report, .settings, .develop, .tether]
  | .report => [.settings, .develop, .tether, .report]
  | .settings => [.develop, .tether, .report, .settings]

/-- R50: the internal requester that an internal grant goes to. -/
def State.nextInternal (s : State) : Option Requester := (cycleAfter s.port.lastServed).find? s.waits

/-- R49: PASSAGE waits. -/
def State.passageWaits (s : State) : Bool := (issuedAt s.link.ordinary).isSome

/-- R38, R39, R43: the performance of a write is told. -/
def State.tell (s : State) (off : Nat) (bytes : List (Option Byte)) : Notice → State
  | .none => s
  | .slots => if 0x100 ≤ off ∧ off < 0x300 then s.handOver off bytes else s
  | .capture serial o => s.captureNotice serial o bytes
  | .rawView i n => (s.dropWrittenShot i n).settle s

/-- R31, R34, R50: the PASSAGE request of the entry at a place is performed. -/
def State.performPassage (s : State) (k : Nat) (e : LaneEntry) : State :=
  match e.transfer, e.service with
  | .write _ bytes, .issued off n => (({ s with mem := s.mem.writeMasked off bytes }).leaveStore k).tell off bytes n
  | .read _ _ count, .issued off _ =>
    (s.setOrdinary (setService s.link.ordinary k (.ready (s.mem.readBytes off (8 * count))))).flush
  | _, _ => s

/-- R141: a DEVELOP request is performed. -/
def State.performFill (s : State) (q : FillRequest) : State :=
  let data := s.mem.readBytes q.offset 256
  { s with engine := { s.engine with places := s.engine.places.set q.place ((s.engine.places[q.place]).fillStep q.block data) } }

/-- R156: a raw place whose read has been performed. -/
def RawPlace.arrive (data : List Byte) : RawPlace → RawPlace
  | .reading b => .ready b data
  | .empty => .empty
  | .ready b d => .ready b d

/-- R156: a TETHER request is performed; the read of an item that has ended is discarded. -/
def State.performRaw (s : State) (q : RawRequest) : State :=
  if q.wanted then
    let data := s.mem.readBytes q.offset 256
    { s with tport := { s.tport with raw := s.tport.raw.set q.place ((s.tport.raw[q.place]).arrive data) } }
  else s

/-- R50: the oldest request of an internal requester is performed. -/
def State.performInternal (s : State) : Requester → State
  | .develop =>
    match s.port.develop with
    | [] => s
    | q :: qs => (({ s with port := { s.port with develop := qs } }).performFill q).settle s
  | .tether =>
    match s.port.tether with
    | [] => s
    | q :: qs => (({ s with port := { s.port with tether := qs } }).performRaw q).settle s
  | .report =>
    match s.port.report with
    | none => s
    | some q => s.performReport q
  | .settings =>
    match s.port.settings with
    | [] => s
    | q :: qs => ({ s with port := { s.port with settings := qs } }).endLoad q

/-- R50: the count of consecutive PASSAGE grants after one more: it stays at 8. -/
def State.countPassage (s : State) : State :=
  { s with port := { s.port with passageRun := cap 8 (s.port.passageRun + 1) } }

/-- R50: an internal grant: the last served and the count. -/
def State.grantInternal (s : State) (r : Requester) : State :=
  ({ s with port := { s.port with passageRun := 0, lastServed := r } }).performInternal r

/-- R50: a PASSAGE grant. -/
def State.grantPassage (s : State) : State :=
  match issuedAt s.link.ordinary with
  | none => s
  | some k =>
    match s.link.ordinary[k]? with
    | none => s
    | some e => (s.countPassage).performPassage k e

/-- R50: the arbiter's grant. -/
def State.grant (s : State) : State :=
  if s.passageWaits && (s.port.passageRun < 8 || s.nextInternal.isNone) then s.grantPassage
  else
    match s.nextInternal with
    | some r => s.grantInternal r
    | none => s

/-! ### Arrival (R31, R33) -/

/-- R33: a READ whose view is mapped DEVELOPED at the moment of arrival goes to the develop lane. -/
def State.toDevelopLane (s : State) (addr : BitVec 29) (count : Nat) : Bool :=
  if malformed addr count then false
  else
    match windowOf (byteAddr addr) with
    | .view v =>
      match s.windows.views[v] with
      | some e => e.developed
      | none => false
    | .direct | .capture | .void => false

/-- R31: the credit a transfer spends. -/
def State.spendCredit (s : State) : State := { s with link := { s.link with credits := s.link.credits - 1 } }

/-- R33: a transfer joins the ordinary lane. -/
def State.joinOrdinary (s : State) (t : Transfer) : State :=
  s.setOrdinary (s.link.ordinary ++ [{ transfer := t, service := .waiting }])

/-- R33: a READ joins the develop lane. -/
def State.joinDevelop (s : State) (r : LaneRead) : State := { s with link := { s.link with develop := s.link.develop ++ [r] } }

/-! ### Link start (R27, R32, R185) -/

/-- R184: a report record composed and written at once. -/
def State.writeRecord (s : State) (r : ReportRecord) : State := (s.countWrite r).performReport ((s.countWrite r).composeRecord r)

/-- R27, R32: the initial reports: the 48 mirror records, then the status record. -/
def State.initialReports (s : State) : State :=
  ((List.finRange 48).foldl (fun s i => s.writeRecord (.mirror i)) s).writeRecord .status

/-- R32, R50: link start: the initial reports are in DRAM, REPORT was served last, and the host holds 32 credits (log 9). -/
def State.startLink (s : State) : State :=
  let s1 := s.initialReports
  { s1 with
    link := { s1.link with started := true, credits := 32 }
    port := { s1.port with passageRun := 0, lastServed := .report }
    req := { s1.req with reportList := [] } }

/-- R32, R191: the part after RESET_N: every block at its reset value, DRAM unknown; what has left the part stays sent (log 8). -/
def State.afterReset (s : State) : State :=
  let r := State.resetWith s.pins
  { r with mem := s.mem.afterReset, link := { r.link with sent := s.link.sent }, pending := s.pending }

end Sys2Proof.Machine
end

