-- ==== Sys2Proof/WellFormed.lean ====
section
/-! DEFINITION. Which commands are commands of the part. The types of the operands already bound every field but three. -/

namespace Sys2Proof

/-- R29: a transfer has a beat count of 1-32. -/
def beatCountOk (n : Nat) : Bool := 1 ≤ n && n ≤ 32

/-- R183: the kind codes that name no request are 0 and those above 20. -/
def unknownKind (k : Byte) : Bool := k == 0 || 20 < k.toNat

/-- A command is well formed when its packet is a packet of the link (R29) and when an unknown kind is one (R183). -/
def Instr.wellFormed : Instr → Bool
  | .write _ beats => beatCountOk beats.length
  | .read _ _ count => beatCountOk count
  | .unknownKindRequest _ _ kind => unknownKind kind
  | .resetN | .linkStart | .timeBaseTick | .ordinaryLaneService | .memoryGrant | .reportIssue
  | .lineChange _ _ | .debouncedChange _ | .liveTrigger | .shotTriggerDue | .ftrigPulseBegin
  | .ftrigPulseEnd | .readoutTimeout | .stepBoundary _ | .stepPulseEnd _ | .homingBoundary _
  | .settleDeadline _ | .tlinkChange _ | .trdyChange _ | .settleWaitEnd | .strobeEnd | .wordSlot
  | .stall | .tack _ | .tnak _ | .verdictTimeout | .configurePool _ _ _ _ _ | .loadSettings _ _ _ _
  | .selectCapture _ _ _ | .setFocus _ _ _ _ _ _ | .homeLens _ _ | .moveLens _ _ _ | .fire _ _ _
  | .mapView _ _ _ _ _ _ _ _ | .unmapView _ _ _ | .releaseCard _ _ _ | .protect _ _ _
  | .unprotect _ _ _ | .discard _ _ _ | .prioritise _ _ _ | .requeue _ _ _ | .dropTether _ _ _
  | .tetherControlEnable _ _ | .tetherControlDisable _ _ | .tetherControlResume _ _
  | .clearBuffer _ _ | .clearCauses _ _ _ | .setMask _ _ _ => true

end Sys2Proof
end

