-- ==== Sys2Proof/Machine/LinkCommands.lean ====
section
/-! DEFINITION. The commands of the system, the link and the memory port: reset, link start, the time base, packets, lane
service, grants and report issue. -/

namespace Sys2Proof.Machine

/-- The outcome of a command. -/
abbrev Result := Host.Outcome State Fault Refusal

/-- R32, R75, R94, R148, R167, R191: RESET_N. -/
def execResetN (s : State) : Result := .next s.afterReset

/-- R32: LINK_START, once after each RESET_N (log 9). -/
def execLinkStart (s : State) : Result := .next (if s.link.started then s else s.startLink)

/-- R196: the divider count returns to 0 and the time base rises by one (log 4). -/
def State.tick (s : State) : State := { s with time := { ticks := s.time.ticks + 1, divider := 0 } }

/-- R196: TIME_BASE_TICK. -/
def execTimeBaseTick (s : State) : Result := .next s.tick

/-- R31, R33: a WRITE that arrives with a credit joins the ordinary lane; without one it is discarded (log 10). -/
def State.arriveWrite (s : State) (addr : BitVec 29) (beats : List WriteBeat) : State :=
  if s.link.credits = 0 then s else (s.spendCredit).joinOrdinary (.write addr (writeBytes beats))

/-- R29 to R33: WRITE. -/
def execWrite (addr : BitVec 29) (beats : List WriteBeat) (s : State) : Result :=
  if beatCountOk beats.length then .next (s.arriveWrite addr beats) else .refused .notAPacket

/-- R31, R33, R136: a READ that arrives with a credit joins its lane, and the engine picks it up if it is idle. -/
def State.arriveRead (s : State) (tag : BitVec 5) (addr : BitVec 29) (count : Nat) : State :=
  if s.link.credits = 0 then s
  else if s.toDevelopLane addr count then
    s.event fun s => (s.spendCredit).joinDevelop { tag := tag, addr := addr, count := count }
  else (s.spendCredit).joinOrdinary (.read tag addr count)

/-- R29 to R33: READ. -/
def execRead (tag : BitVec 5) (addr : BitVec 29) (count : Nat) (s : State) : Result :=
  if beatCountOk count then .next (s.arriveRead tag addr count) else .refused .notAPacket

/-- R34: ORDINARY_LANE_SERVICE. -/
def execOrdinaryLaneService (s : State) : Result := .next (s.quietEvent State.serve)

/-- R49, R50: MEMORY_GRANT. Before link start the memory port grants nothing (R49, log 9). -/
def execMemoryGrant (s : State) : Result := .next (if s.link.started then s.quietEvent State.grant else s)

/-- R184: REPORT_ISSUE. Before link start nothing is issued (log 9). -/
def execReportIssue (s : State) : Result := .next (if s.link.started then s.issueReport else s)

end Sys2Proof.Machine
end

