-- ==== Sys2Proof/Machine/ReleaseCommands.lean ====
section
/-! DEFINITION. The commands of the release lines, the triggers, the FTRIG pulses and the readout deadline (chapter 3). A
command whose condition does not hold leaves the state as it is (log 5). -/

namespace Sys2Proof.Machine

/-- The reading of a debounced line's pin replaced. -/
def Pins.setLine (p : Pins) (l : Line) (level : Bool) : Pins :=
  match l with
  | .s1 => { p with s1 := level }
  | .s2 => { p with s2 := level }
  | .remote => { p with remote := level }
  | .lready => { p with lready := level }

/-- The reading of a HOME line replaced (R110). -/
def Pins.setHome (p : Pins) (g : Group) (level : Bool) : Pins :=
  match g with
  | .g0 => { p with homeG0 := level }
  | .g1 => { p with homeG1 := level }

/-- R51: a line reads a new level: a difference begins or ends, and with a debounce time of 0 the change counts at once. -/
def State.lineReads (s : State) (l : Line) (level : Bool) : State :=
  let s1 := ({ s with pins := s.pins.setLine l level }).readLine l
  if s1.debounceOver l then s1.countAndSettle l else s1

/-- R51, R110: LINE_CHANGE. A HOME line is read without debounce at the homing boundaries (R113, log 6). -/
def execLineChange (line : InputLine) (level : Bool) (s : State) : Result :=
  match line with
  | .debounced l => .next (s.quietEvent fun s => s.lineReads l level)
  | .home g => .next { s with pins := s.pins.setHome g level }

/-- R51: DEBOUNCED_CHANGE. -/
def execDebouncedChange (line : Line) (s : State) : Result :=
  .next (if s.debounceOver line then s.quietEvent fun s => s.countAndSettle line else s)

/-- R57: a live trigger falls due at the live timer. -/
def State.liveTimerReached (s : State) : State :=
  match s.release.liveTimer with
  | some t => if t ≤ s.now then s.event fun s => s.liveFallsDue t else s
  | none => s

/-- R57: LIVE_TRIGGER. -/
def execLiveTrigger (s : State) : Result := .next s.liveTimerReached

/-- R64: a wanted shot trigger that does not wait falls due, and is tested. -/
def State.shotFallsDue (s : State) : State :=
  match s.wantedTrigger with
  | some k => if s.release.waiting.isNone && s.shotDue then s.event fun s => s.testTrigger k else s
  | none => s

/-- R64, R65: SHOT_TRIGGER_DUE. -/
def execShotTriggerDue (s : State) : Result := .next s.shotFallsDue

/-- The first element of a list that meets a condition replaced, or taken out. -/
def updateFirst {α : Type} (p : α → Bool) (f : α → Option α) : List α → List α
  | [] => []
  | x :: xs => if p x then (f x).toList ++ xs else x :: updateFirst p f xs

/-- R68: a scheduled pulse is due to begin, or to end. -/
def State.pulseBegins (s : State) (p : Pulse) : Bool := !p.running && p.beginAt ≤ s.now
def State.pulseEnds (s : State) (p : Pulse) : Bool := p.running && p.endAt ≤ s.now

/-- The scheduled pulses replaced. -/
def State.setPulses (s : State) (l : List Pulse) : State := { s with release := { s.release with pulses := l } }

/-- R68: FTRIG_PULSE_BEGIN, of the oldest pulse that is due to begin (log 34). -/
def execFtrigPulseBegin (s : State) : Result :=
  .next (s.setPulses (updateFirst s.pulseBegins (fun p => some { p with running := true }) s.release.pulses))

/-- R68: FTRIG_PULSE_END, of the oldest pulse that is due to end (log 34). -/
def execFtrigPulseEnd (s : State) : Result := .next (s.setPulses (updateFirst s.pulseEnds (fun _ => none) s.release.pulses))

/-- R74: the readout deadline of the frame in flight is reached. -/
def State.readoutReached (s : State) : State :=
  match s.intake.frame with
  | some f => if f.deadline ≤ s.now then s.event fun s => s.timeoutFrame f else s
  | none => s

/-- R74: READOUT_TIMEOUT. -/
def execReadoutTimeout (s : State) : Result := .next s.readoutReached

end Sys2Proof.Machine
end

