-- ==== Sys2Proof/Machine/LensCommands.lean ====
section
/-! DEFINITION. The commands of the lens drive (5.7 to 5.9). A command whose condition does not hold leaves the state as it is
(log 5). -/

namespace Sys2Proof.Machine

/-- R116, R117: a MOVING group at its step boundary of a moment: a pending target is taken, then the group acts. -/
def State.stepGroup (s : State) (g : Group) (l : Lens) (at_ : Nat) : State :=
  s.setGroup g (((s.lens.group g).takePending (l.group g)).boundaryAct (l.group g) at_)

/-- R111: the boundary of a group in a state, once it is reached. -/
def State.boundaryOf (s : State) (g : Group) (st : GroupState) : Option Nat :=
  if (s.lens.group g).state = st then (s.lens.group g).boundary.filter fun t => t ≤ s.now else none

/-- R116: a step boundary of a group. -/
def State.stepReached (s : State) (g : Group) : State :=
  match s.boundaryOf g .moving, s.tables.lens with
  | some t, some l => s.event fun s => s.stepGroup g l t
  | _, _ => s

/-- R111, R116, R117: STEP_BOUNDARY. -/
def execStepBoundary (group : Group) (s : State) : Result := .next (s.stepReached group)

/-- R111: STEP is driven inactive. -/
def GroupDrive.endPulse (g : GroupDrive) : GroupDrive := { g with step := false, stepEnd := none }

/-- R111: STEP_PULSE_END. -/
def execStepPulseEnd (group : Group) (s : State) : Result :=
  .next (if s.reached (s.lens.group group).stepEnd then s.setGroup group (s.lens.group group).endPulse else s)

/-- R113, R114: a homing boundary of a group. -/
def State.homingReached (s : State) (g : Group) : State :=
  match s.boundaryOf g .homing with
  | some t => s.event fun s => (s.homingStep g t).homingEnd
  | none => s

/-- R113, R114: HOMING_BOUNDARY. -/
def execHomingBoundary (group : Group) (s : State) : Result := .next (s.homingReached group)

/-- R116: a SETTLING group becomes IDLE. -/
def GroupDrive.rest (g : GroupDrive) : GroupDrive := { g with state := .idle, settleAt := none }

/-- R116: a SETTLING group reaches its settle deadline. -/
def State.settleReached (s : State) (g : Group) : State :=
  if (s.lens.group g).state = .settling ∧ s.reached (s.lens.group g).settleAt then
    s.event fun s => s.setGroup g (s.lens.group g).rest
  else s

/-- R116: SETTLE_DEADLINE. -/
def execSettleDeadline (group : Group) (s : State) : Result := .next (s.settleReached group)

end Sys2Proof.Machine
end

