-- ==== Sys2Proof/Machine/TetherCommands.lean ====
section
/-! DEFINITION. The commands of the tether port (chapter 8). A command whose condition does not hold leaves the state as it is
(log 5). -/

namespace Sys2Proof.Machine

/-- R151: TLINK moves an enabled port without an item between WAIT_LINK and IDLE. -/
def State.followLink (s : State) : State :=
  match s.tport.state with
  | .idle | .waitLink => s.portIdle
  | .disabled | .sending | .awaitVerdict | .halted => s

/-- R151, R152: TLINK_CHANGE. -/
def execTlinkChange (level : Bool) (s : State) : Result :=
  .next (s.event fun s => ({ s with pins := { s.pins with tlink := level } }).followLink)

/-- R158, R159: TRDY_CHANGE. -/
def execTrdyChange (level : Bool) (s : State) : Result :=
  .next (s.event fun s => ({ s with pins := { s.pins with trdy := level } }).trdyAdvance)

/-- The handshake step of the item on a SENDING port. -/
def State.stepNow (s : State) : Option Handshake := if s.tport.state = .sending then s.tport.item.map (·.step) else none

/-- R158: the SETTLE wait of the unit under way is over. -/
def State.settleWaitOver (s : State) : State :=
  match s.stepNow with
  | some (.settling t) => if t ≤ s.now then s.event fun s => s.settleOver t else s
  | _ => s

/-- R158 to R160: SETTLE_WAIT_END. -/
def execSettleWaitEnd (s : State) : Result := .next s.settleWaitOver

/-- R159: the strobe of the unit under way is over. -/
def State.strobeReached (s : State) : State :=
  match s.stepNow with
  | some (.strobe t) => if t ≤ s.now then s.event fun s => s.strobeOver t else s
  | _ => s

/-- R159, R160: STROBE_END. -/
def execStrobeEnd (s : State) : Result := .next s.strobeReached

/-- R160: the slot of a TIMED item has ended: its unit ends, and the next slot begins (log 29). -/
def State.slotOver (s : State) : State :=
  match s.tport.item with
  | some it =>
    if s.tport.state = .sending ∧ s.tables.tether.mode = .timed ∧ it.slotEnd ≤ s.now then s.event fun s => s.endUnit it.slotEnd
    else s
  | none => s

/-- R160, R162: WORD_SLOT. -/
def execWordSlot (s : State) : Result := .next s.slotOver

/-- R161: the moment a wait on TRDY reaches STALL_LIMIT, for the item on a SENDING port. -/
def State.stallAt (s : State) : Option Nat := (s.stepNow.bind (·.trdyWait)).map (· + s.tables.tether.stallLimit)

/-- R161: a wait on TRDY has lasted STALL_LIMIT. -/
def State.stallReached (s : State) : State :=
  match s.tport.item with
  | some it => if s.reached s.stallAt then s.event fun s => s.stallPort it else s
  | none => s

/-- R161, R165: STALL. -/
def execStall (s : State) : Result := .next s.stallReached

/-- R163: TACK reads a new level. -/
def State.setTack (s : State) (level : Bool) : State := { s with pins := { s.pins with tack := level } }

/-- R163: a TACK edge within the verdict window. -/
def State.tackReads (s : State) (level : Bool) : State :=
  let s1 := s.setTack level
  match s.awaited with
  | some it => if !s.tackActive && s1.tackActive then (s1.acceptItem it).settle s else s1
  | none => s1

/-- R163: TACK. -/
def execTack (level : Bool) (s : State) : Result := .next (s.quietEvent fun s => s.tackReads level)

/-- R163: TNAK reads a new level. -/
def State.setTnak (s : State) (level : Bool) : State := { s with pins := { s.pins with tnak := level } }

/-- R163: a TNAK edge within the verdict window. -/
def State.tnakReads (s : State) (level : Bool) : State :=
  let s1 := s.setTnak level
  match s.awaited with
  | some it => if !s.tnakActive && s1.tnakActive then (s1.refuseItem it).settle s else s1
  | none => s1

/-- R163: TNAK. -/
def execTnak (level : Bool) (s : State) : Result := .next (s.quietEvent fun s => s.tnakReads level)

/-- R163: the verdict deadline is reached. -/
def State.verdictReached (s : State) : State :=
  match s.awaited with
  | some it => if s.reached s.tport.verdictAt then s.event fun s => s.verdictLost it else s
  | none => s

/-- R163: VERDICT_TIMEOUT. -/
def execVerdictTimeout (s : State) : Result := .next s.verdictReached

end Sys2Proof.Machine
end

