-- ==== Sys2Proof/Machine/RequestCommands.lean ====
section
/-! DEFINITION. The request commands: each is the post of one kind with its arguments in a slot (R181 to R183, 10.2.1, log 7). -/

namespace Sys2Proof.Machine

/-- A request command as a whole event: the post, what its rule does, and the marks. -/
def State.command (s : State) (slot : Fin 8) (kind : Byte) (tag : Word32) (args : List Beat) : State :=
  s.quietEvent fun s => s.request slot kind tag args

/-- R3, R4: CONFIGURE_POOL. -/
def execConfigurePool (slot : Fin 8) (tag : Word32) (first last livePages : Beat) (s : State) : Result :=
  .next (s.command slot (kindCode 1) tag [first, last, livePages])

/-- R192: LOAD_SETTINGS. -/
def execLoadSettings (slot : Fin 8) (tag : Word32) (table index : Beat) (s : State) : Result :=
  .next (s.command slot (kindCode 2) tag [table, index])

/-- R55: SELECT_CAPTURE. -/
def execSelectCapture (slot : Fin 8) (tag : Word32) (profile : Beat) (s : State) : Result :=
  .next (s.command slot (kindCode 3) tag [profile])

/-- R96: SET_FOCUS. -/
def execSetFocus (slot : Fin 8) (tag : Word32) (mode selection fixedZone policy : Beat) (s : State) : Result :=
  .next (s.command slot (kindCode 4) tag [mode, selection, fixedZone, policy])

/-- R112: HOME_LENS. -/
def execHomeLens (slot : Fin 8) (tag : Word32) (s : State) : Result :=
  .next (s.command slot (kindCode 5) tag [])

/-- R118: MOVE_LENS. -/
def execMoveLens (slot : Fin 8) (tag : Word32) (target : Beat) (s : State) : Result :=
  .next (s.command slot (kindCode 6) tag [target])

/-- R62: FIRE. -/
def execFire (slot : Fin 8) (tag : Word32) (count : Beat) (s : State) : Result :=
  .next (s.command slot (kindCode 7) tag [count])

/-- R46: MAP_VIEW. -/
def execMapView (slot : Fin 8) (tag : Word32) (view source shot mode profile stream : Beat) (s : State) : Result :=
  .next (s.command slot (kindCode 8) tag [view, source, shot, mode, profile, stream])

/-- R47: UNMAP_VIEW. -/
def execUnmapView (slot : Fin 8) (tag : Word32) (view : Beat) (s : State) : Result :=
  .next (s.command slot (kindCode 9) tag [view])

/-- R18: RELEASE_CARD. -/
def execReleaseCard (slot : Fin 8) (tag : Word32) (shot : Beat) (s : State) : Result :=
  .next (s.command slot (kindCode 10) tag [shot])

/-- R19: PROTECT. -/
def execProtect (slot : Fin 8) (tag : Word32) (shot : Beat) (s : State) : Result :=
  .next (s.command slot (kindCode 11) tag [shot])

/-- R19: UNPROTECT. -/
def execUnprotect (slot : Fin 8) (tag : Word32) (shot : Beat) (s : State) : Result :=
  .next (s.command slot (kindCode 12) tag [shot])

/-- R20, R176: DISCARD. -/
def execDiscard (slot : Fin 8) (tag : Word32) (shot : Beat) (s : State) : Result :=
  .next (s.command slot (kindCode 13) tag [shot])

/-- R173: PRIORITISE. -/
def execPrioritise (slot : Fin 8) (tag : Word32) (shot : Beat) (s : State) : Result :=
  .next (s.command slot (kindCode 14) tag [shot])

/-- R174: REQUEUE. -/
def execRequeue (slot : Fin 8) (tag : Word32) (shot : Beat) (s : State) : Result :=
  .next (s.command slot (kindCode 15) tag [shot])

/-- R175: DROP_TETHER. -/
def execDropTether (slot : Fin 8) (tag : Word32) (shot : Beat) (s : State) : Result :=
  .next (s.command slot (kindCode 16) tag [shot])

/-- R164: TETHER_CONTROL with action 0, ENABLE. -/
def execTetherControlEnable (slot : Fin 8) (tag : Word32) (s : State) : Result :=
  .next (s.command slot (kindCode 17) tag [0])

/-- R166: TETHER_CONTROL with action 1, DISABLE. -/
def execTetherControlDisable (slot : Fin 8) (tag : Word32) (s : State) : Result :=
  .next (s.command slot (kindCode 17) tag [1])

/-- R164: TETHER_CONTROL with action 2, RESUME. -/
def execTetherControlResume (slot : Fin 8) (tag : Word32) (s : State) : Result :=
  .next (s.command slot (kindCode 17) tag [2])

/-- R190: CLEAR_BUFFER. -/
def execClearBuffer (slot : Fin 8) (tag : Word32) (s : State) : Result :=
  .next (s.command slot (kindCode 18) tag [])

/-- R187: CLEAR_CAUSES. -/
def execClearCauses (slot : Fin 8) (tag : Word32) (causes : Beat) (s : State) : Result :=
  .next (s.command slot (kindCode 19) tag [causes])

/-- R188: SET_MASK. -/
def execSetMask (slot : Fin 8) (tag : Word32) (mask : Beat) (s : State) : Result :=
  .next (s.command slot (kindCode 20) tag [mask])

/-- R183: a post of a kind that names no request. -/
def execUnknownKindRequest (slot : Fin 8) (tag : Word32) (kind : Byte) (s : State) : Result :=
  .next (s.command slot kind tag [])

end Sys2Proof.Machine
end

