-- ==== Sys2Proof/Machine/Dispatch.lean ====
section
/-! DEFINITION. One arm for each command: a direct call of its meaning. -/

namespace Sys2Proof.Machine

def exec (i : Instr) (s : State) : Host.Outcome State Fault Refusal :=
  match i with
  | .resetN => Sys2Proof.Machine.execResetN s
  | .linkStart => Sys2Proof.Machine.execLinkStart s
  | .timeBaseTick => Sys2Proof.Machine.execTimeBaseTick s
  | .write addr beats => Sys2Proof.Machine.execWrite addr beats s
  | .read tag addr count => Sys2Proof.Machine.execRead tag addr count s
  | .ordinaryLaneService => Sys2Proof.Machine.execOrdinaryLaneService s
  | .memoryGrant => Sys2Proof.Machine.execMemoryGrant s
  | .reportIssue => Sys2Proof.Machine.execReportIssue s
  | .lineChange line level => Sys2Proof.Machine.execLineChange line level s
  | .debouncedChange line => Sys2Proof.Machine.execDebouncedChange line s
  | .liveTrigger => Sys2Proof.Machine.execLiveTrigger s
  | .shotTriggerDue => Sys2Proof.Machine.execShotTriggerDue s
  | .ftrigPulseBegin => Sys2Proof.Machine.execFtrigPulseBegin s
  | .ftrigPulseEnd => Sys2Proof.Machine.execFtrigPulseEnd s
  | .readoutTimeout => Sys2Proof.Machine.execReadoutTimeout s
  | .stepBoundary group => Sys2Proof.Machine.execStepBoundary group s
  | .stepPulseEnd group => Sys2Proof.Machine.execStepPulseEnd group s
  | .homingBoundary group => Sys2Proof.Machine.execHomingBoundary group s
  | .settleDeadline group => Sys2Proof.Machine.execSettleDeadline group s
  | .tlinkChange level => Sys2Proof.Machine.execTlinkChange level s
  | .trdyChange level => Sys2Proof.Machine.execTrdyChange level s
  | .settleWaitEnd => Sys2Proof.Machine.execSettleWaitEnd s
  | .strobeEnd => Sys2Proof.Machine.execStrobeEnd s
  | .wordSlot => Sys2Proof.Machine.execWordSlot s
  | .stall => Sys2Proof.Machine.execStall s
  | .tack level => Sys2Proof.Machine.execTack level s
  | .tnak level => Sys2Proof.Machine.execTnak level s
  | .verdictTimeout => Sys2Proof.Machine.execVerdictTimeout s
  | .configurePool slot tag first last livePages => Sys2Proof.Machine.execConfigurePool slot tag first last livePages s
  | .loadSettings slot tag table index => Sys2Proof.Machine.execLoadSettings slot tag table index s
  | .selectCapture slot tag profile => Sys2Proof.Machine.execSelectCapture slot tag profile s
  | .setFocus slot tag mode selection fixedZone policy => Sys2Proof.Machine.execSetFocus slot tag mode selection fixedZone policy s
  | .homeLens slot tag => Sys2Proof.Machine.execHomeLens slot tag s
  | .moveLens slot tag target => Sys2Proof.Machine.execMoveLens slot tag target s
  | .fire slot tag count => Sys2Proof.Machine.execFire slot tag count s
  | .mapView slot tag view source shot mode profile stream => Sys2Proof.Machine.execMapView slot tag view source shot mode profile stream s
  | .unmapView slot tag view => Sys2Proof.Machine.execUnmapView slot tag view s
  | .releaseCard slot tag shot => Sys2Proof.Machine.execReleaseCard slot tag shot s
  | .protect slot tag shot => Sys2Proof.Machine.execProtect slot tag shot s
  | .unprotect slot tag shot => Sys2Proof.Machine.execUnprotect slot tag shot s
  | .discard slot tag shot => Sys2Proof.Machine.execDiscard slot tag shot s
  | .prioritise slot tag shot => Sys2Proof.Machine.execPrioritise slot tag shot s
  | .requeue slot tag shot => Sys2Proof.Machine.execRequeue slot tag shot s
  | .dropTether slot tag shot => Sys2Proof.Machine.execDropTether slot tag shot s
  | .tetherControlEnable slot tag => Sys2Proof.Machine.execTetherControlEnable slot tag s
  | .tetherControlDisable slot tag => Sys2Proof.Machine.execTetherControlDisable slot tag s
  | .tetherControlResume slot tag => Sys2Proof.Machine.execTetherControlResume slot tag s
  | .clearBuffer slot tag => Sys2Proof.Machine.execClearBuffer slot tag s
  | .clearCauses slot tag causes => Sys2Proof.Machine.execClearCauses slot tag causes s
  | .setMask slot tag mask => Sys2Proof.Machine.execSetMask slot tag mask s
  | .unknownKindRequest slot tag kind => Sys2Proof.Machine.execUnknownKindRequest slot tag kind s

end Sys2Proof.Machine
end

