-- ==== Sys2Proof/Machine/Step.lean ====
section
/-! DEFINITION. One step: the command at the front of the queue, or one cycle of the reference clock. -/

namespace Sys2Proof.Machine

/-- R196: one cycle of the reference clock, on an empty queue (log 3). -/
def State.clock (s : State) : State :=
  if s.tables.timing.tickDivider ≤ s.time.divider + 1 then s.tick
  else { s with time := { s.time with divider := s.time.divider + 1 } }

/-- A step takes the command at the front of the queue and runs it with the queue's rest. -/
def step (s : State) : Host.Outcome State Fault Refusal :=
  match s.pending with
  | [] => .next s.clock
  | c :: cs => exec c { s with pending := cs }

/-- `s` with the command that a table word spells put at the front of the queue; unchanged where the word spells none. -/
def State.withFetchWord (s : State) (nbits w : Nat) : State :=
  match decodeTableWord nbits w with
  | some c => { s with pending := c :: s.pending }
  | none => s

end Sys2Proof.Machine
end

