-- ==== Sys2Proof/Safety.lean ====
section
/-! DEFINITION. What a safe run keeps, and the conditions the statements are made under. -/

namespace Sys2Proof.Machine

/-! ### Laws that every step keeps -/

/-- The DRAM is in its canonical form. -/
abbrev State.memoryLaw (s : State) : Prop := s.mem.wf = true

/-- R31: "The credit count the host holds, plus the number of transfers the store holds, is 32 at every moment from each link
start until the next RESET_N." Before link start there is neither credit nor transfer (R32). -/
abbrev State.creditLaw (s : State) : Prop :=
  if s.link.started then s.link.credits + s.link.ordinary.length + s.link.develop.length = 32
  else s.link.credits = 0 ∧ s.link.ordinary = [] ∧ s.link.develop = []

/-- The page lists of the records in use, in table index order. -/
def State.recordPages (s : State) : List Nat :=
  (List.finRange 48).flatMap fun i => ((s.record i).map (·.pages)).getD []

/-- R4: the pages of the pool outside the live slots. -/
def Pool.shotPages (p : Pool) : List Nat := List.range' (p.first + 2 * p.livePages) (p.last + 1 - p.first - 2 * p.livePages)

/-- R5: "Each page is therefore held in exactly one place": with the pool configured, the free list and the page lists hold
each page of the pool outside the live slots once, and no other; unconfigured, they hold none. -/
def State.pageLaw (s : State) : Prop :=
  if s.pool.configured then (s.pool.free ++ s.recordPages).Perm s.pool.shotPages
  else s.pool.free = [] ∧ s.recordPages = [] ∧ s.pool.livePages = 0

/-- R11: the shot numbers held, and the counter, lie in 1–65535, and no two records in use carry the same number. -/
abbrev State.numberLaw (s : State) : Prop :=
  s.heldNumbers.Nodup ∧ (∀ n ∈ s.heldNumbers, 1 ≤ n ∧ n ≤ 65535) ∧ 1 ≤ s.shots.counter ∧ s.shots.counter ≤ 65535

/-- R151, R153: an item is on the port exactly in SENDING and AWAIT_VERDICT. -/
abbrev State.portLaw (s : State) : Prop :=
  s.tport.item.isSome = true ↔ s.tport.state = .sending ∨ s.tport.state = .awaitVerdict

/-! ### Conditions -/

/-- A cause is pending (R186). -/
def State.pendingCause (s : State) (c : Cause) : Bool := s.req.causes.getLsbD c.code

/-- A request in a slot has completed with a code and a results beat, with its kind and tag as taken (R183). -/
def State.answered (s : State) (slot : Fin 8) (kind : Nat) (tag : Word32) (code : ResultCode) (beat : Beat) : Prop :=
  s.req.slots[slot].state = .done ∧
    (s.req.slots[slot].taken.map fun k => (k.kind, k.tag, k.code, k.results)) = some (kindCode kind, tag, code, beat) ∧
    s.pendingCause .requestDone = true

/-- A post to the slot is taken (R182): its copy is FREE or DONE. -/
abbrev State.canPost (s : State) (slot : Fin 8) : Prop := s.req.slots[slot].state ≠ .taken

/-- The release unit wants no shot and fires no live frame: no press, no shot pending, live view OFF (R56). -/
abbrev State.restful (s : State) : Prop :=
  s.halfPress = false ∧ s.release.singlePending = false ∧ s.release.fireCount = 0 ∧ s.tables.live.enabled = false ∧
    s.release.state = .standby ∧ s.release.waiting = none ∧ s.release.liveTimer = none

/-- The port neither takes an item nor waits for a staged word (R152, R158). -/
abbrev State.portQuiet (s : State) : Prop :=
  (s.tport.state ≠ .idle ∨ s.queue.order = []) ∧ s.tport.item.map (·.step) ≠ some .waitWord

/-- The develop engine is idle with nothing to take (R136). -/
abbrev State.engineIdle (s : State) : Prop := s.engine.run = none ∧ s.engine.stream = none ∧ s.link.develop = []

/-- Nothing is left that would follow an event by itself: the release unit, the port and the engine are at rest, and the
focus state is the one R97 derives. -/
abbrev State.calm (s : State) : Prop := s.restful ∧ s.portQuiet ∧ s.engineIdle ∧ s.focus.state = s.focusStateNow

/-- No shot or live frame is fired by what follows an event, the part at rest or a frame in flight (R57, R65), and nothing else
follows but what the release unit does of itself. -/
abbrev State.fireless (s : State) : Prop :=
  (s.restful ∨ s.intake.frame ≠ none) ∧ s.portQuiet ∧ s.engineIdle ∧ s.focus.state = s.focusStateNow

/-! ### What a command leaves alone -/

/-- What nothing but packets, lines, loads, ticks and resets may change: time, DRAM, input lines, tables, waiting commands. -/
def State.backdrop (s t : State) : Prop :=
  t.time = s.time ∧ t.mem = s.mem ∧ t.pins = s.pins ∧ t.tables = s.tables ∧ t.pending = s.pending

/-- The request unit but for one slot, the causes and the report list. -/
def State.otherSlotsKept (s t : State) (slot : Fin 8) : Prop :=
  (∀ j, j ≠ slot → t.req.slots[j] = s.req.slots[j]) ∧ t.req.mask = s.req.mask ∧ t.req.shown = s.req.shown ∧
    t.req.statusCount = s.req.statusCount ∧ t.req.mirrorCounts = s.req.mirrorCounts ∧ t.req.zoneSerial = s.req.zoneSerial

/-- A request of a kind in a slot has been answered in `t`, and what no request touches stands as in `s`; no cause is lost. -/
def State.served (s t : State) (slot : Fin 8) (kind : Nat) (tag : Word32) (code : ResultCode) (beat : Beat) : Prop :=
  t.answered slot kind tag code beat ∧ s.backdrop t ∧ s.otherSlotsKept t slot ∧
    ∀ c, s.pendingCause c = true → t.pendingCause c = true

/-- `t` is `e` but for the request unit, in which just the causes of a set were raised. -/
def State.became (s t e : State) (causes : BitVec 20) : Prop :=
  { t with req := s.req } = { e with req := s.req } ∧ t.req.causes = s.req.causes ||| causes

/-- R181: the slot, kind, tag and argument beats that a request command posts; `none` for the other commands. -/
def posted : Instr → Option (Fin 8 × Byte × Word32 × List Beat)
  | .configurePool slot tag first last livePages => some (slot, 1, tag, [first, last, livePages])
  | .loadSettings slot tag table index => some (slot, 2, tag, [table, index])
  | .selectCapture slot tag profile => some (slot, 3, tag, [profile])
  | .setFocus slot tag mode selection fixedZone policy => some (slot, 4, tag, [mode, selection, fixedZone, policy])
  | .homeLens slot tag => some (slot, 5, tag, [])
  | .moveLens slot tag target => some (slot, 6, tag, [target])
  | .fire slot tag count => some (slot, 7, tag, [count])
  | .mapView slot tag view source shot mode profile stream => some (slot, 8, tag, [view, source, shot, mode, profile, stream])
  | .unmapView slot tag view => some (slot, 9, tag, [view])
  | .releaseCard slot tag shot => some (slot, 10, tag, [shot])
  | .protect slot tag shot => some (slot, 11, tag, [shot])
  | .unprotect slot tag shot => some (slot, 12, tag, [shot])
  | .discard slot tag shot => some (slot, 13, tag, [shot])
  | .prioritise slot tag shot => some (slot, 14, tag, [shot])
  | .requeue slot tag shot => some (slot, 15, tag, [shot])
  | .dropTether slot tag shot => some (slot, 16, tag, [shot])
  | .tetherControlEnable slot tag => some (slot, 17, tag, [0])
  | .tetherControlDisable slot tag => some (slot, 17, tag, [1])
  | .tetherControlResume slot tag => some (slot, 17, tag, [2])
  | .clearBuffer slot tag => some (slot, 18, tag, [])
  | .clearCauses slot tag causes => some (slot, 19, tag, [causes])
  | .setMask slot tag mask => some (slot, 20, tag, [mask])
  | .unknownKindRequest slot tag kind => some (slot, kind, tag, [])
  | .resetN | .linkStart | .timeBaseTick | .write _ _ | .read _ _ _ | .ordinaryLaneService | .memoryGrant | .reportIssue
  | .lineChange _ _ | .debouncedChange _ | .liveTrigger | .shotTriggerDue | .ftrigPulseBegin | .ftrigPulseEnd
  | .readoutTimeout | .stepBoundary _ | .stepPulseEnd _ | .homingBoundary _ | .settleDeadline _ | .tlinkChange _
  | .trdyChange _ | .settleWaitEnd | .strobeEnd | .wordSlot | .stall | .tack _ | .tnak _ | .verdictTimeout => none

/-- A request is answered with a code and a results beat, and nothing but the request unit changes. -/
def State.answersOnly (s : State) (c : Instr) (slot : Fin 8) (kind : Nat) (tag : Word32) (code : ResultCode) (beat : Beat) : Prop :=
  ∃ t, exec c s = .next t ∧ s.served t slot kind tag code beat ∧ s.became t s Cause.requestDone.bit

end Sys2Proof.Machine
end

