-- ==== Sys2Proof/Certificates/Slice0/Obligations.lean ====
section
/-! DEFINITION. The statements about the part. Where a statement says what a command leaves in every state and then what it
leaves in a calm one, the first half holds whatever the other units do next, the second says that nothing else changed. -/

open Sys2Proof Sys2Proof.Machine

/-! ## The machine -/

/-- A step takes the command at the front of the queue and runs it with the queue's rest, and no command takes from the queue
or adds to it. -/
def Obligations.StepTakesTheFrontCommand : Prop :=
  (∀ (s : State) (c : Instr) (cs : List Instr), s.pending = c :: cs → step s = exec c { s with pending := cs }) ∧
    ∀ (c : Instr) (s t : State), exec c s = .next t → t.pending = s.pending

/-- R29: every command has a next state but a WRITE or READ whose beat count is outside 1–32 (refused: log 12, the model's). -/
def Obligations.OnlyNonPacketsAreRefused : Prop :=
  (∀ (c : Instr) (s : State), c.wellFormed = true → ∃ t, exec c s = .next t) ∧
    ∀ (c : Instr) (s : State), (∃ t, exec c s = .next t) ∨ (exec c s = .refused .notAPacket ∧ c.wellFormed = false)

/-- R2, R9, R31, R32, R42, R50, R51, R54, R56, R69, R76, R79, R81, R92, R95, R108, R110, R121, R138, R146, R150, R151, R156, R169,
R181, R191, R195, R196: what RESET_N leaves in every unit. The model's own: DRAM holds nothing known and a new epoch of free values
(log 1), and input lines and responses sent stay (logs 6 and 8). -/
def Obligations.ResetLeavesResetValues : Prop :=
  ∀ s : State, ∃ t, exec .resetN s = .next t ∧ t.pending = s.pending ∧ t.pins = s.pins ∧
    t.time = { ticks := 0, divider := 0 } ∧ t.mem.cells = [] ∧ t.mem.epoch ≠ s.mem.epoch ∧
    (t.link.started = false ∧ t.link.credits = 0 ∧ t.link.ordinary = [] ∧ t.link.develop = [] ∧ t.link.sent = s.link.sent) ∧
    ((∀ v : Fin 4, t.windows.views[v] = none) ∧ t.windows.designation = none ∧ t.windows.liveCount = 0 ∧ t.windows.liveGeom = none) ∧
    (t.port.develop = [] ∧ t.port.tether = [] ∧ t.port.report = none ∧ t.port.settings = [] ∧ t.port.passageRun = 0 ∧
      t.port.lastServed = .settings) ∧
    (t.pool.configured = false ∧ t.pool.first = 0 ∧ t.pool.last = 0 ∧ t.pool.livePages = 0 ∧ t.pool.free = [] ∧
      t.pool.reservation = 0) ∧
    ((∀ i : Fin 48, t.record i = none) ∧ t.shots.counter = 1 ∧ t.shots.preList = []) ∧
    ((∀ l : Line, t.debouncer l = { active := false, since := if t.reads l then some 0 else none }) ∧
      t.release.state = .standby ∧ t.release.waiting = none ∧
      t.release.fireCount = 0 ∧ t.release.singlePending = false ∧ t.release.active = none ∧ t.release.liveTimer = none ∧
      t.release.shotTimer = none ∧ t.release.pulses = [] ∧ t.ftrig = false) ∧
    (t.intake = { frame := none, serial := 0 }) ∧
    (t.phase.row = none ∧ t.phase.results = none ∧ (∀ (k : Nat) (x : Site), t.phase.store[k]? = some x → x.left = none ∧ x.right = none) ∧
      ∀ z : Fin 12, (t.phase.zones[z]).rowsUsed = 0 ∧ (t.phase.zones[z]).sums = List.replicate 17 0) ∧
    (t.focus.mode = .off ∧ t.focus.selection = .nearest ∧ t.focus.fixedZone = 0 ∧ t.focus.policyFocus = false ∧
      t.focus.state = .off ∧ t.focus.lastZone = none ∧ t.focus.lastInFocus = false ∧ t.focus.lastSerial = 0 ∧
      t.focus.lastTarget = none) ∧
    (∀ g : Group, (t.lens.group g).state = .unhomed ∧ (t.lens.group g).leg = .none ∧ (t.lens.group g).position = 0 ∧
      (t.lens.group g).target = none ∧ (t.lens.group g).waypoint = none ∧ (t.lens.group g).pending = none ∧
      (t.lens.group g).settleAt = none ∧ (t.lens.group g).boundary = none ∧ (t.lens.group g).step = false ∧
      (t.lens.group g).dir = false) ∧ t.lens.homing = none ∧
    t.tables.timing = {
      tickDivider := 24, s1Level := false, s2Level := false, remoteLevel := false, remoteUse := false, s1Debounce := 5000
      s2Debounce := 5000, remoteDebounce := 5000, trigDelay := 0, trigWidth := 10, readoutLimit := 100000, livePeriod := 16667 } ∧
    t.tables.tether = {
      wide := true, mode := .interlocked, settle := 2, strobeWidth := 2, wordPeriod := 10, stallLimit := 100000
      verdictLimit := 2000000, attemptLimit := 3, tdLevel := true, tstbLevel := true, trdyLevel := true, tackLevel := true
      tnakLevel := true, tlinkLevel := true } ∧
    t.tables.zones = {
      rowPhase := 0, leftOffset := 0, rightOffset := 8, zero := 0, confMin := 16
      zone := Vector.replicate 12 { enabled := false, k0 := 0, k1 := 0, j0 := 0, j1 := 0 } } ∧
    (t.tables.lens = none ∧ (∀ c : Fin 4, t.tables.captures[c] = none) ∧ t.tables.live.enabled = false) ∧
    (∀ p : Fin 8, t.tables.profiles[p] = {
      black := 0, white := 4095, gainR := 1024, gainG := 1024, gainB := 1024, matrix := [1024, 0, 0, 0, 1024, 0, 0, 0, 1024]
      tone := (List.range 65).map fun i => min 255 (4 * i), norm := 65536 }) ∧
    ((∀ p : Fin 4, t.engine.places[p] = .empty) ∧ t.engine.recency = [] ∧ t.engine.run = none ∧ t.engine.stream = none ∧
      ∀ p : Fin 2, t.engine.staging[p] = none) ∧
    t.queue.order = [] ∧
    (t.tport.state = .disabled ∧ t.tport.item = none ∧ (∀ p : Fin 2, t.tport.raw[p] = .empty) ∧ t.tport.td = 0 ∧
      t.tport.tstb = false ∧ t.tport.verdictAt = none) ∧
    ((∀ i : Fin 8, t.req.slots[i].state = .free ∧ t.req.slots[i].kind = 0 ∧ t.req.slots[i].tag = 0 ∧
        t.req.slots[i].args = Vector.replicate 6 0) ∧ t.req.causes = 0 ∧ t.req.shown = 0 ∧ t.req.mask = BitVec.allOnes 20 ∧
      t.req.reportList = [] ∧ t.req.statusCount = 0 ∧ t.req.mirrorCounts = Vector.replicate 48 0 ∧ t.req.zoneSerial = 0 ∧
      t.attn = false)

/-- The state after reset satisfies the laws that every step keeps. -/
def Obligations.ResetSatisfiesTheLaws : Prop :=
  State.reset.memoryLaw ∧ State.reset.creditLaw ∧ State.reset.pageLaw ∧ State.reset.numberLaw ∧ State.reset.portLaw

/-! ## Laws that every step keeps -/

/-- The DRAM stays in its canonical form, which is the model's own (log 1): the bytes written since RESET_N, addresses strictly
rising. -/
def Obligations.StepKeepsMemoryForm : Prop :=
  ∀ s t : State, s.memoryLaw → step s = .next t → t.memoryLaw

/-- R31: credits held and transfers stored add up to 32 from each link start until the next RESET_N. -/
def Obligations.StepKeepsCreditBalance : Prop :=
  ∀ s t : State, s.creditLaw → step s = .next t → t.creditLaw

/-- R5: each page of the pool is held in exactly one place. -/
def Obligations.StepKeepsPageBalance : Prop :=
  ∀ s t : State, s.pageLaw → step s = .next t → t.pageLaw

/-- R11: no two records in use carry the same shot number, and every number lies in 1–65535. -/
def Obligations.StepKeepsShotNumbers : Prop :=
  ∀ s t : State, s.numberLaw → step s = .next t → t.numberLaw

/-- R151, R153: the item record is open exactly in SENDING and AWAIT_VERDICT. -/
def Obligations.StepKeepsPortItem : Prop :=
  ∀ s t : State, s.portLaw → step s = .next t → t.portLaw

/-! ## Rules over all commands -/

/-- R180, R186 to R188, R193: only the memory port's grant and RESET_N change a settings table; only they and LINK_START change
DRAM; a pending cause stays pending but through CLEAR_CAUSES and RESET_N, and the mask stays but through SET_MASK and RESET_N; a
MEMORY_GRANT may perform the host's post of either. -/
def Obligations.TablesDramAndCausesHaveFewWriters : Prop :=
  (∀ (c : Instr) (s t : State), c ≠ .memoryGrant → c ≠ .resetN → exec c s = .next t →
      t.tables = s.tables ∧ (c ≠ .linkStart → t.mem = s.mem)) ∧
    (∀ (c : Instr) (s t : State) (x : Cause), c.wellFormed = true → c ≠ .memoryGrant → c ≠ .resetN →
      (∀ slot tag v, c ≠ .clearCauses slot tag v) → exec c s = .next t → s.pendingCause x = true → t.pendingCause x = true) ∧
    ∀ (c : Instr) (s t : State), c.wellFormed = true → c ≠ .memoryGrant → c ≠ .resetN →
      (∀ slot tag v, c ≠ .setMask slot tag v) → exec c s = .next t → t.req.mask = s.req.mask

/-- R27, R184, R185: a shot record that a command changes has its mirror record in the report list afterwards, and a command
that changes a field of the status record, its update count and time base apart, leaves the status record there. -/
def Obligations.ChangesAreReported : Prop :=
  (∀ (c : Instr) (s t : State) (i : Fin 48), c ≠ .resetN → exec c s = .next t → t.record i ≠ s.record i →
      .mirror i ∈ t.req.reportList) ∧
    ∀ (c : Instr) (s t : State), c ≠ .resetN → exec c s = .next t → t.statusFields ≠ s.statusFields →
      .status ∈ t.req.reportList

/-- R189: the line ATTN is LOW exactly while some cause is pending, unmasked and shown; after RESET_N it is HIGH. -/
def Obligations.AttentionShowsCauses : Prop :=
  (∀ s : State, s.attnLine = false ↔
      ∃ c : Cause, s.pendingCause c = true ∧ s.req.mask.getLsbD c.code = false ∧ s.req.shown.getLsbD c.code = true) ∧
    ∀ s t : State, exec .resetN s = .next t → t.attnLine = true

/-- R29, R49: a masked write sets just its enabled bytes, in address order. -/
def Obligations.WrittenBytesReadBack : Prop :=
  ∀ (m : Memory) (a : Nat) (bs : List (Option Byte)) (x : Nat), m.wf = true →
    (m.writeMasked a bs).readByte x = if a ≤ x then ((bs[x - a]?).join).getD (m.readByte x) else m.readByte x

/-! ## The link, the lanes and the memory port -/

/-- R31, R33: a packet that arrives with a credit spends it and joins the tail of the ordinary lane, a READ of a view mapped
DEVELOPED apart; one that arrives without a credit is discarded, before link start too (log 10, the model's reading). A malformed
packet does so too and raises nothing before its service (log 11, the model's reading). -/
def Obligations.PacketsJoinTheOrdinaryLane : Prop :=
  (∀ (s : State) (addr : BitVec 29) (beats : List WriteBeat), 1 ≤ beats.length → beats.length ≤ 32 → s.link.credits ≠ 0 →
    exec (.write addr beats) s = .next { s with link := { s.link with
      credits := s.link.credits - 1
      ordinary := s.link.ordinary ++ [{ transfer := .write addr (writeBytes beats), service := .waiting }] } }) ∧
  (∀ (s : State) (tag : BitVec 5) (addr : BitVec 29) (count : Nat), 1 ≤ count → count ≤ 32 → s.link.credits ≠ 0 →
    (malformed addr count = true ∨
      ∀ v, windowOf (byteAddr addr) = .view v → ∀ e, s.windows.views[v] = some e → e.developed = false) →
    exec (.read tag addr count) s = .next { s with link := { s.link with
      credits := s.link.credits - 1
      ordinary := s.link.ordinary ++ [{ transfer := .read tag addr count, service := .waiting }] } }) ∧
  (∀ (s : State) (addr : BitVec 29) (beats : List WriteBeat), 1 ≤ beats.length → beats.length ≤ 32 → s.link.credits = 0 →
    exec (.write addr beats) s = .next s) ∧
  ∀ (s : State) (tag : BitVec 5) (addr : BitVec 29) (count : Nat), 1 ≤ count → count ≤ 32 → s.link.credits = 0 →
    exec (.read tag addr count) s = .next s

/-- R33, R135 to R141: a READ of a view mapped DEVELOPED joins the develop lane behind a run that waits for its fill; an idle
engine that finds the row pair VALID answers it at once, with the read's beats of the developed run, and one that finds it absent
starts its fill in the lowest EMPTY place, row 2y before row 2y + 1. A DEVELOP grant puts its block into the row pair; the last one
makes the pair VALID, and the run that waits for it completes; a DISCARDING place becomes EMPTY. -/
def Obligations.DevelopedReadsAreAnswered : Prop :=
  (∀ (s : State) (tag : BitVec 5) (addr : BitVec 29) (count : Nat) (v : Fin 4) (e : View) (r : Run) (p : Fin 4) (k : Key)
      (d : List Byte) (n : Nat),
    1 ≤ count → count ≤ 32 → malformed addr count = false → s.link.credits ≠ 0 → windowOf (byteAddr addr) = .view v →
    s.windows.views[v] = some e → e.developed = true → s.restful → s.engine.run = some r → s.engine.lookup r.key = some p →
    s.engine.places[p] = .filling k d n →
    ∃ t, exec (.read tag addr count) s = .next t ∧ t.link = { s.link with
      credits := s.link.credits - 1, develop := s.link.develop ++ [{ tag := tag, addr := addr, count := count }] }) ∧
  (∀ (s : State) (tag : BitVec 5) (addr : BitVec 29) (count : Nat) (v : Fin 4) (e : View) (i : Fin 48) (n : Nat) (x : Shot)
      (p : Fin 4) (k : Key),
    1 ≤ count → count ≤ 32 → malformed addr count = false → s.link.credits ≠ 0 → s.calm →
    windowOf (byteAddr addr) = .view v → s.windows.views[v] = some e → e.developed = true → e.stream = false →
    e.source = .shot i n → s.shotAt { index := i, number := n } = some x → viewOffset (byteAddr addr) < x.geom.developedBytes →
    k = { source := .shot i n, row := viewOffset (byteAddr addr) / (2 * x.geom.width) } →
    (∀ pair, s.engine.lookup k = some p → s.engine.places[p] = .valid k pair →
      ∃ t data, data = ((developRun x.geom s.tables.profiles[e.profile] pair
          (viewOffset (byteAddr addr) % (2 * x.geom.width) / 256)).drop (byteAddr addr % 256)).take (8 * count) ∧
        exec (.read tag addr count) s = .next t ∧ s.became t { s with
        link := { s.link with sent := s.link.sent ++ [{ tag := tag, data := data }] }
        engine := { s.engine with recency := p :: dropElem p s.engine.recency } } 0) ∧
    ∀ page, s.engine.lookup k = none → s.engine.places[p] = .empty → (∀ p', p' < p → s.engine.places[p'] ≠ .empty) →
      x.pages = [page] → x.geom.width % 128 = 0 → x.geom.height % 2 = 0 → x.geom.frameBytes ≤ 1048576 →
      ∃ t, exec (.read tag addr count) s = .next t ∧ t.engine.places[p] = .filling k (List.replicate (4 * x.geom.width) 0)
          (x.geom.width / 64) ∧ (∀ p', p' ≠ p → t.engine.places[p'] = s.engine.places[p']) ∧
        t.engine.recency = p :: dropElem p s.engine.recency ∧
        t.link = { s.link with
          credits := s.link.credits - 1, develop := [{ tag := tag, addr := addr, count := count }] } ∧
        t.port = { s.port with
          develop := s.port.develop ++ (List.range (x.geom.width / 64)).map fun b => ({
            place := p, block := b
            offset := page * 1048576 + (2 * k.row + b / (x.geom.width / 128)) * (2 * x.geom.width)
              + b % (x.geom.width / 128) * 256 } : FillRequest) }) ∧
  ∀ (s u : State) (q : FillRequest) (rest : List FillRequest) (block : List Byte), s.link.started = true → s.passageWaits = false →
    s.nextInternal = some .develop → s.port.develop = q :: rest → block = s.mem.readBytes q.offset 256 →
    u = { s with port := { s.port with develop := rest, passageRun := 0, lastServed := .develop } } →
    (∀ (k : Key) (d d' : List Byte) (n : Nat), s.engine.places[q.place] = .filling k d n → 256 * q.block + 256 ≤ d.length →
      d'.length = d.length →
      (∀ j, d'[j]? = if 256 * q.block ≤ j ∧ j < 256 * q.block + 256 then block[j - 256 * q.block]? else d[j]?) →
      (s.calm →
        ∃ t, exec .memoryGrant s = .next t ∧ s.became t { u with engine := { s.engine with
          places := s.engine.places.set q.place (if n ≤ 1 then .valid k d' else .filling k d' (n - 1)) } } 0) ∧
      ∀ (r : Run) (rd : LaneRead), n ≤ 1 → s.restful → s.portQuiet → s.focus.state = s.focusStateNow → s.engine.stream = none →
        s.engine.run = some r → r.client = .lane → r.stream = false → r.key = k → s.engine.lookup k = some q.place →
        s.link.develop = [rd] →
        ∃ t, exec .memoryGrant s = .next t ∧ s.became t { u with
          link := { s.link with
            develop := [], credits := s.link.credits + 1
            sent := s.link.sent ++ [{ tag := rd.tag, data :=
              ((developRun r.geom r.profile d' r.run).drop (byteAddr rd.addr % 256)).take (8 * rd.count) }] }
          engine := { s.engine with
            places := s.engine.places.set q.place (.valid k d'), run := none
            recency := q.place :: dropElem q.place s.engine.recency } } 0) ∧
    ∀ n, s.engine.places[q.place] = .discarding n → s.calm →
      ∃ t, exec .memoryGrant s = .next t ∧ s.became t { u with engine := { s.engine with
        places := s.engine.places.set q.place (if n ≤ 1 then .empty else .discarding (n - 1)) } } 0

/-- R34, R37: ORDINARY_LANE_SERVICE issues the oldest waiting transfer of the direct window at the DRAM offset equal to its link
address. R30, R41, R45, R71: a WRITE that is malformed or in the void, a capture write with no frame in flight, and a write
through an UNMAPPED view are dropped with their cause, and the credit returns; a READ at the head of the lane that is malformed
or in the void is answered with zeros and raises VOID_ACCESS. That a malformed transfer raises it at its service is the model's
reading (log 11). -/
def Obligations.OrdinaryTransfersAreServed : Prop :=
  (∀ (s : State) (k : Nat) (tr : Transfer), waitingAt s.link.ordinary = some k →
    s.link.ordinary[k]? = some { transfer := tr, service := .waiting } → malformed tr.addr tr.count = false →
    byteAddr tr.addr < 0x80000000 →
    ∃ t, exec .ordinaryLaneService s = .next t ∧ s.became t { s with link := { s.link with
      ordinary := s.link.ordinary.modify k fun e =>
        { e with service := .issued (byteAddr tr.addr) (if tr.isWrite then .slots else .none) } } } 0) ∧
  (∀ (s : State) (k : Nat) (addr : BitVec 29) (bytes : List (Option Byte)) (cause : Cause),
    waitingAt s.link.ordinary = some k → s.link.ordinary[k]? = some { transfer := .write addr bytes, service := .waiting } →
    (malformed addr (bytes.length / 8) = true ∧ cause = .voidAccess ∨
      malformed addr (bytes.length / 8) = false ∧ (windowOf (byteAddr addr) = .void ∧ cause = .voidAccess ∨
        windowOf (byteAddr addr) = .capture ∧ s.intake.frame = none ∧ cause = .strayWrite ∨
        ∃ v, windowOf (byteAddr addr) = .view v ∧ s.windows.views[v] = none ∧ cause = .viewWriteDropped)) →
    ∃ t, exec .ordinaryLaneService s = .next t ∧ s.became t { s with link := { s.link with
      ordinary := s.link.ordinary.eraseIdx k, credits := s.link.credits + 1 } } cause.bit) ∧
  ∀ (s : State) (tag : BitVec 5) (addr : BitVec 29) (count : Nat) (rest : List LaneEntry),
    s.link.ordinary = { transfer := .read tag addr count, service := .waiting } :: rest → (∀ x ∈ rest, x.service = .waiting) →
    (malformed addr count = true ∨ windowOf (byteAddr addr) = .void) →
    ∃ t, exec .ordinaryLaneService s = .next t ∧ s.became t { s with link := { s.link with
      ordinary := rest, sent := s.link.sent ++ [{ tag := tag, data := List.replicate (8 * count) 0 }],
      credits := s.link.credits + 1 } } Cause.voidAccess.bit

/-- R6, R71: a capture write within a SHOT frame takes from the head of the free list the pages its page list lacks, and is issued
to its page at its offset, labelled with the frame's serial; within a LIVE frame it goes to the page of the slot being filled.
R72: its performance adds its enabled bytes to bytes accepted and hands the extractor its notice, and one whose serial is not that
of the frame in flight is only in DRAM. R77, R78, R82 to R85: what a notice does to the extractor. -/
def Obligations.CaptureWritesAreFiled : Prop :=
  (∀ (s : State) (k o : Nat) (addr : BitVec 29) (bytes : List (Option Byte)) (f : Frame) (i : Fin 48) (x : Shot) (page : Nat),
    waitingAt s.link.ordinary = some k → s.link.ordinary[k]? = some { transfer := .write addr bytes, service := .waiting } →
    malformed addr (bytes.length / 8) = false → windowOf (byteAddr addr) = .capture → o = byteAddr addr - 0x80000000 →
    s.intake.frame = some f → f.kind = .shot i → o < f.geom.frameBytes → s.record i = some x →
    o / 1048576 + 1 - x.pages.length ≤ s.pool.free.length →
    (x.pages ++ s.pool.free.take (o / 1048576 + 1 - x.pages.length))[o / 1048576]? = some page →
    ∃ t y, exec .ordinaryLaneService s = .next t ∧
      y = { x with pages := x.pages ++ s.pool.free.take (o / 1048576 + 1 - x.pages.length) } ∧ s.became t { s with
      pool := { s.pool with
        free := s.pool.free.drop (o / 1048576 + 1 - x.pages.length)
        reservation := s.pool.reservation - (o / 1048576 + 1 - x.pages.length) }
      shots := { s.shots with records := s.shots.records.set i (some y) }
      link := { s.link with ordinary := s.link.ordinary.modify k fun e =>
        { e with service := .issued (page * 1048576 + o % 1048576) (.capture f.serial o) } } } 0) ∧
  (∀ (s : State) (k o off : Nat) (addr : BitVec 29) (bytes : List (Option Byte)) (f : Frame) (slot : Fin 2),
    waitingAt s.link.ordinary = some k → s.link.ordinary[k]? = some { transfer := .write addr bytes, service := .waiting } →
    malformed addr (bytes.length / 8) = false → windowOf (byteAddr addr) = .capture → o = byteAddr addr - 0x80000000 →
    s.intake.frame = some f → f.kind = .live slot → o < f.geom.frameBytes →
    off = (s.pool.first + slot.val * s.pool.livePages + o / 1048576) * 1048576 + o % 1048576 →
    ∃ t, exec .ordinaryLaneService s = .next t ∧ s.became t { s with link := { s.link with
      ordinary := s.link.ordinary.modify k fun e => { e with service := .issued off (.capture f.serial o) } } } 0) ∧
  (∀ (s u : State) (k off o : Nat) (addr : BitVec 29) (bytes : List (Option Byte)) (serial : Word32),
    s.link.started = true → issuedAt s.link.ordinary = some k →
    s.link.ordinary[k]? = some { transfer := .write addr bytes, service := .issued off (.capture serial o) } →
    (s.port.passageRun < 8 ∨ s.nextInternal = none) →
    u = { s with
      mem := s.mem.writeMasked off bytes
      link := { s.link with ordinary := s.link.ordinary.eraseIdx k, credits := s.link.credits + 1 }
      port := { s.port with passageRun := min 8 (s.port.passageRun + 1) } } →
    ((∀ f, s.intake.frame = some f → f.serial ≠ serial) → ∃ t, exec .memoryGrant s = .next t ∧ s.became t u 0) ∧
    ∀ f, s.intake.frame = some f → f.serial = serial → (f.geom.frameBytes ≤ o ∨ o + bytes.length < f.geom.frameBytes) →
      ∃ t, exec .memoryGrant s = .next t ∧ s.became t { u with
        intake := { s.intake with
          frame := some { f with accepted := min 0xFFFFFFFF (f.accepted + bytes.countP Option.isSome) } }
        phase := s.phase.notice o bytes } 0) ∧
  ∀ (p q : PhaseUnit) (o r : Nat) (bytes : List (Option Byte)), q = p.notice o bytes →
    (p.row = none → q = p) ∧
    ∀ (c : FrameCopy) (cur : Nat), p.copy = some c → p.row = some cur → r = o / (2 * c.geom.width) →
      (r % 16 ≠ c.zones.rowPhase ∨ r / 16 < cur → q = p) ∧
      (r % 16 = c.zones.rowPhase → cur < r / 16 → q = (p.endRow c cur (some (r / 16))).notice o bytes) ∧
      (r % 16 = c.zones.rowPhase → r / 16 = cur →
        ∃ st : List Site, st.length = p.store.length ∧
          (∀ (k : Nat) (x y : Site) (side : Site → Option Nat) (col at_ : Nat), p.store[k]? = some x → st[k]? = some y →
            (side = Site.left ∧ col = c.zones.leftOffset ∨ side = Site.right ∧ col = c.zones.rightOffset) →
            at_ = r * (2 * c.geom.width) + (16 * k + col) * 2 →
            (∀ a b, o ≤ at_ → bytes[at_ - o]? = some (some a) → bytes[at_ + 1 - o]? = some (some b) →
              side y = some (min (2 ^ c.geom.bits - 1) (a.toNat + 256 * b.toNat) / 2 ^ (c.geom.bits - 10))) ∧
            ((∀ a b, o ≤ at_ → bytes[at_ - o]? = some (some a) → bytes[at_ + 1 - o]? ≠ some (some b)) → side y = side x)) ∧
          (o + bytes.length ≠ (r + 1) * (2 * c.geom.width) → q = { p with store := st }) ∧
          (o + bytes.length = (r + 1) * (2 * c.geom.width) →
            q = ({ p with store := st } : PhaseUnit).endRow c cur
              (if cur + 1 < pdRows c.geom c.zones.rowPhase then some (cur + 1) else none))) ∧
      ∀ (next : Option Nat) (z : Fin 12) (g : Zone) (a b : ZoneSums), g = c.zones.zone[z] → a = p.zones[z] →
        b = (p.endRow c cur next).zones[z] →
        (p.endRow c cur next).row = next ∧ (p.endRow c cur next).copy = p.copy ∧ (p.endRow c cur next).results = p.results ∧
        (p.endRow c cur next).store = List.replicate (c.geom.width / 16) { left := none, right := none } ∧
        b.standing = a.standing ∧
        ((a.standing = .active ∧ g.j0 ≤ cur ∧ cur ≤ g.j1 ∧ ∀ k, g.k0 ≤ k → k ≤ g.k1 →
            ∃ x l m, p.store[k]? = some x ∧ x.left = some l ∧ x.right = some m) →
          b.rowsUsed = a.rowsUsed + 1 ∧ ∀ j, b.sums[j]? = (a.sums[j]?).map fun v =>
            v + ((List.range (g.k1 + 1 - g.k0 - 16)).map fun i =>
              ((leftAt p.store (g.k0 + 8 + i) : Int) - (rightAt p.store (g.k0 + i + j) : Int)).natAbs).sum) ∧
        (¬ (a.standing = .active ∧ g.j0 ≤ cur ∧ cur ≤ g.j1 ∧ ∀ k, g.k0 ≤ k → k ≤ g.k1 →
            ∃ x l m, p.store[k]? = some x ∧ x.left = some l ∧ x.right = some m) → b = a)

/-- R31, R34, R50: a PASSAGE grant performs the oldest issued transfer: a WRITE puts its enabled bytes into DRAM, leaves the store
and returns its credit; a READ at the head of the lane is answered with DRAM's bytes. R38, R181, R182: a WRITE in the request slots
is handed over: each copy's kind, tag and beats 1 to 6 follow its enabled bytes, and a post is taken, or ignored with
REQUEST_COLLISION where the copy is TAKEN. R43, R143: a WRITE through a RAW view drops the shot's cache entries. -/
def Obligations.PassageGrantsArePerformed : Prop :=
  (∀ (s u : State) (k off : Nat) (addr : BitVec 29) (bytes : List (Option Byte)) (n : Notice) (new : Nat → Option Byte),
    s.link.started = true → issuedAt s.link.ordinary = some k →
    s.link.ordinary[k]? = some { transfer := .write addr bytes, service := .issued off n } →
    (s.port.passageRun < 8 ∨ s.nextInternal = none) →
    u = { s with
      mem := s.mem.writeMasked off bytes
      link := { s.link with ordinary := s.link.ordinary.eraseIdx k, credits := s.link.credits + 1 }
      port := { s.port with passageRun := min 8 (s.port.passageRun + 1) } } →
    (∀ a, new a = if off ≤ a then (bytes[a - off]?).join else none) →
    (n = .none ∨ n = .slots ∧ (off < 0x100 ∨ 0x300 ≤ off) → ∃ t, exec .memoryGrant s = .next t ∧ s.became t u 0) ∧
    (n = .slots → 0x100 ≤ off → off < 0x300 →
      ∃ t, exec .memoryGrant s = .next t ∧ t.mem = u.mem ∧
        (∀ i : Fin 8, t.req.slots[i].kind = (new (0x100 + 64 * i.val)).getD s.req.slots[i].kind ∧
          (∀ j, j < 4 → leByte t.req.slots[i].tag.toNat j =
            (new (0x104 + 64 * i.val + j)).getD (leByte s.req.slots[i].tag.toNat j)) ∧
          ∀ (b : Fin 6) (j : Nat), j < 8 → leByte (t.req.slots[i].args[b]).toNat j =
            (new (0x108 + 64 * i.val + 8 * b.val + j)).getD (leByte (s.req.slots[i].args[b]).toNat j)) ∧
        ((∀ i : Fin 8, new (0x101 + 64 * i.val) ≠ some 1) → s.became t u 0 ∧
          ∀ i : Fin 8, t.req.slots[i].state = s.req.slots[i].state ∧ t.req.slots[i].taken = s.req.slots[i].taken) ∧
        ∀ j : Fin 8, new (0x101 + 64 * j.val) = some 1 → (∀ i : Fin 8, i ≠ j → new (0x101 + 64 * i.val) ≠ some 1) →
          (s.req.slots[j].state = .taken → s.became t u Cause.requestCollision.bit ∧
            t.req.slots[j].state = .taken ∧ t.req.slots[j].taken = s.req.slots[j].taken) ∧
          (s.req.slots[j].state ≠ .taken → t.req.slots[j].state ≠ .free ∧ .slot j ∈ t.req.reportList ∧
            t.req.slots[j].taken.map (fun q => (q.kind, q.tag, q.args)) =
              some (t.req.slots[j].kind, t.req.slots[j].tag, t.req.slots[j].args))) ∧
    ∀ (i : Fin 48) (num : Nat), n = .rawView i num → s.calm →
      ∃ t e, exec .memoryGrant s = .next t ∧ s.became t { u with engine := e } 0 ∧ e.run = none ∧ e.stream = s.engine.stream ∧
        e.staging = s.engine.staging ∧
        (∀ (p : Fin 4) (y : Nat) (d : List Byte), s.engine.places[p] = .valid { source := .shot i num, row := y } d →
          e.places[p] = .empty ∧ p ∉ e.recency) ∧
        (∀ (p : Fin 4) (y m : Nat) (d : List Byte), s.engine.places[p] = .filling { source := .shot i num, row := y } d m →
          e.places[p] = .discarding m ∧ p ∉ e.recency) ∧
        ∀ p : Fin 4, (∀ key, s.engine.places[p].key? = some key → key.source ≠ .shot i num) →
          e.places[p] = s.engine.places[p] ∧ (p ∈ e.recency ↔ p ∈ s.engine.recency)) ∧
  ∀ (s : State) (tag : BitVec 5) (addr : BitVec 29) (count off : Nat) (n : Notice) (rest : List LaneEntry),
    s.link.started = true →
    s.link.ordinary = { transfer := .read tag addr count, service := .issued off n } :: rest →
    (∀ x ∈ rest, x.service = .waiting) → (s.port.passageRun < 8 ∨ s.nextInternal = none) →
    ∃ t, exec .memoryGrant s = .next t ∧ s.became t { s with
      link := { s.link with
        ordinary := rest
        sent := s.link.sent ++ [{ tag := tag, data := s.mem.readBytes off (8 * count) }], credits := s.link.credits + 1 }
      port := { s.port with passageRun := min 8 (s.port.passageRun + 1) } } 0

/-- R50: PASSAGE is granted while its count is below 8, and the count rises; at 8, or when PASSAGE does not wait, the first
waiting internal requester after the one last served is granted, and the count returns to 0; with none waiting the count stays
at 8. -/
def Obligations.ArbiterBoundsPassage : Prop :=
  (∀ s : State, s.link.started = true → s.passageWaits = true → s.port.passageRun < 8 →
    ∃ t, exec .memoryGrant s = .next t ∧ t.port.passageRun = s.port.passageRun + 1 ∧ t.port.lastServed = s.port.lastServed) ∧
  (∀ (s : State) (r : Requester), s.link.started = true → (s.passageWaits = false ∨ 8 ≤ s.port.passageRun) →
    (cycleAfter s.port.lastServed).find? s.waits = some r →
    ∃ t, exec .memoryGrant s = .next t ∧ t.port.passageRun = 0 ∧ t.port.lastServed = r) ∧
  ∀ s : State, s.link.started = true → s.passageWaits = true → s.port.passageRun = 8 →
    (cycleAfter s.port.lastServed).find? s.waits = none →
    ∃ t, exec .memoryGrant s = .next t ∧ t.port.passageRun = 8 ∧ t.port.lastServed = s.port.lastServed

/-- R72, R73, R8, R12, R13: the performance of a capture write that covers the last byte of the frame completes it. FRAME_DONE is
raised; a LIVE frame's slot becomes the designated one and the completion count rises; a SHOT frame of destiny KEPT that some
hold or view keeps becomes KEPT, joins the tail of the NORMAL list if it has a tether policy, and SHOT_KEPT is raised.
R86, R92, R98 to R105: unless the mode is OFF the zones are evaluated and focus control acts on the frame: it chooses a zone by the
selection, locks focus, or hands the groups a target P_trig + Δ. Stated of a LIVE frame, the disparity shown with NONE apart
(log 19). -/
def Obligations.LastByteCompletesTheFrame : Prop :=
  (∀ (s : State) (k off o : Nat) (addr : BitVec 29) (bytes : List (Option Byte)) (f : Frame) (slot : Fin 2),
    s.link.started = true → issuedAt s.link.ordinary = some k →
    s.link.ordinary[k]? = some { transfer := .write addr bytes, service := .issued off (.capture f.serial o) } →
    s.port.passageRun < 8 → s.intake.frame = some f → f.kind = .live slot → o < f.geom.frameBytes →
    f.geom.frameBytes ≤ o + bytes.length →
    ∃ t, exec .memoryGrant s = .next t ∧ t.mem = s.mem.writeMasked off bytes ∧ t.pendingCause .frameDone = true ∧
      t.windows = { s.windows with
        designation := some slot, liveCount := s.windows.liveCount + 1, liveGeom := some f.geom } ∧
      (s.calm → t.intake = { s.intake with frame := none } ∧ t.shots = s.shots ∧ t.pool = s.pool) ∧
      ∀ (c : FrameCopy) (r : ResultSet) (l : Lens), s.phase.copy = some c → s.focus.mode ≠ .off →
        s.focus.state = s.focusStateNow → s.tables.lens = some l →
        r = {
          zones := Vector.ofFn fun i : Fin 12 => evalZone c.zones c.zones.zone[i] (s.phase.notice o bytes).zones[i]
          serial := c.serial, isShot := c.isShot, trigTime := c.trigTime, shot := c.shot } →
        t.phase.results = some r ∧ t.focus.lastSerial = c.serial ∧ .zoneLow ∈ t.req.reportList ∧ .zoneHigh ∈ t.req.reportList ∧
        (s.focus.selection = .fixed → t.focus.lastZone =
          if (r.zones[s.focus.fixedZone]).status = .valid then some s.focus.fixedZone else none) ∧
        (s.focus.selection = .nearest →
          (t.focus.lastZone = none → ∀ i : Fin 12, (r.zones[i]).status ≠ .valid) ∧
          ∀ k, t.focus.lastZone = some k → (r.zones[k]).status = .valid ∧ ∀ i : Fin 12, (r.zones[i]).status = .valid →
            (r.zones[i]).disparity ≤ (r.zones[k]).disparity ∧ ((r.zones[i]).disparity = (r.zones[k]).disparity → k ≤ i)) ∧
        (∀ k, s.focus.selection = .sticky → s.focus.lastZone = some k → (r.zones[k]).status = .valid →
          ((r.zones[k]).disparity - s.focus.lastDisparity).natAbs ≤ l.jumpLimit → t.focus.lastZone = some k) ∧
        (∀ k, t.focus.lastZone = some k → t.focus.lastDisparity = (r.zones[k]).disparity) ∧
        (t.focus.lastInFocus = true ↔ ∃ k, t.focus.lastZone = some k ∧ ((r.zones[k]).disparity).natAbs ≤ l.inFocusBand) ∧
        (s.focus.state = .acquiring → t.focus.lastInFocus = true → f.latch.g0 = .idle → f.latch.g1 = .idle →
          t.focus.state = .locked ∧ t.pendingCause .focusLocked = true ∧ t.lens = s.lens ∧
            t.focus.lastTarget = s.focus.lastTarget) ∧
        (s.focus.state = .idle ∨ s.focus.state = .noLens ∨ s.focus.state = .locked →
          t.focus.state = s.focus.state ∧ t.lens = s.lens ∧ t.focus.lastTarget = s.focus.lastTarget) ∧
        ∀ (k : Fin 12) (d : Int) (p : TargetPair), t.focus.lastZone = some k →
          (s.focus.state = .tracking ∧ f.latch.g0.homed = true ∧ f.latch.g1.homed = true ∨
            s.focus.state = .acquiring ∧ t.focus.lastInFocus = false ∧ f.latch.g0 = .idle ∧ f.latch.g1 = .idle) →
          d = roundHalfAway ((r.zones[k]).disparity * l.gain) 256 → p = l.pair (f.latch.position + d) →
          t.focus.state = s.focus.state ∧
          (d.natAbs < l.deadband → t.lens = s.lens ∧ t.focus.lastTarget = s.focus.lastTarget) ∧
          (l.deadband ≤ d.natAbs → t.focus.lastTarget = some p ∧ t.lens = { s.lens with
            g0 := s.lens.g0.takeTarget l.g0 s.now p.g0, g1 := s.lens.g1.takeTarget l.g1 s.now p.g1 })) ∧
  ∀ (s : State) (k off o : Nat) (addr : BitVec 29) (bytes : List (Option Byte)) (f : Frame) (i : Fin 48) (x : Shot),
    s.link.started = true → issuedAt s.link.ordinary = some k →
    s.link.ordinary[k]? = some { transfer := .write addr bytes, service := .issued off (.capture f.serial o) } →
    s.port.passageRun < 8 → s.intake.frame = some f → f.kind = .shot i → o < f.geom.frameBytes →
    f.geom.frameBytes ≤ o + bytes.length → s.focus.mode = .off → s.record i = some x → x.lapsed = false →
    x.destiny = some .kept → (x.cardHold = true ∨ x.policy ≠ .none ∨ x.views ≠ 0) → s.calm → s.tport.state ≠ .idle →
    ∃ t, exec .memoryGrant s = .next t ∧ t.mem = s.mem.writeMasked off bytes ∧ t.pendingCause .frameDone = true ∧
      t.pendingCause .shotKept = true ∧ t.intake = { s.intake with frame := none } ∧ t.pool = { s.pool with reservation := 0 } ∧
      t.record i = some { x with
        state := .kept, destiny := none, lapsed := false
        holds := { x.holds with card := x.holds.card || x.cardHold, tether := x.holds.tether || x.policy != .none }
        tether := x.policy.part x.tetherProfile } ∧
      t.queue.urgent = s.queue.urgent ∧
      t.queue.normal = s.queue.normal ++ (if x.policy = .none then [] else [{ index := i, number := x.number }]) ∧
      t.windows = s.windows ∧ t.lens = s.lens ∧ t.release = s.release

/-- R49, R93, R185, R186: a granted REPORT request writes its composed bytes; a status write sets the shown marks of the causes it
showed that are still pending, and the second zone block sets the zone report serial, a change of which marks the status record. -/
def Obligations.ReportWritesArePerformed : Prop :=
  ∀ (s : State) (q : ReportRequest), s.link.started = true → s.passageWaits = false → s.nextInternal = some .report →
    s.port.report = some q →
    ∃ t, exec .memoryGrant s = .next t ∧
      { t with req := s.req } = { s with
        mem := s.mem.writeChunks q.chunks, port := { s.port with report := none, passageRun := 0, lastServed := .report } } ∧
      t.req.slots = s.req.slots ∧ t.req.causes = s.req.causes ∧ t.req.mask = s.req.mask ∧
      t.req.statusCount = s.req.statusCount ∧ t.req.mirrorCounts = s.req.mirrorCounts ∧
      t.req.shown = (if q.record = .status then s.req.shown ||| (q.shows &&& s.req.causes) else s.req.shown) ∧
      t.req.zoneSerial = (if q.record = .zoneHigh then q.serial else s.req.zoneSerial) ∧
      (s.req.marks = [] → t.req.marks = [] ∧ t.req.reportList =
        if q.record = .zoneHigh ∧ q.serial ≠ s.req.zoneSerial then dropElem .status s.req.reportList ++ [.status]
        else s.req.reportList)

/-- R184: REPORT_ISSUE takes the record at the head of the report list while no REPORT request waits, composes it from the values
as they stand, and issues it; a status or mirror record's update count rises by one. -/
def Obligations.ReportsAreIssued : Prop :=
  ∀ (s : State) (r : ReportRecord) (rest : List ReportRecord), s.link.started = true → s.port.report = none →
    s.req.reportList = r :: rest →
    ∃ t q, exec .reportIssue s = .next t ∧ t.port = { s.port with report := some q } ∧ t.req.reportList = rest ∧
      { t with port := s.port, req := s.req } = s ∧ t.req.slots = s.req.slots ∧ t.req.causes = s.req.causes ∧
      t.req.mask = s.req.mask ∧ t.req.shown = s.req.shown ∧ t.req.zoneSerial = s.req.zoneSerial ∧ t.req.marks = s.req.marks ∧
      q.record = r ∧ q.shows = s.req.causes ∧
      t.req.statusCount = s.req.statusCount + (if r = .status then 1 else 0) ∧
      (∀ i : Fin 48, t.req.mirrorCounts[i] = s.req.mirrorCounts[i] + (if r = .mirror i then 1 else 0)) ∧
      (r = .status → q.chunks = [(0, s.statusBytes (s.req.statusCount + 1))]) ∧
      (∀ i, r = .mirror i → q.chunks = [(0x1000 + 128 * i.val, mirrorBytes (s.record i) (s.req.mirrorCounts[i] + 1))]) ∧
      (r = .zoneLow → q.chunks = [(0x400, zoneBlock s.phase.results false)]) ∧
      (r = .zoneHigh → q.chunks = [(0x500, zoneBlock s.phase.results true)]) ∧
      (∀ i, r = .slot i → q.chunks =
        [(0x100 + 64 * i.val, s.req.slots[i].beat0), (0x100 + 64 * i.val + 56, s.req.slots[i].beat7)])

/-- R27, R32, R185: LINK_START writes the 48 mirror records and the status record with their update counts one higher, and the
host holds 32 credits. That the report list is empty then, and that it changes nothing once started, is the model's (logs 9, 5). -/
def Obligations.LinkStartWritesTheReports : Prop :=
  (∀ s : State, s.link.started = false → s.memoryLaw →
    ∃ t, exec .linkStart s = .next t ∧ t.link = { s.link with started := true, credits := 32 } ∧
      t.port = { s.port with report := none, passageRun := 0, lastServed := .report } ∧
      t.req.statusCount = s.req.statusCount + 1 ∧
      (∀ i : Fin 48, t.req.mirrorCounts[i] = s.req.mirrorCounts[i] + 1) ∧ t.req.reportList = [] ∧
      { t with link := s.link, port := s.port, mem := s.mem, req := s.req } = s ∧
      t.req.causes = s.req.causes ∧ t.req.mask = s.req.mask ∧ t.req.slots = s.req.slots ∧
      t.mem.readBytes 0 256 = s.statusBytes (s.req.statusCount + 1) ∧
      ∀ i : Fin 48, t.mem.readBytes (0x1000 + 128 * i.val) 128 = mirrorBytes (s.record i) (s.req.mirrorCounts[i] + 1)) ∧
  ∀ s : State, s.link.started = true → exec .linkStart s = .next s

/-! ## The release unit and the frame intake -/

/-- R51, R110: a line that reads its debounced state again ends its difference; one that reads the other state begins a
difference, or goes on with it, and counts once it has lasted the debounce time: at LINE_CHANGE itself with a debounce time of
0, else at DEBOUNCED_CHANGE. That a HOME line changes by LINE_CHANGE and is only stored is the model's choice (log 6). -/
def Obligations.LineChangesAreDebounced : Prop :=
  (∀ (s : State) (g : Group) (level : Bool), exec (.lineChange (.home g) level) s = .next { s with pins := s.pins.setHome g level }) ∧
  (∀ (s u : State) (l : Line) (level : Bool), u = { s with pins := s.pins.setLine l level } → u.reads l = (s.debouncer l).active →
    ∃ t, exec (.lineChange (.debounced l) level) s = .next t ∧
      s.became t (u.setDebouncer l { active := (s.debouncer l).active, since := none }) 0) ∧
  (∀ (s u : State) (l : Line) (level : Bool) (since : Nat), u = { s with pins := s.pins.setLine l level } →
    u.reads l ≠ (s.debouncer l).active → since = (s.debouncer l).since.getD s.now → s.now < since + s.debounceTime l →
    ∃ t, exec (.lineChange (.debounced l) level) s = .next t ∧
      s.became t (u.setDebouncer l { active := (s.debouncer l).active, since := some since }) 0) ∧
  (∀ (s u : State) (l : Line) (level : Bool), u = { s with pins := s.pins.setLine l level } →
    u.reads l ≠ (s.debouncer l).active → s.debounceTime l = 0 → (s.debouncer l).since = none →
    ∃ t, exec (.lineChange (.debounced l) level) s = .next t ∧ t.pins = u.pins ∧ t.tables = s.tables ∧ t.mem = s.mem ∧
      t.debouncer l = { active := !(s.debouncer l).active, since := none } ∧
      ∀ l', l' ≠ l → t.debouncer l' = s.debouncer l') ∧
  ∀ (s : State) (l : Line) (since : Nat), (s.debouncer l).since = some since → since + s.debounceTime l ≤ s.now →
    ∃ t, exec (.debouncedChange l) s = .next t ∧ s.backdrop t ∧
      t.debouncer l = { active := !(s.debouncer l).active, since := none } ∧ ∀ l', l' ≠ l → t.debouncer l' = s.debouncer l'

/-- R13, R25, R26, R59, R61: a full-press activation promotes the provisional shots and, with a camera that is not ready, raises
MISSED_TRIGGER; a half-press end lapses them. Stated for a list of one unviewed shot, and, while a frame is in flight and the port
is not IDLE, so that no shot fires and none is taken, for every list: promoted in order, with views and tether entries; lapsed to
FREE or, with views, DISCARDED; the filling frame's destiny or LAPSED flag changed with them. -/
def Obligations.PressesPromoteAndLapse : Prop :=
  (∀ (s : State) (since : Nat) (i : Fin 48) (x : Shot), s.release.s2 = { active := false, since := some since } →
    since + s.debounceTime .s2 ≤ s.now → s.fullPress = false → s.shots.preList = [i] → s.record i = some x →
    x.policy = .none → x.cardHold = true →
    ∃ t, exec (.debouncedChange .s2) s = .next t ∧ t.shots.preList = [] ∧ t.pendingCause .shotKept = true ∧
      t.record i = some { x with
        state := .kept, destiny := none, lapsed := false, holds := { x.holds with card := true }, tether := none } ∧
      (s.readyToShoot = false → t.pendingCause .missedTrigger = true)) ∧
  (∀ (s : State) (since : Nat) (i : Fin 48) (x : Shot), s.release.s1 = { active := true, since := some since } →
    since + s.debounceTime .s1 ≤ s.now → s.fullPress = false → s.release.singlePending = false → s.release.fireCount = 0 →
    s.shots.preList = [i] → s.record i = some x → x.views = 0 →
    ∃ t, exec (.debouncedChange .s1) s = .next t ∧ t.shots.preList = [] ∧ t.record i = none ∧
      t.pool.free = s.pool.free ++ x.pages) ∧
  ∀ (s : State) (f : Frame) (since : Nat) (list gone : List (Fin 48)) (pages : List Nat), s.intake.frame = some f →
    s.tport.state ≠ .idle → s.fullPress = false → list = s.shots.preList → list.Nodup →
    pages = gone.flatMap (fun j => ((s.record j).map (·.pages)).getD []) →
    (∀ y : Shot → Shot, s.release.s2 = { active := false, since := some since } → since + s.debounceTime .s2 ≤ s.now →
      (∀ x, y x = { x with
        state := .kept, destiny := none, lapsed := false
        holds := { x.holds with card := x.holds.card || x.cardHold, tether := x.holds.tether || x.policy != .none }
        tether := x.policy.part x.tetherProfile }) →
      gone = list.filter (fun j => (s.record j).any fun x => (y x).holds = Holds.empty ∧ x.views = 0) →
      ∃ t, exec (.debouncedChange .s2) s = .next t ∧ s.backdrop t ∧ t.intake = s.intake ∧ t.shots.preList = [] ∧
        t.shots.counter = s.shots.counter ∧ t.pool = { s.pool with free := s.pool.free ++ pages } ∧
        (list ≠ [] → t.pendingCause .shotKept = true) ∧ (s.readyToShoot = false → t.pendingCause .missedTrigger = true) ∧
        t.queue = { s.queue with normal := s.queue.normal ++ list.filterMap fun j => (s.record j).bind fun x =>
          if x.policy = .none then none else some { index := j, number := x.number } } ∧
        ∀ j, t.record j = if j ∈ list then (if j ∈ gone then none else (s.record j).map y)
          else if f.kind = .shot j then (s.record j).map fun x =>
            if x.state = .filling ∧ x.destiny = some .provisional ∧ x.lapsed = false then { x with destiny := some .kept } else x
          else s.record j) ∧
    (s.release.s1 = { active := true, since := some since } → since + s.debounceTime .s1 ≤ s.now →
      gone = list.filter (fun j => (s.record j).any fun x => x.views = 0) →
      ∃ t, exec (.debouncedChange .s1) s = .next t ∧ s.backdrop t ∧ t.intake = s.intake ∧ t.shots.preList = [] ∧
        t.shots.counter = s.shots.counter ∧ t.pool = { s.pool with free := s.pool.free ++ pages } ∧ t.queue = s.queue ∧
        t.pendingCause .preEvicted = s.pendingCause .preEvicted ∧
        ∀ j, t.record j = if j ∈ list then
            (if j ∈ gone then none else (s.record j).map fun x => { x with state := .discarded, holds := Holds.empty })
          else if f.kind = .shot j then (s.record j).map fun x =>
            if x.state = .filling ∧ x.destiny = some .provisional then { x with lapsed := true } else x
          else s.record j)

/-- R114, R119: the loss of LREADY stops both groups, which become UNHOMED at position 0 with no target; LENS_LOST is raised, and
a HOME_LENS in progress completes with NO_LENS. That the homing step count becomes 0 is the model's choice (log 17). -/
def Obligations.LensLossStopsBothGroups : Prop :=
  ∀ (s : State) (since : Nat), s.release.lready = { active := true, since := some since } →
    since + s.tables.timing.s1Debounce ≤ s.now →
    ∃ t, exec (.debouncedChange .lready) s = .next t ∧ s.backdrop t ∧ t.pendingCause .lensLost = true ∧ t.lens.homing = none ∧
      (∀ g : Group, t.lens.group g = { s.lens.group g with
        state := .unhomed, leg := .none, position := 0, target := none, waypoint := none, pending := none, homingSteps := 0,
        settleAt := none, boundary := none, stepEnd := none, step := false }) ∧
      ∀ (slot : Fin 8) (k : Taken), s.lens.homing = some slot → s.req.slots[slot].taken = some k →
        t.req.slots[slot].state = .done ∧ t.pendingCause .requestDone = true ∧
          t.req.slots[slot].taken = some { k with code := .noLens, results := 0 }

/-- R8, R57, R67 to R69: a live trigger that falls due with no frame in flight opens a LIVE frame in the slot that is not
designated, or slot 0, with the risen serial, its deadline and its FTRIG pulse, and takes no page; with a frame in flight it is
skipped. -/
def Obligations.LiveTriggersOpenFrames : Prop :=
  (∀ (s : State) (due : Nat), s.release.liveTimer = some due → due ≤ s.now → s.intake.frame = none → s.pool.configured = true →
    ∃ t f, exec .liveTrigger s = .next t ∧ s.backdrop t ∧ t.intake = { frame := some f, serial := s.intake.serial + 1 } ∧
      f.serial = s.intake.serial + 1 ∧ f.kind = .live (if s.windows.designation = some 0 then 1 else 0) ∧
      f.geom = s.tables.live.geom ∧ f.accepted = 0 ∧ f.overlength = false ∧ f.trigAt = s.now ∧
      f.deadline = s.now + s.tables.timing.readoutLimit ∧
      f.latch = { g0 := s.lens.g0.state, g1 := s.lens.g1.state, position := s.lens.g0.position } ∧
      t.release.pulses = s.release.pulses ++ [{
        beginAt := s.now + s.tables.timing.trigDelay
        endAt := s.now + s.tables.timing.trigDelay + s.tables.timing.trigWidth
        running := false }] ∧
      t.phase.row = some 0 ∧ t.pool = s.pool ∧ t.lens = s.lens ∧ t.windows = s.windows) ∧
  ∀ (s : State) (due : Nat), s.release.liveTimer = some due → due ≤ s.now → s.intake.frame ≠ none →
    ∃ t, exec .liveTrigger s = .next t ∧ s.backdrop t ∧ t.intake = s.intake ∧ t.pool = s.pool ∧ t.phase = s.phase ∧
      t.release.pulses = s.release.pulses

/-- R7, R10, R11, R64, R65, R67: a shot trigger that falls due ready opens the lowest FREE record with the next free number, adds
its need to the reservation, sets the shot timer and opens its frame. R23: a pre-capture trigger that lacks a record or pages
first evicts the oldest unviewed shot, with PRE_EVICTED; stated of one whose pages are enough. -/
def Obligations.ReadyShotTriggersFire : Prop :=
  (∀ (s : State) (k : TriggerKind) (c : Fin 4) (p : Capture) (i : Fin 48), s.wantedTrigger = some k → s.release.waiting = none →
    s.shotDue = true → s.release.active = some c → s.tables.captures[c] = some p → s.intake.frame = none →
    s.lowestFree = some i → s.pool.reservation + p.geom.need ≤ s.pool.free.length →
    (k = .pre ∨ s.focus.policyFocus = false ∨ s.focusPriority = true) →
    ∃ t f, exec .shotTriggerDue s = .next t ∧ s.backdrop t ∧
      t.record i = some {
        number := s.newNumber, state := .filling, destiny := some k.destiny, lapsed := false, pre := k == .pre, profile := c,
        geom := p.geom, cardHold := p.cardHold, policy := p.policy, tetherProfile := p.tetherProfile, trigTime := s.timeBase,
        pages := [], holds := { card := false, tether := false, protect := false }, views := 0, tether := none, focus := none } ∧
      t.shots.counter = nextNumber s.newNumber ∧
      t.pool = { s.pool with reservation := s.pool.reservation + p.geom.need } ∧
      t.intake = { frame := some f, serial := s.intake.serial + 1 } ∧ f.serial = s.intake.serial + 1 ∧ f.kind = .shot i ∧
      f.geom = p.geom ∧ f.accepted = 0 ∧ f.deadline = s.now + s.tables.timing.readoutLimit ∧
      t.release.shotTimer = some s.now ∧ t.release.fireCount = (if k = .fire then s.release.fireCount - 1 else s.release.fireCount) ∧
      t.release.pulses.length = s.release.pulses.length + 1 ∧ t.phase.row = some 0 ∧ t.lens = s.lens ∧ t.windows = s.windows) ∧
  ∀ (s : State) (c : Fin 4) (p : Capture) (i : Fin 48) (rest : List (Fin 48)) (x : Shot), s.wantedTrigger = some .pre →
    s.release.waiting = none → s.shotDue = true → s.release.active = some c → s.tables.captures[c] = some p →
    s.intake.frame = none → (s.lowestFree = none ∨ s.pool.free.length < s.pool.reservation + p.geom.need) →
    s.shots.preList.filter (fun j => (s.record j).map (·.views) = some 0) = i :: rest → s.record i = some x →
    s.pool.reservation + p.geom.need ≤ s.pool.free.length + x.pages.length →
    ∃ t f j y, exec .shotTriggerDue s = .next t ∧ s.backdrop t ∧ t.pendingCause .preEvicted = true ∧
      t.intake = { frame := some f, serial := s.intake.serial + 1 } ∧ f.kind = .shot j ∧ t.record j = some y ∧
      y.state = .filling ∧ y.destiny = some .provisional ∧ (j = i ∨ t.record i = none) ∧ (s.lowestFree = none → j = i) ∧
      t.shots.preList = dropElem i s.shots.preList ∧
      t.pool = { s.pool with free := s.pool.free ++ x.pages, reservation := s.pool.reservation + p.geom.need } ∧
      t.lens = s.lens ∧ t.windows = s.windows

/-- R7, R14, R74, R94: a frame that reaches its readout deadline is aborted and READOUT_TIMEOUT is raised. A SHOT frame's
pages join the tail of the free list, the reservation is released and its record is freed; a LIVE frame leaves the
designation. That the PD unit keeps no frame copy and no row store then is the model's reading (log 38), and that every zone
stands DISABLED its choice (log 43). -/
def Obligations.ReadoutTimeoutsAbortFrames : Prop :=
  (∀ (s : State) (f : Frame), s.intake.frame = some f → f.deadline ≤ s.now →
    ∃ t, exec .readoutTimeout s = .next t ∧ s.backdrop t ∧ t.pendingCause .readoutTimeout = true ∧ t.windows = s.windows ∧
      t.lens = s.lens) ∧
  (∀ (s : State) (f : Frame) (slot : Fin 2), s.intake.frame = some f → f.deadline ≤ s.now → f.kind = .live slot → s.calm →
    ∃ t, exec .readoutTimeout s = .next t ∧ s.became t { s with
      intake := { s.intake with frame := none }
      phase := { s.phase with
        copy := none, row := none, store := [], zones := Vector.replicate 12 (ZoneSums.clear .disabled) } }
      Cause.readoutTimeout.bit) ∧
  ∀ (s : State) (f : Frame) (i : Fin 48) (x : Shot), s.intake.frame = some f → f.deadline ≤ s.now → f.kind = .shot i →
    s.record i = some x → s.calm →
    ∃ t, exec .readoutTimeout s = .next t ∧ t.intake = { s.intake with frame := none } ∧ t.phase.row = none ∧
      t.record i = none ∧ (∀ j, j ≠ i → t.record j = s.record j) ∧ t.shots.counter = s.shots.counter ∧
      t.pool = { s.pool with free := s.pool.free ++ x.pages, reservation := 0 } ∧ t.release = s.release ∧ t.queue = s.queue ∧
      t.req.causes = s.req.causes ||| Cause.readoutTimeout.bit

/-- R196: TIME_BASE_TICK raises the 32-bit time base by one and returns the divider count to 0, from any count (log 4, the
model's reading); on an empty queue a step is one reference clock cycle (log 3, the model's choice). R68, R111, R116: the
oldest scheduled FTRIG pulse that is due begins, and FTRIG is active; one that runs ends at its end (log 34, the model's
choice). At the end of its pulse STEP is driven inactive, and at its settle deadline a SETTLING group becomes IDLE. -/
def Obligations.TimersRun : Prop :=
  (∀ s : State, ∃ t, exec .timeBaseTick s = .next t ∧ { t with time := s.time } = s ∧ t.time.divider = 0 ∧
      t.time.ticks = s.time.ticks + 1 ∧ t.timeBase = s.timeBase + 1) ∧
  (∀ s : State, s.pending = [] → s.time.divider + 1 < s.tables.timing.tickDivider →
      step s = .next { s with time := { s.time with divider := s.time.divider + 1 } }) ∧
  (∀ s : State, s.pending = [] → s.tables.timing.tickDivider ≤ s.time.divider + 1 →
      step s = .next { s with time := { ticks := s.time.ticks + 1, divider := 0 } }) ∧
  (∀ (s : State) (p : Pulse) (rest : List Pulse), s.release.pulses = p :: rest → p.running = false → p.beginAt ≤ s.now →
    ∃ t, exec .ftrigPulseBegin s = .next t ∧ t.ftrig = true ∧
      t = { s with release := { s.release with pulses := { p with running := true } :: rest } }) ∧
  (∀ (s : State) (p : Pulse) (rest : List Pulse), s.release.pulses = p :: rest → p.running = true → p.endAt ≤ s.now →
    exec .ftrigPulseEnd s = .next { s with release := { s.release with pulses := rest } }) ∧
  (∀ (s : State) (g : Group) (e : Nat), (s.lens.group g).stepEnd = some e → e ≤ s.now →
    exec (.stepPulseEnd g) s = .next (s.setGroup g { s.lens.group g with step := false, stepEnd := none })) ∧
  ∀ (s : State) (g : Group) (e : Nat), (s.lens.group g).state = .settling → (s.lens.group g).settleAt = some e → e ≤ s.now →
    ∃ t, exec (.settleDeadline g) s = .next t ∧ s.backdrop t ∧ t.windows = s.windows ∧ t.lens.homing = s.lens.homing ∧
      t.lens.group g = { s.lens.group g with state := .idle, settleAt := none } ∧
      ∀ g', g' ≠ g → t.lens.group g' = s.lens.group g'

/-! ## The lens drive, focus and phase detection -/

/-- R111, R116, R117: at its step boundary a MOVING group takes its pending target, the leg chosen anew, and then acts: it turns
at the waypoint, settles at the target of an ascent, or takes one step along its leg. -/
def Obligations.StepBoundariesMoveTheLens : Prop :=
  (∀ (s : State) (g : Group) (l : Lens) (b : Nat), s.tables.lens = some l → (s.lens.group g).state = .moving →
    (s.lens.group g).boundary = some b → b ≤ s.now →
    ∃ t d, exec (.stepBoundary g) s = .next t ∧ s.backdrop t ∧ t.lens.group g = d.boundaryAct (l.group g) b ∧
      (∀ g', g' ≠ g → t.lens.group g' = s.lens.group g') ∧ t.lens.homing = s.lens.homing ∧ t.windows = s.windows ∧
      ((s.lens.group g).pending = none → d = s.lens.group g) ∧
      ∀ tgt, (s.lens.group g).pending = some tgt →
        d = (if (s.lens.group g).leg = .descend ∧ tgt - (l.group g).backlash < (s.lens.group g).position ∨
              (s.lens.group g).leg ≠ .descend ∧ tgt < (s.lens.group g).position then
            { s.lens.group g with
              target := some tgt, pending := none, leg := .descend, waypoint := some (tgt - (l.group g).backlash) }
          else { s.lens.group g with target := some tgt, pending := none, leg := .ascend, waypoint := none })) ∧
  (∀ (d : GroupDrive) (c : GroupSettings) (b : Nat), d.leg = .descend → d.waypoint = some d.position →
    d.target ≠ some d.position → d.boundaryAct c b = { d with
      leg := .ascend, waypoint := none, position := d.position + 1, dir := true, step := true
      stepEnd := some (b + c.stepPeriod / 2), boundary := some (b + c.stepPeriod) }) ∧
  (∀ (d : GroupDrive) (c : GroupSettings) (b : Nat), d.leg = .descend → d.waypoint ≠ some d.position →
    d.boundaryAct c b = { d with
      position := d.position - 1, dir := false, step := true
      stepEnd := some (b + c.stepPeriod / 2), boundary := some (b + c.stepPeriod) }) ∧
  (∀ (d : GroupDrive) (c : GroupSettings) (b : Nat), d.leg ≠ .descend → d.target ≠ some d.position →
    d.boundaryAct c b = { d with
      position := d.position + 1, dir := true, step := true
      stepEnd := some (b + c.stepPeriod / 2), boundary := some (b + c.stepPeriod) }) ∧
  ∀ (d : GroupDrive) (c : GroupSettings) (b : Nat), (d.leg = .descend → d.waypoint = some d.position) →
    d.target = some d.position → d.boundaryAct c b =
      (if c.settleTime = 0 then { d with state := .idle, leg := .none, waypoint := none, boundary := none, settleAt := none }
      else { d with
        state := .settling, leg := .none, waypoint := none, boundary := none, settleAt := some (b + c.settleTime) })

/-- R113, R114: at a homing boundary the group becomes IDLE with HOME active, FAULT with LENS_FAULT at the limit, and otherwise
steps down, its position staying. HOME_LENS completes with the second group: DONE with LENS_HOMED, or WRONG_STATE. That the homing
step count becomes 0 at IDLE and FAULT is the model's choice (log 17). -/
def Obligations.HomingBoundariesHome : Prop :=
  ∀ (s : State) (g : Group) (l : Lens) (b : Nat), s.tables.lens = some l → (s.lens.group g).state = .homing →
    (s.lens.group g).boundary = some b → b ≤ s.now →
    ∃ t, exec (.homingBoundary g) s = .next t ∧ s.backdrop t ∧ t.windows = s.windows ∧
      (∀ g', g' ≠ g → t.lens.group g' = s.lens.group g') ∧
      (s.pins.home g = true →
        t.lens.group g = { s.lens.group g with state := .idle, position := 0, homingSteps := 0, boundary := none }) ∧
      (s.pins.home g = false → (l.group g).homeLimit ≤ (s.lens.group g).homingSteps →
        t.lens.group g = { s.lens.group g with state := .fault, homingSteps := 0, boundary := none } ∧
          t.pendingCause .lensFault = true) ∧
      (s.pins.home g = false → (s.lens.group g).homingSteps < (l.group g).homeLimit →
        t.lens.group g = { s.lens.group g with
          dir := false, step := true, stepEnd := some (b + (l.group g).stepPeriod / 2)
          boundary := some (b + (l.group g).stepPeriod), homingSteps := (s.lens.group g).homingSteps + 1 } ∧
          t.lens.homing = s.lens.homing) ∧
      ∀ (slot : Fin 8) (k : Taken), s.lens.homing = some slot → s.req.slots[slot].taken = some k →
        (∀ g', (t.lens.group g').state ≠ .homing) → t.lens.homing = none ∧ t.req.slots[slot].state = .done ∧
          t.req.slots[slot].taken = some { k with
            code := if t.lens.g0.state = .idle ∧ t.lens.g1.state = .idle then .done else .wrongState
            results := results [t.lens.g0.state.code, t.lens.g0.position, t.lens.g1.state.code, t.lens.g1.position] } ∧
          (t.lens.g0.state = .idle → t.lens.g1.state = .idle → t.pendingCause .lensHomed = true)

/-- R103, R105: with a knot table of at least two knots whose x values rise strictly, every G0 target lies within x_0..x_last, its
LIMIT flag is set exactly when the clamp changed it, a knot's x gives its y, and the G1 target lies between the least and the
greatest y. -/
def Obligations.TargetsLieWithinTheKnots : Prop :=
  ∀ (l : Lens) (t : Int) (lo hi : Nat), 2 ≤ l.knots.length → l.knots.Pairwise (fun a b => a.1 < b.1) →
    (∀ k ∈ l.knots, lo ≤ k.2 ∧ k.2 ≤ hi) →
    l.firstX ≤ (l.pair t).g0 ∧ (l.pair t).g0 ≤ l.lastX ∧ lo ≤ (l.pair t).g1 ∧ (l.pair t).g1 ≤ hi ∧
      ((l.pair t).limit = false ↔ ((l.pair t).g0 : Int) = t) ∧ ∀ k ∈ l.knots, l.g1Target k.1 = k.2

/-- R87 to R91: a zone with fewer than two rows is FEW_ROWS with zeros; else its best shift is least, of the smallest size and
then negative, its ends are edges, and within them q is the exact quotient unclamped, d lies in −46..+46 and K in 0..255, VALID
exactly from CONF_MIN on. A flat subject gives s*, q and K of 0. -/
def Obligations.ZoneResultsStayInRange : Prop :=
  (∀ (zs : Zones) (z : Zone) (a : ZoneSums) (r : ZoneResult), a.rowsUsed < 2 → r = evalActive zs z a →
    r.status = .fewRows ∧ r.rowsUsed = a.rowsUsed ∧ r.terms = z.terms ∧ r.shift = 0 ∧ r.subSite = 0 ∧ r.disparity = 0 ∧
      r.confidence = 0 ∧ r.least = 0 ∧ r.total = 0 ∧ r.edge = .none) ∧
  ∀ (zs : Zones) (z : Zone) (a : ZoneSums) (r : ZoneResult) (best lower upper bend : Nat), 2 ≤ a.rowsUsed →
    a.sums.length = 17 → r = evalActive zs z a → (best : Int) = r.shift + 8 → lower = a.sums.getD (best - 1) 0 →
    upper = a.sums.getD (best + 1) 0 → bend = lower + upper - 2 * r.least →
    r.rowsUsed = a.rowsUsed ∧ r.terms = z.terms ∧ best ≤ 16 ∧ a.sums.getD best 0 = r.least ∧ (∀ x ∈ a.sums, r.least ≤ x) ∧
      r.total = a.sums.sum ∧
      (∀ j, j ≤ 16 → a.sums.getD j 0 = r.least →
        ((best : Int) - 8).natAbs ≤ ((j : Int) - 8).natAbs ∧
          (((best : Int) - 8).natAbs = ((j : Int) - 8).natAbs → best ≤ j)) ∧
      (best = 16 ∨ best = 0 → r.status = .edge ∧ r.edge = (if best = 16 then .near else .far) ∧ r.subSite = 0 ∧
        r.disparity = 0 ∧ r.confidence = 0) ∧
      (0 < best → best < 16 → r.edge = .none ∧ 2 * r.least ≤ lower + upper ∧
        r.subSite = (if bend = 0 then 0 else roundHalfAway (2 * ((lower : Int) - upper)) bend) ∧
        -2 ≤ r.subSite ∧ r.subSite ≤ 2 ∧ r.disparity = 4 * r.shift + r.subSite - zs.zero ∧
        (zs.zero.natAbs ≤ 16 → r.disparity.natAbs ≤ 46) ∧ r.least ≤ r.total / 17 ∧
        r.confidence = min 255 ((r.total / 17 - r.least) / (r.rowsUsed * r.terms)) ∧
        r.status = (if zs.confMin ≤ r.confidence then .valid else .lowConfidence)) ∧
      ((∀ x ∈ a.sums, x = r.least) → r.shift = 0 ∧ r.subSite = 0 ∧ r.confidence = 0)

/-! ## Development -/

/-- R123, R130: NORM of a profile that a load accepts lies within 16,380..268,369,920; the tone output of a value within 0..4095
lies between its span's two knots, and a multiple of 64 gives its knot. -/
def Obligations.NormAndToneStayInRange : Prop :=
  (∀ bl wl : Nat, bl < wl → wl ≤ 16383 → 16380 ≤ normOf bl wl ∧ normOf bl wl ≤ 268369920) ∧
  ∀ (p : Profile) (m : Nat), p.tone.length = 65 → (∀ k ∈ p.tone, k ≤ 255) → m ≤ 4095 →
    min (p.tone.getD (m / 64) 0) (p.tone.getD (m / 64 + 1) 0) ≤ tone p m ∧
      tone p m ≤ max (p.tone.getD (m / 64) 0) (p.tone.getD (m / 64 + 1) 0) ∧
      (m % 64 = 0 → tone p m = p.tone.getD (m / 64) 0)

/-! ## The tether port -/

/-- R151: TLINK moves an enabled port without an item between WAIT_LINK and IDLE, and moves no other port; in SENDING the item goes
on. -/
def Obligations.LinkChangesMoveThePort : Prop :=
  (∀ (s : State) (level : Bool), s.tport.state = .idle ∨ s.tport.state = .waitLink → level ≠ s.tables.tether.tlinkLevel →
    ∃ t, exec (.tlinkChange level) s = .next t ∧ t.pins = { s.pins with tlink := level } ∧ t.tport.state = .waitLink ∧
      t.queue = s.queue ∧ t.mem = s.mem ∧ t.tables = s.tables ∧ t.lens = s.lens) ∧
  (∀ s : State, s.tport.state = .idle ∨ s.tport.state = .waitLink → s.queue.order = [] →
    ∃ t, exec (.tlinkChange s.tables.tether.tlinkLevel) s = .next t ∧
      t.pins = { s.pins with tlink := s.tables.tether.tlinkLevel } ∧ t.tport.state = .idle ∧ t.queue = s.queue ∧ t.mem = s.mem ∧
      t.tables = s.tables ∧ t.lens = s.lens) ∧
  (∀ (s : State) (level : Bool), s.tport.state = .disabled ∨ s.tport.state = .halted ∨ s.tport.state = .awaitVerdict →
    ∃ t, exec (.tlinkChange level) s = .next t ∧ t.pins = { s.pins with tlink := level } ∧ t.tport.state = s.tport.state ∧
      t.queue = s.queue ∧ t.mem = s.mem ∧ t.tables = s.tables ∧ t.lens = s.lens) ∧
  ∀ (s : State) (level : Bool), s.tport.state = .sending → s.tport.item.map (·.step) ≠ some .waitWord →
    ∃ t, exec (.tlinkChange level) s = .next t ∧ t.pins = { s.pins with tlink := level } ∧ t.tport.state = .sending ∧
      t.tport.item = s.tport.item ∧ t.tport.td = s.tport.td ∧ t.tport.tstb = s.tport.tstb ∧ t.tport.verdictAt = s.tport.verdictAt ∧
      t.queue = s.queue ∧ t.mem = s.mem ∧ t.tables = s.tables ∧ t.lens = s.lens

/-- R152 to R154, R171: a port that enters IDLE takes the head of a queue that is not empty: the shot leaves the queue and
becomes SENDING, the item record opens in its header with the next attempt number, and the first header word follows. -/
def Obligations.AnIdlePortTakesTheHead : Prop :=
  ∀ (s : State) (r : ShotRef) (rest : List ShotRef) (x : Shot) (p : TetherPart), s.tport.state = .waitLink → s.restful →
    s.queue.order = r :: rest → s.shotAt r = some x → x.tether = some p →
    ∃ t it, exec (.tlinkChange s.tables.tether.tlinkLevel) s = .next t ∧ t.tport.state = .sending ∧ t.tport.item = some it ∧
      it.source = r ∧ it.attached = true ∧ it.kind = p.kind ∧ it.attempt = p.attempts + 1 ∧ it.geom = x.geom ∧
      it.phase = .header ∧ it.word = 0 ∧ it.highByte = false ∧ it.cut = [] ∧ it.header.length = 11 ∧
      it.header.getD 0 0 = 0x5AC3 ∧ it.header.getD 2 0 = BitVec.ofNat 16 x.number ∧
      t.queue = { urgent := dropElem r s.queue.urgent, normal := dropElem r s.queue.normal } ∧
      t.record r.index = some { x with tether := some { p with state := .sending } } ∧
      (p.kind = .developed → t.engine.stream.map (fun q => (q.index, q.number, q.profile)) = some (r.index, r.number, p.profile)) ∧
      (s.tables.tether.mode ≠ .interlocked ∨ s.trdyReady = true →
        t.tport.td = (if s.tables.tether.wide then 0x5AC3 else 0xC3) ∧ it.step = .settling (s.now + s.tables.tether.settle)) ∧
      (s.tables.tether.mode = .interlocked → s.trdyReady = false → it.step = .waitReady s.now)

/-- R158, R159: an INTERLOCKED or PULSED port that waits for READY before a unit drives the unit's data once TRDY reads READY;
after SETTLE it drives TSTB active, waiting for BUSY in mode INTERLOCKED and for STROBE_WIDTH otherwise; and TRDY reading BUSY
ends an INTERLOCKED unit with TSTB inactive. Stated for a header word. R156: a TETHER grant makes its raw place READY with the
block of DRAM it read, and a port that waits for a payload word in it drives the word; the read of an item that has ended is
discarded. -/
def Obligations.UnitsFollowTheHandshake : Prop :=
  (∀ (s : State) (it : Item) (since : Nat), s.tport.state = .sending → s.tport.item = some it →
    (it.step = .waitReady since ∨ it.step = .waitBetween since) → it.phase = .header → it.highByte = false →
    ∃ t, exec (.trdyChange s.tables.tether.trdyLevel) s = .next t ∧
      t.pins = { s.pins with trdy := s.tables.tether.trdyLevel } ∧ t.tport.state = .sending ∧ t.tport.tstb = false ∧
      t.tport.td = unitData s.tables.tether.wide false (it.header.getD it.word 0) ∧
      t.tport.item = some { it with
        current := it.header.getD it.word 0, step := .settling (s.now + s.tables.tether.settle)
        slotEnd := s.now + s.tables.tether.wordPeriod } ∧
      t.queue = s.queue ∧ t.mem = s.mem ∧ t.tables = s.tables ∧ t.lens = s.lens) ∧
  (∀ (s : State) (it : Item) (e : Nat), s.tport.state = .sending → s.tport.item = some it → it.step = .settling e → e ≤ s.now →
    (s.tables.tether.mode = .interlocked → s.trdyReady = true) →
    ∃ t, exec .settleWaitEnd s = .next t ∧ s.backdrop t ∧ t.tport.state = .sending ∧ t.tport.tstb = true ∧
      t.tport.td = s.tport.td ∧ t.queue = s.queue ∧ t.lens = s.lens ∧
      t.tport.item = some { it with step :=
        if s.tables.tether.mode = .interlocked then .waitBusy e else .strobe (e + s.tables.tether.strobeWidth) }) ∧
  (∀ (s : State) (it : Item) (since : Nat), s.tport.state = .sending → s.tport.item = some it → it.step = .waitBusy since →
    s.tables.tether.mode = .interlocked → s.tables.tether.wide = true → it.phase = .header → it.word + 1 < 11 → it.cut = [] →
    it.kind = .developed →
    ∃ t, exec (.trdyChange (!s.tables.tether.trdyLevel)) s = .next t ∧
      t.pins = { s.pins with trdy := !s.tables.tether.trdyLevel } ∧ t.tport.state = .sending ∧ t.tport.tstb = false ∧
      t.tport.td = s.tport.td ∧ t.tport.item = some { it with
        word := it.word + 1, highByte := false, step := .waitReady s.now } ∧
      t.queue = s.queue ∧ t.mem = s.mem ∧ t.tables = s.tables ∧ t.lens = s.lens) ∧
  ∀ (s u : State) (q : RawRequest) (rest : List RawRequest), s.link.started = true → s.passageWaits = false →
    s.nextInternal = some .tether → s.port.tether = q :: rest → s.restful → s.engineIdle → s.focus.state = s.focusStateNow →
    u = { s with port := { s.port with tether := rest, passageRun := 0, lastServed := .tether } } →
    (q.wanted = false → s.portQuiet → ∃ t, exec .memoryGrant s = .next t ∧ s.became t u 0) ∧
    ∀ (b : Nat) (raw : Vector RawPlace 2), q.wanted = true → s.tport.raw[q.place] = .reading b →
      raw = s.tport.raw.set q.place (.ready b (s.mem.readBytes q.offset 256)) →
      (s.portQuiet → ∃ t, exec .memoryGrant s = .next t ∧ s.became t { u with tport := { s.tport with raw := raw } } 0) ∧
      ∀ (it : Item) (w : Word16) (j : Nat), s.tport.state = .sending → s.tport.item = some it → it.step = .waitWord →
        it.kind = .raw → it.phase = .payload → it.highByte = false → j < 128 → it.word = 128 * b + j →
        (∀ p d, p ≠ q.place → s.tport.raw[p] ≠ .ready b d) → s.tables.tether.mode ≠ .timed →
        (s.tables.tether.mode = .interlocked → s.trdyReady = true) →
        w = BitVec.ofNat 16 ((s.mem.readByte (q.offset + 2 * j)).toNat + 256 * (s.mem.readByte (q.offset + 2 * j + 1)).toNat) →
        ∃ t, exec .memoryGrant s = .next t ∧ s.became t { u with tport := { s.tport with
          raw := raw, tstb := false, td := if s.tables.tether.wide then w else w &&& 0xFF
          item := some { it with
            current := w, step := .settling (s.now + s.tables.tether.settle), slotEnd := s.now + s.tables.tether.wordPeriod } } } 0

/-- R159, R160, R162: a PULSED unit ends with its strobe and the port waits for READY before the next; a TIMED strobe ends within
its slot, and at the end of the slot the next word is driven, or the END word of an underrun where its payload word is not
staged. Stated for 16-bit units and kind DEVELOPED, log 29 (the model's). -/
def Obligations.StrobesAndSlotsEnd : Prop :=
  (∀ (s : State) (it : Item) (e : Nat), s.tport.state = .sending → s.tport.item = some it → it.step = .strobe e → e ≤ s.now →
    s.tables.tether.mode = .timed →
    ∃ t, exec .strobeEnd s = .next t ∧ s.backdrop t ∧ t.tport.state = .sending ∧ t.tport.tstb = false ∧
      t.tport.td = s.tport.td ∧ t.tport.item = some { it with step := .slotRest } ∧ t.queue = s.queue ∧ t.lens = s.lens) ∧
  (∀ (s : State) (it : Item) (e : Nat), s.tport.state = .sending → s.tport.item = some it → it.step = .strobe e → e ≤ s.now →
    s.tables.tether.mode = .pulsed → s.tables.tether.wide = true → s.trdyReady = false → it.kind = .developed →
    it.phase = .header → it.word + 1 < 11 → it.cut = [] →
    ∃ t, exec .strobeEnd s = .next t ∧ s.backdrop t ∧ t.tport.state = .sending ∧ t.tport.tstb = false ∧
      t.tport.td = s.tport.td ∧ t.queue = s.queue ∧ t.lens = s.lens ∧
      t.tport.item = some { it with word := it.word + 1, highByte := false, step := .waitBetween e }) ∧
  (∀ (s : State) (it : Item), s.tport.state = .sending → s.tport.item = some it → it.slotEnd ≤ s.now →
    s.tables.tether.mode = .timed → s.tables.tether.wide = true → it.kind = .developed → it.phase = .header →
    it.word + 1 < 11 → it.cut = [] →
    ∃ t, exec .wordSlot s = .next t ∧ s.backdrop t ∧ t.tport.state = .sending ∧ t.tport.tstb = false ∧
      t.tport.td = it.header.getD (it.word + 1) 0 ∧ t.queue = s.queue ∧ t.lens = s.lens ∧
      t.tport.item = some { it with
        word := it.word + 1, highByte := false, current := it.header.getD (it.word + 1) 0
        step := .settling (it.slotEnd + s.tables.tether.settle), slotEnd := it.slotEnd + s.tables.tether.wordPeriod }) ∧
  ∀ (s : State) (it : Item), s.tport.state = .sending → s.tport.item = some it → it.slotEnd ≤ s.now →
    s.tables.tether.mode = .timed → s.tables.tether.wide = true → it.kind = .developed → it.phase = .header → it.word = 10 →
    it.cut = [] → (∀ p : Fin 2, s.engine.staging[p] = none) →
    ∃ t, exec .wordSlot s = .next t ∧ s.backdrop t ∧ t.tport.state = .sending ∧ t.tport.tstb = false ∧
      t.tport.td = 0xC35A ∧ t.queue = s.queue ∧ t.lens = s.lens ∧
      t.tport.item = some { it with
        phase := .trailer, word := 0, highByte := false, complete := false, underran := true, current := 0xC35A
        step := .settling (it.slotEnd + s.tables.tether.settle), slotEnd := it.slotEnd + s.tables.tether.wordPeriod }

/-- R153, R161, R163: a wait on TRDY that lasts STALL_LIMIT, and a verdict window that reaches its deadline, end an attached item:
its shot returns QUEUED to the head of its class with its attempts unchanged, the port is HALTED and TETHER_HALTED is raised. -/
def Obligations.StallsAndLostVerdictsHaltThePort : Prop :=
  (∀ (s : State) (it : Item) (since : Nat) (x : Shot) (p : TetherPart), s.tport.state = .sending → s.tport.item = some it →
    (it.step = .waitReady since ∨ it.step = .waitBusy since ∨ it.step = .waitBetween since) →
    since + s.tables.tether.stallLimit ≤ s.now → it.cut = [] → it.attached = true → s.restful →
    s.record it.source.index = some x → x.number = it.source.number → x.tether = some p →
    ∃ t, exec .stall s = .next t ∧ s.backdrop t ∧ t.tport.state = .halted ∧ t.tport.item = none ∧ t.tport.tstb = false ∧
      t.tport.td = s.tport.td ∧ t.pendingCause .tetherHalted = true ∧ t.queue = s.queue.enter p.cls true it.source ∧
      t.record it.source.index = some { x with tether := some { p with state := .queued } } ∧
      (∀ q : Fin 2, t.tport.raw[q] = .empty) ∧ t.engine.stream = none ∧ t.pool = s.pool ∧ t.lens = s.lens) ∧
  ∀ (s : State) (it : Item) (e : Nat) (x : Shot) (p : TetherPart), s.tport.state = .awaitVerdict → s.tport.item = some it →
    s.tport.verdictAt = some e → e ≤ s.now → it.attached = true → s.restful →
    s.record it.source.index = some x → x.number = it.source.number → x.tether = some p →
    ∃ t, exec .verdictTimeout s = .next t ∧ s.backdrop t ∧ t.tport.state = .halted ∧ t.tport.item = none ∧
      t.tport.verdictAt = none ∧ t.pendingCause .tetherHalted = true ∧ t.queue = s.queue.enter p.cls true it.source ∧
      t.record it.source.index = some { x with tether := some { p with state := .queued } } ∧ t.pool = s.pool ∧ t.lens = s.lens

/-- R16, R163, R172: within the verdict window a TACK edge makes the shot SENT without TETHER, raises TETHER_SENT, and frees a KEPT
shot that nothing else keeps; a TNAK edge counts an attempt, and the shot returns to the tail of its class or, at ATTEMPT_LIMIT,
becomes FAILED with TETHER_FAILED. An edge outside the window is ignored. -/
def Obligations.VerdictsDecideTheItem : Prop :=
  (∀ (s : State) (it : Item) (x : Shot) (p : TetherPart) (y : Shot), s.tport.state = .awaitVerdict → s.tport.item = some it →
    it.attached = true → s.restful → s.queue.order = [] → s.tackActive = false → s.record it.source.index = some x →
    x.number = it.source.number → x.tether = some p → x.state = .kept →
    y = { x with tether := some { p with state := .sent }, holds := { x.holds with tether := false } } →
    ∃ t, exec (.tack s.tables.tether.tackLevel) s = .next t ∧ t.pins = { s.pins with tack := s.tables.tether.tackLevel } ∧
      t.tport.item = none ∧ t.tport.state = (if s.tlinkActive then .idle else .waitLink) ∧ t.pendingCause .tetherSent = true ∧
      t.queue = s.queue ∧ t.lens = s.lens ∧ t.mem = s.mem ∧
      (y.holds ≠ Holds.empty ∨ y.views ≠ 0 → t.record it.source.index = some y ∧ t.pool = s.pool) ∧
      (y.holds = Holds.empty → y.views = 0 →
        t.record it.source.index = none ∧ t.pool = { s.pool with free := s.pool.free ++ x.pages })) ∧
  (∀ (s : State) (it : Item) (x : Shot) (p : TetherPart), s.tport.state = .awaitVerdict → s.tport.item = some it →
    it.attached = true → s.restful → s.tlinkActive = false → s.tnakActive = false → s.record it.source.index = some x →
    x.number = it.source.number → x.tether = some p → it.attempt < s.tables.tether.attemptLimit →
    ∃ t, exec (.tnak s.tables.tether.tnakLevel) s = .next t ∧ t.pins = { s.pins with tnak := s.tables.tether.tnakLevel } ∧
      t.tport.item = none ∧ t.tport.state = .waitLink ∧ t.queue = s.queue.enter p.cls false it.source ∧ t.pool = s.pool ∧
      t.record it.source.index = some { x with tether := some { p with attempts := p.attempts + 1, state := .queued } }) ∧
  (∀ (s : State) (it : Item) (x : Shot) (p : TetherPart), s.tport.state = .awaitVerdict → s.tport.item = some it →
    it.attached = true → s.restful → s.queue.order = [] → s.tnakActive = false → s.record it.source.index = some x →
    x.number = it.source.number → x.tether = some p → s.tables.tether.attemptLimit ≤ it.attempt →
    ∃ t, exec (.tnak s.tables.tether.tnakLevel) s = .next t ∧ t.pins = { s.pins with tnak := s.tables.tether.tnakLevel } ∧
      t.tport.item = none ∧ t.queue = s.queue ∧ t.pendingCause .tetherFailed = true ∧ t.pool = s.pool ∧
      t.record it.source.index = some { x with tether := some { p with attempts := p.attempts + 1, state := .failed } }) ∧
  ∀ (s : State) (level : Bool), s.tport.state ≠ .awaitVerdict →
    (∃ t, exec (.tack level) s = .next t ∧ s.became t { s with pins := { s.pins with tack := level } } 0) ∧
    ∃ t, exec (.tnak level) s = .next t ∧ s.became t { s with pins := { s.pins with tnak := level } } 0

/-! ## Posting, pool and settings requests -/

/-- R181, R182: a request posted to a slot whose copy is TAKEN is ignored and REQUEST_COLLISION is raised; the copy's kind, tag
and arguments take the bytes of the write, and the request in progress keeps what it took. R183: a post of kind 0 or above 20
completes at once with UNKNOWN_KIND and a results beat of zero. A request command stands for its post's hand-over (log 7, the model's). -/
def Obligations.PostsCollideOrAreTaken : Prop :=
  (∀ (s : State) (c : Instr) (slot : Fin 8) (kind : Byte) (tag : Word32) (args : List Beat),
    posted c = some (slot, kind, tag, args) → s.req.slots[slot].state = .taken →
    ∃ t, exec c s = .next t ∧ s.became t s Cause.requestCollision.bit ∧ s.otherSlotsKept t slot ∧
      t.req.slots[slot] = { s.req.slots[slot] with kind := kind, tag := tag, args := putArgs s.req.slots[slot].args args }) ∧
  ∀ (s : State) (slot : Fin 8) (tag : Word32) (kind : Byte), s.canPost slot → (kind = 0 ∨ 20 < kind.toNat) →
    s.answersOnly (.unknownKindRequest slot tag kind) slot kind.toNat tag .unknownKind 0

/-- R3, R4, R8, R42, R144: CONFIGURE_POOL is tested for BUSY and then BAD_VALUE; accepted, it sets up the pool, the free list
rising from F + 2LP to L, and the live designation becomes none. -/
def Obligations.ConfigurePoolSetsUpThePool : Prop :=
  ∀ (s : State) (slot : Fin 8) (tag : Word32) (f l lp : Beat), s.canPost slot →
    (((∃ i, (s.record i).isSome = true) ∨ s.intake.frame.isSome = true) →
      s.answersOnly (.configurePool slot tag f l lp) slot 1 tag .busy 0) ∧
    ((∀ i, s.record i = none) → s.intake.frame = none →
      (f.toNat < 1 ∨ 2047 < l.toNat ∨ l.toNat < f.toNat ∨ lp.toNat < 1 ∨ 16 < lp.toNat ∨
        l.toNat + 1 - f.toNat < 2 * lp.toNat + 64 ∨
        s.tables.live.enabled = true ∧ lp.toNat * 1048576 < s.tables.live.geom.frameBytes) →
      s.answersOnly (.configurePool slot tag f l lp) slot 1 tag .badValue 0) ∧
    ((∀ i, s.record i = none) → s.intake.frame = none → 1 ≤ f.toNat → l.toNat ≤ 2047 → f.toNat ≤ l.toNat → 1 ≤ lp.toNat →
      lp.toNat ≤ 16 → 2 * lp.toNat + 64 ≤ l.toNat + 1 - f.toNat →
      (s.tables.live.enabled = true → s.tables.live.geom.frameBytes ≤ lp.toNat * 1048576) →
      ∃ t, exec (.configurePool slot tag f l lp) s = .next t ∧
        s.served t slot 1 tag .done (results [l.toNat + 1 - f.toNat - 2 * lp.toNat]) ∧ .status ∈ t.req.reportList ∧
        t.pool.configured = true ∧ t.pool.first = f.toNat ∧ t.pool.last = l.toNat ∧ t.pool.livePages = lp.toNat ∧
        t.pool.free = List.range' (f.toNat + 2 * lp.toNat) (l.toNat + 1 - f.toNat - 2 * lp.toNat) ∧
        t.windows = { s.windows with designation := none, liveGeom := none } ∧ t.lens = s.lens ∧
        (s.calm → s.became t { s with
          pool := {
            configured := true, first := f.toNat, last := l.toNat, livePages := lp.toNat
            free := List.range' (f.toNat + 2 * lp.toNat) (l.toNat + 1 - f.toNat - 2 * lp.toNat), reservation := 0 }
          windows := { s.windows with designation := none, liveGeom := none }
          engine := s.engine.dropEntries (Source.isLive fun _ => true) } Cause.requestDone.bit))

/-- R109, R150, R192: LOAD_SETTINGS of no table is refused with BAD_VALUE, of LENS or TETHER in a busy part with BUSY; otherwise
its SETTINGS request is issued and the slot stays TAKEN. R122, R123, R193: at the grant a failing DEVELOP table completes with
BAD_VALUE and the DRAM offset of its first bad field, and a table that passes replaces the profile whole with its NORM (results: log 16, the
model's reading). R54, R76, R79, R108, R109, R150, R194, R195: CAPTURE, LIVE, TIMING, TETHER, ZONES and LENS do so from their own
places, LENS and TETHER after a second BUSY test, and show the table's code and its index. -/
def Obligations.SettingsAreLoaded : Prop :=
  (∀ (s : State) (slot : Fin 8) (tag : Word32) (table index : Beat), s.canPost slot →
    (tableOf table.toNat index.toNat = none → s.answersOnly (.loadSettings slot tag table index) slot 2 tag .badValue 0) ∧
    (table = 4 → (s.lens.g0.state.busy = true ∨ s.lens.g1.state.busy = true) →
      s.answersOnly (.loadSettings slot tag table index) slot 2 tag .busy 0) ∧
    (table = 5 → s.tport.state ≠ .disabled → s.answersOnly (.loadSettings slot tag table index) slot 2 tag .busy 0) ∧
    ∀ r, tableOf table.toNat index.toNat = some r → (table = 4 → s.lens.g0.state.busy = false ∧ s.lens.g1.state.busy = false) →
      (table = 5 → s.tport.state = .disabled) →
      ∃ t, exec (.loadSettings slot tag table index) s = .next t ∧ s.otherSlotsKept t slot ∧
        s.became t { s with port := { s.port with settings := s.port.settings ++ [{ slot := slot, table := r }] } } 0 ∧
        t.req.slots[slot].state = .taken ∧ t.req.slots[slot].taken.map (fun k => (k.kind, k.tag)) = some (2, tag)) ∧
  (∀ (s : State) (slot : Fin 8) (r : TableRef) (rest : List SettingsRequest) (k : Taken) (b : List Byte)
      (base code : Nat) (tests : List FieldTest) (u : Tables),
    s.link.started = true → s.passageWaits = false → s.nextInternal = some .settings →
    s.port.settings = { slot := slot, table := r } :: rest → s.req.slots[slot].taken = some k →
    ((∃ c : Fin 4, r = .capture c ∧ base = 0x4000 + 0x40 * c.val ∧ b = s.mem.readBytes base 16 ∧ tests = captureTests b ∧ code = 0 ∧
        u = { s.tables with captures := s.tables.captures.set c (some (parseCapture b)) }) ∨
      r = .live ∧ base = 0x4100 ∧ b = s.mem.readBytes base 6 ∧ tests = liveTests s.pool b ∧ code = 1 ∧
        u = { s.tables with live := parseLive b } ∨
      r = .zones ∧ base = 0x4200 ∧ b = s.mem.readBytes base 160 ∧ tests = zonesTests b ∧ code = 3 ∧
        u = { s.tables with zones := parseZones b } ∨
      r = .lens ∧ base = 0x4300 ∧ b = s.mem.readBytes base 108 ∧ tests = lensTests b ∧ code = 4 ∧
        u = { s.tables with lens := some (parseLens b) } ∨
      r = .tether ∧ base = 0x4180 ∧ b = s.mem.readBytes base 24 ∧ tests = tetherTests b ∧ code = 5 ∧
        u = { s.tables with tether := parseTether b } ∨
      r = .timing ∧ base = 0x4140 ∧ b = s.mem.readBytes base 24 ∧ tests = timingTests b ∧ code = 6 ∧
        u = { s.tables with timing := parseTiming b }) →
    ∃ t, exec .memoryGrant s = .next t ∧ t.mem = s.mem ∧ t.port.settings = rest ∧ t.pendingCause .requestDone = true ∧
      .slot slot ∈ t.req.reportList ∧ t.req.slots[slot].state = .done ∧
      ((r = .lens ∧ (s.lens.g0.state.busy = true ∨ s.lens.g1.state.busy = true) ∨ r = .tether ∧ s.tport.state ≠ .disabled) →
        t.tables = s.tables ∧ t.req.slots[slot].taken = some { k with code := .busy, results := 0 }) ∧
      ((r = .lens → s.lens.g0.state.busy = false ∧ s.lens.g1.state.busy = false) → (r = .tether → s.tport.state = .disabled) →
        (∀ o, firstFail tests = some o →
          t.tables = s.tables ∧ t.req.slots[slot].taken = some { k with code := .badValue, results := results [base + o] }) ∧
        (firstFail tests = none → t.tables = u ∧
          ((k.args[1]).toNat ≤ 65535 → t.req.slots[slot].taken = some { k with
            code := .done, results := results [code, (k.args[1]).toNat] })))) ∧
  ∀ (s : State) (slot : Fin 8) (p : Fin 8) (rest : List SettingsRequest) (k : Taken) (b : List Byte),
    s.link.started = true → s.passageWaits = false → s.nextInternal = some .settings →
    s.port.settings = { slot := slot, table := .develop p } :: rest → s.req.slots[slot].taken = some k →
    b = s.mem.readBytes (0x4400 + 0x100 * p.val) 97 →
    (∀ o, firstFail (developTests b) = some o →
      ∃ t, exec .memoryGrant s = .next t ∧ t.tables = s.tables ∧ t.mem = s.mem ∧ t.port.settings = rest ∧
        t.req.slots[slot].state = .done ∧ t.req.slots[slot].taken = some { k with
          code := .badValue, results := results [0x4400 + 0x100 * p.val + o] }) ∧
    (firstFail (developTests b) = none →
      ∃ t, exec .memoryGrant s = .next t ∧ t.mem = s.mem ∧ t.port.settings = rest ∧
        t.tables = { s.tables with profiles := s.tables.profiles.set p (parseProfile b) } ∧ t.pendingCause .requestDone = true ∧
        t.req.slots[slot].state = .done ∧ t.req.slots[slot].taken = some { k with
          code := .done, results := BitVec.ofNat 64 (p.val + 65536 * normOf (field b 0 2) (field b 2 2)) })

/-! ## Release, focus, lens and view requests -/

/-- R55: SELECT_CAPTURE of an index outside 0–3, or of an invalid profile, is refused with BAD_VALUE; otherwise the profile becomes
active. With no fall of the depth nothing else changes. R22, R24: a fall evicts the oldest unviewed shots of the pre-capture list
down to the new depth, each freed with PRE_EVICTED; stated of a part at rest, and of one with a frame in flight whatever its
presses, so that no trigger fires at once. -/
def Obligations.SelectCaptureActivates : Prop :=
  ∀ (s : State) (slot : Fin 8) (tag : Word32) (c : Beat), s.canPost slot →
    (3 < c.toNat → s.answersOnly (.selectCapture slot tag c) slot 3 tag .badValue 0) ∧
    (∀ i : Fin 4, c.toNat = i.val → s.tables.captures[i] = none →
      s.answersOnly (.selectCapture slot tag c) slot 3 tag .badValue 0) ∧
    ∀ (i : Fin 4) (p : Capture), c.toNat = i.val → s.tables.captures[i] = some p →
      ∃ t, exec (.selectCapture slot tag c) s = .next t ∧ s.served t slot 3 tag .done (results [i.val]) ∧
        t.release.active = some i ∧ t.windows = s.windows ∧ t.lens = s.lens ∧
        (s.calm → s.depth ≤ p.depth →
          s.became t { s with release := { s.release with active := some i } } Cause.requestDone.bit) ∧
        ∀ old gone : List (Fin 48), s.fireless → p.depth < s.depth → s.shots.preList.Nodup →
          old = s.shots.preList.filter (fun j => (s.record j).map (·.views) = some 0) → gone = old.take (old.length - p.depth) →
          (∀ j, t.record j = if j ∈ gone then none else s.record j) ∧ t.shots.counter = s.shots.counter ∧
            t.shots.preList = s.shots.preList.filter (fun j => j ∉ gone) ∧ t.queue = s.queue ∧ t.intake = s.intake ∧
            t.pool = { s.pool with free := s.pool.free ++ gone.flatMap fun j => ((s.record j).map (·.pages)).getD [] } ∧
            t.req.causes = s.req.causes ||| Cause.requestDone.bit ||| (if gone = [] then 0 else Cause.preEvicted.bit)

/-- R96, R97: SET_FOCUS with a value outside its range is refused with BAD_VALUE; otherwise all four values are replaced. With the
mode unchanged the focus state is kept; a new mode derives it afresh, never LOCKED; a change of mode or selection makes the last
chosen zone NONE, its disparity then 0 (log 19, the model's choice). -/
def Obligations.SetFocusReplacesTheSettings : Prop :=
  ∀ (s : State) (slot : Fin 8) (tag : Word32) (mode sel zone policy : Beat), s.canPost slot →
    ((2 < mode.toNat ∨ 2 < sel.toNat ∨ 11 < zone.toNat ∨ 1 < policy.toNat) →
      s.answersOnly (.setFocus slot tag mode sel zone policy) slot 4 tag .badValue 0) ∧
    ∀ (m : FocusMode) (z : Selection) (k : Fin 12) (st : FocusState), mode.toNat = m.code → sel.toNat = z.code →
      zone.toNat = k.val → policy.toNat ≤ 1 → s.focus.state = s.focusStateNow →
      st = (if m = s.focus.mode then s.focus.state else if m = .off then .off else if s.lensHomed = false then .noLens
        else if s.halfPress = false then .idle else if m = .single then .acquiring else .tracking) →
      ∃ t, exec (.setFocus slot tag mode sel zone policy) s = .next t ∧ s.served t slot 4 tag .done (results [st.code]) ∧
        t.lens = s.lens ∧ t.windows = s.windows ∧ t.focus = { s.focus with
          mode := m, selection := z, fixedZone := k, policyFocus := policy == 1, state := st
          lastZone := if m = s.focus.mode ∧ z = s.focus.selection then s.focus.lastZone else none
          lastDisparity := if m = s.focus.mode ∧ z = s.focus.selection then s.focus.lastDisparity else 0 }

/-- R112 to R114: HOME_LENS is refused with WRONG_STATE, NO_LENS or BUSY in that order. Accepted, both groups home: with HOME
inactive a group at rest takes its first step at once and one that moves keeps its boundary, and the request stays in progress;
with both HOME lines active it completes at once, DONE, raising LENS_HOMED. -/
def Obligations.HomeLensHomesBothGroups : Prop :=
  ∀ (s : State) (slot : Fin 8) (tag : Word32), s.canPost slot →
    (s.tables.lens = none → s.answersOnly (.homeLens slot tag) slot 5 tag .wrongState 0) ∧
    (s.tables.lens ≠ none → s.release.lready.active = false → s.answersOnly (.homeLens slot tag) slot 5 tag .noLens 0) ∧
    (s.tables.lens ≠ none → s.release.lready.active = true → (s.lens.g0.state = .homing ∨ s.lens.g1.state = .homing) →
      s.answersOnly (.homeLens slot tag) slot 5 tag .busy 0) ∧
    ∀ l : Lens, s.tables.lens = some l → s.release.lready.active = true → s.lens.g0.state ≠ .homing → s.lens.g1.state ≠ .homing →
      ((∀ g : Group, s.pins.home g = false ∧ 1 ≤ (l.group g).homeLimit) →
        ∃ t, exec (.homeLens slot tag) s = .next t ∧ s.backdrop t ∧ s.otherSlotsKept t slot ∧ t.lens.homing = some slot ∧
          t.req.slots[slot].state = .taken ∧ t.windows = s.windows ∧ (s.focus.mode ≠ .off → t.focus.state = .noLens) ∧
          ∀ g : Group, (t.lens.group g).state = .homing ∧ (t.lens.group g).position = 0 ∧ (t.lens.group g).target = none ∧
            (t.lens.group g).waypoint = none ∧ (t.lens.group g).pending = none ∧
            ((s.lens.group g).state = .moving → (t.lens.group g).homingSteps = 0 ∧
              (t.lens.group g).boundary = (s.lens.group g).boundary ∧ (t.lens.group g).step = (s.lens.group g).step) ∧
            ((s.lens.group g).state ≠ .moving → (t.lens.group g).homingSteps = 1 ∧ (t.lens.group g).step = true ∧
              (t.lens.group g).dir = false ∧ (t.lens.group g).boundary = some (s.now + (l.group g).stepPeriod))) ∧
      ((∀ g : Group, s.pins.home g = true ∧ (s.lens.group g).state ≠ .moving) →
        ∃ t, exec (.homeLens slot tag) s = .next t ∧ s.served t slot 5 tag .done (results [2, 0, 2, 0]) ∧
          t.lens.homing = none ∧ t.pendingCause .lensHomed = true ∧ t.windows = s.windows ∧
          ∀ g : Group, (t.lens.group g).state = .idle ∧ (t.lens.group g).position = 0 ∧ (t.lens.group g).target = none)

/-- R115, R118: MOVE_LENS is refused with BAD_VALUE, NO_LENS or WRONG_STATE in that order. Accepted, its clamped target and
the G1 target of the knot table are handed to the groups, the last target becomes the pair, and LOCKED becomes ACQUIRING. That
an IDLE group handed its own position keeps its target field is the model's choice (log 44). -/
def Obligations.MoveLensHandsTargetsOn : Prop :=
  ∀ (s : State) (slot : Fin 8) (tag : Word32) (target : Beat), s.canPost slot →
    (32767 < target.toNat → s.answersOnly (.moveLens slot tag target) slot 6 tag .badValue 0) ∧
    (target.toNat ≤ 32767 → (s.tables.lens = none ∨ s.lensHomed = false) →
      s.answersOnly (.moveLens slot tag target) slot 6 tag .noLens 0) ∧
    (target.toNat ≤ 32767 → s.tables.lens ≠ none → s.lensHomed = true → (s.focus.state = .acquiring ∨ s.focus.state = .tracking) →
      s.answersOnly (.moveLens slot tag target) slot 6 tag .wrongState 0) ∧
    (∀ (l : Lens) (p : TargetPair), target.toNat ≤ 32767 → s.tables.lens = some l → s.lensHomed = true →
      s.focus.state ≠ .acquiring → s.focus.state ≠ .tracking → s.focus.state = s.focusStateNow → p = l.pair target.toNat →
      ∃ t, exec (.moveLens slot tag target) s = .next t ∧ s.served t slot 6 tag .done (results [p.g0, p.g1, if p.limit then 1 else 0]) ∧
        t.lens = { s.lens with
          g0 := s.lens.g0.takeTarget l.g0 s.now p.g0, g1 := s.lens.g1.takeTarget l.g1 s.now p.g1 } ∧
        t.focus = { s.focus with
          lastTarget := some p, state := if s.focus.state = .locked then .acquiring else s.focus.state } ∧
        t.windows = s.windows) ∧
    ∀ (d : GroupDrive) (c : GroupSettings) (at_ t : Nat),
      (d.state = .unhomed ∨ d.state = .homing ∨ d.state = .fault → d.takeTarget c at_ t = d) ∧
      (d.state = .idle ∨ d.state = .settling → t = d.position → d.takeTarget c at_ t = d) ∧
      (d.state = .idle ∨ d.state = .settling → d.position < t → d.takeTarget c at_ t = { d with
        state := .moving, leg := .ascend, target := some t, waypoint := none, pending := none, settleAt := none
        position := d.position + 1, dir := true, step := true
        stepEnd := some (at_ + c.stepPeriod / 2), boundary := some (at_ + c.stepPeriod) }) ∧
      (d.state = .idle ∨ d.state = .settling → t < d.position → d.takeTarget c at_ t = { d with
        state := .moving, leg := .descend, target := some t, waypoint := some (t - c.backlash), pending := none
        settleAt := none, position := d.position - 1, dir := false, step := true
        stepEnd := some (at_ + c.stepPeriod / 2), boundary := some (at_ + c.stepPeriod) }) ∧
      (d.state = .moving → d.takeTarget c at_ t = { d with pending := if d.target = some t then none else some t })

/-- R62, R63, R65: FIRE is refused with BAD_VALUE, then with WRONG_STATE. Accepted, n joins the FIRE count, the state is BURST, and
with a frame in flight no shot fires; a part at rest fires the first shot at once. -/
def Obligations.FireCountsShots : Prop :=
  ∀ (s : State) (slot : Fin 8) (tag : Word32) (n : Beat), s.canPost slot →
    ((n.toNat < 1 ∨ 255 < n.toNat ∨ 65535 < s.release.fireCount + n.toNat) →
      s.answersOnly (.fire slot tag n) slot 7 tag .badValue 0) ∧
    (1 ≤ n.toNat → n.toNat ≤ 255 → s.release.fireCount + n.toNat ≤ 65535 → s.readyToShoot = false →
      s.answersOnly (.fire slot tag n) slot 7 tag .wrongState 0) ∧
    (1 ≤ n.toNat → n.toNat ≤ 255 → s.release.fireCount + n.toNat ≤ 65535 → s.readyToShoot = true → s.intake.frame ≠ none →
      ∃ t, exec (.fire slot tag n) s = .next t ∧ s.served t slot 7 tag .done (results [s.release.fireCount + n.toNat]) ∧
        t.release.fireCount = s.release.fireCount + n.toNat ∧ t.release.state = .burst ∧ t.intake = s.intake ∧ t.pool = s.pool ∧
        t.lens = s.lens ∧ t.windows = s.windows) ∧
    ∀ (c : Fin 4) (p : Capture) (i : Fin 48), 1 ≤ n.toNat → n.toNat ≤ 255 → s.calm → s.pool.configured = true →
      s.release.active = some c → s.tables.captures[c] = some p → s.intake.frame = none → s.lowestFree = some i →
      s.pool.reservation + p.geom.need ≤ s.pool.free.length → s.focus.policyFocus = false → s.release.shotTimer = none →
      ∃ t, exec (.fire slot tag n) s = .next t ∧ s.served t slot 7 tag .done (results [n.toNat]) ∧
        t.release.fireCount = n.toNat - 1 ∧ t.intake.frame.map (·.kind) = some (.shot i) ∧
        (t.record i).map (fun x => (x.state, x.destiny, x.number)) = some (.filling, some .kept, s.newNumber) ∧
        t.pool = { s.pool with reservation := s.pool.reservation + p.geom.need } ∧ t.lens = s.lens ∧ t.windows = s.windows

/-- R46: MAP_VIEW is tested in its five steps, and nothing changes at a refusal; accepted, the view is MAPPED with what was asked,
and a shot's view count rises by one. -/
def Obligations.MapViewMapsAView : Prop :=
  ∀ (s : State) (slot : Fin 8) (tag : Word32) (view source shot mode profile stream : Beat), s.canPost slot →
    ((3 < view.toNat ∨ 1 < source.toNat ∨ 1 < mode.toNat ∨ 1 < stream.toNat ∨ 7 < profile.toNat) →
      s.answersOnly (.mapView slot tag view source shot mode profile stream) slot 8 tag .badValue 0) ∧
    ∀ (v : Fin 4) (p : Fin 8), view.toNat = v.val → source.toNat ≤ 1 → mode.toNat ≤ 1 → stream.toNat ≤ 1 → profile.toNat = p.val →
      (s.windows.views[v] ≠ none → s.answersOnly (.mapView slot tag view source shot mode profile stream) slot 8 tag .wrongState 0) ∧
      (s.windows.views[v] = none → source = 0 → s.findShot shot.toNat = none →
        s.answersOnly (.mapView slot tag view source shot mode profile stream) slot 8 tag .noShot 0) ∧
      (s.windows.views[v] = none → source = 1 →
        ∃ t, exec (.mapView slot tag view source shot mode profile stream) s = .next t ∧
          s.served t slot 8 tag .done (results [v.val, 0]) ∧ s.became t { s with windows := { s.windows with
            views := s.windows.views.set v (some
              { source := .live, developed := mode == 1, profile := p, stream := stream == 1 }) } } Cause.requestDone.bit) ∧
      ∀ (i : Fin 48) (x : Shot), s.windows.views[v] = none → source = 0 → s.findShot shot.toNat = some i → s.record i = some x →
        (x.state = .filling ∨ x.state = .discarded →
          s.answersOnly (.mapView slot tag view source shot mode profile stream) slot 8 tag .wrongState 0) ∧
        (x.state = .provisional ∨ x.state = .kept →
          ∃ t, exec (.mapView slot tag view source shot mode profile stream) s = .next t ∧
            s.served t slot 8 tag .done (results [v.val, x.number, x.views + 1]) ∧ s.became t { s with
              shots := { s.shots with records := s.shots.records.set i (some { x with views := x.views + 1 }) }
              windows := { s.windows with
                views := s.windows.views.set v (some
                  { source := .shot i x.number, developed := mode == 1, profile := p, stream := stream == 1 }) } }
              Cause.requestDone.bit)

/-- R16, R47: UNMAP_VIEW is refused with BAD_VALUE or WRONG_STATE; otherwise the view becomes UNMAPPED, a shot's view count falls
by one, and a KEPT shot with no hold, or a DISCARDED one, that no view maps any more is freed. -/
def Obligations.UnmapViewFreesTheView : Prop :=
  ∀ (s : State) (slot : Fin 8) (tag : Word32) (view : Beat), s.canPost slot →
    (3 < view.toNat → s.answersOnly (.unmapView slot tag view) slot 9 tag .badValue 0) ∧
    ∀ v : Fin 4, view.toNat = v.val →
      (s.windows.views[v] = none → s.answersOnly (.unmapView slot tag view) slot 9 tag .wrongState 0) ∧
      (∀ e, s.windows.views[v] = some e → e.source = .live →
        ∃ t, exec (.unmapView slot tag view) s = .next t ∧ s.served t slot 9 tag .done (results [v.val, 0]) ∧
          s.became t { s with windows := { s.windows with views := s.windows.views.set v none } } Cause.requestDone.bit) ∧
      ∀ (e : View) (i : Fin 48) (n : Nat) (x y : Shot), s.windows.views[v] = some e → e.source = .shot i n →
        s.record i = some x → x.number = n → y = { x with views := x.views - 1 } → (x.state = .kept ∨ x.state = .discarded) →
        (y.views ≠ 0 ∨ x.state = .kept ∧ x.holds ≠ Holds.empty →
          ∃ t, exec (.unmapView slot tag view) s = .next t ∧ s.served t slot 9 tag .done (results [v.val, n, x.state.code, y.views]) ∧
            t.windows = { s.windows with views := s.windows.views.set v none } ∧ t.lens = s.lens ∧
            (s.calm → s.became t { s with
              windows := { s.windows with views := s.windows.views.set v none }
              shots := { s.shots with records := s.shots.records.set i (some y) } } Cause.requestDone.bit)) ∧
        (y.views = 0 → (x.state = .discarded ∨ x.holds = Holds.empty) →
          ∃ t, exec (.unmapView slot tag view) s = .next t ∧ s.served t slot 9 tag .done (results [v.val, n, 0, 0]) ∧
            t.windows = { s.windows with views := s.windows.views.set v none } ∧ t.lens = s.lens ∧
            (s.calm → t.record i = none ∧ (∀ j, j ≠ i → t.record j = s.record j) ∧ t.queue = s.queue ∧ t.release = s.release ∧
              t.pool = { s.pool with free := s.pool.free ++ x.pages }))

/-! ## Hold requests and DISCARD -/

/-- R15, R35, R143: a record that is freed becomes FREE and its pages join the tail of the free list; it leaves the pre-capture
list, no cache entry is keyed to it any more, its run in progress on the develop lane is answered with zeros, and the raw places
of its item become EMPTY. -/
def Obligations.FreedRecordsAreForgotten : Prop :=
  ∀ (s t : State) (i : Fin 48) (x : Shot), s.record i = some x → t = s.freeShot i →
    t.record i = none ∧ (∀ j, j ≠ i → t.record j = s.record j) ∧ t.pool = { s.pool with free := s.pool.free ++ x.pages } ∧
    t.shots.preList = dropElem i s.shots.preList ∧ t.shots.counter = s.shots.counter ∧ t.queue = s.queue ∧
    (∀ k p, t.engine.lookup k = some p → k.source ≠ .shot i x.number) ∧ t.tport.item = s.tport.item ∧
    (∀ r q rest, s.engine.run = some r → r.key.source = .shot i x.number → r.client = .lane → s.link.develop = q :: rest →
      t.engine.run = none ∧ t.link = { s.link with
        develop := rest, sent := s.link.sent ++ [{ tag := q.tag, data := List.replicate (8 * q.count) 0 }]
        credits := s.link.credits + 1 }) ∧
    ((∀ r, s.engine.run = some r → r.key.source ≠ .shot i x.number) → t.engine.run = s.engine.run ∧ t.link = s.link) ∧
    ∀ it, s.tport.item = some it → it.source = { index := i, number := x.number } →
      (∀ q : Fin 2, t.tport.raw[q] = .empty) ∧ ∀ r ∈ t.port.tether, r.wanted = false

/-- R17: a hold request, DISCARD or a queue request that names a number no record in use holds completes with NO_SHOT, and nothing
changes. R19: PROTECT and UNPROTECT are refused with WRONG_STATE unless the shot is KEPT, and PROTECT adds the hold. -/
def Obligations.NamedShotsAreFound : Prop :=
  ∀ (s : State) (slot : Fin 8) (tag : Word32) (n : Beat), s.canPost slot →
    (s.findShot n.toNat = none →
      s.answersOnly (.releaseCard slot tag n) slot 10 tag .noShot 0 ∧ s.answersOnly (.protect slot tag n) slot 11 tag .noShot 0 ∧
      s.answersOnly (.unprotect slot tag n) slot 12 tag .noShot 0 ∧ s.answersOnly (.discard slot tag n) slot 13 tag .noShot 0 ∧
      s.answersOnly (.prioritise slot tag n) slot 14 tag .noShot 0 ∧ s.answersOnly (.requeue slot tag n) slot 15 tag .noShot 0 ∧
      s.answersOnly (.dropTether slot tag n) slot 16 tag .noShot 0) ∧
    ∀ (i : Fin 48) (x y : Shot), s.findShot n.toNat = some i → s.record i = some x →
      y = { x with holds := { x.holds with protect := true } } →
      (x.state ≠ .kept → s.answersOnly (.protect slot tag n) slot 11 tag .wrongState (results [x.state.code, x.holds.code]) ∧
        s.answersOnly (.unprotect slot tag n) slot 12 tag .wrongState (results [x.state.code, x.holds.code])) ∧
      (x.state = .kept →
        ∃ t, exec (.protect slot tag n) s = .next t ∧
          s.served t slot 11 tag .done (results [ShotState.kept.code, y.holds.code]) ∧
          s.became t { s with shots := { s.shots with records := s.shots.records.set i (some y) } } Cause.requestDone.bit)

/-- R16, R18, R19: RELEASE_CARD of a shot, and UNPROTECT of a KEPT one, that does not hold CARD or PROTECT changes nothing; of a
KEPT shot that does, it removes the hold and the freeing check follows. The results show the shot's state and holds after it. -/
def Obligations.HoldRequestsRemoveHolds : Prop :=
  ∀ (s : State) (c : Instr) (kind : Nat) (slot : Fin 8) (tag : Word32) (n : Beat) (i : Fin 48) (x y : Shot) (had : Bool),
    s.canPost slot → s.findShot n.toNat = some i → s.record i = some x →
    (c = .releaseCard slot tag n ∧ kind = 10 ∧ had = x.holds.card ∧ y = { x with holds := { x.holds with card := false } } ∨
      c = .unprotect slot tag n ∧ kind = 12 ∧ x.state = .kept ∧ had = x.holds.protect ∧
        y = { x with holds := { x.holds with protect := false } }) →
    (had = false → s.answersOnly c slot kind tag .done (results [x.state.code, x.holds.code])) ∧
    (had = true → x.state = .kept → (y.holds ≠ Holds.empty ∨ x.views ≠ 0) →
      ∃ t, exec c s = .next t ∧ s.served t slot kind tag .done (results [ShotState.kept.code, y.holds.code]) ∧
        t.windows = s.windows ∧ t.lens = s.lens ∧
        (s.calm → s.became t { s with shots := { s.shots with records := s.shots.records.set i (some y) } }
          Cause.requestDone.bit)) ∧
    (had = true → x.state = .kept → y.holds = Holds.empty → x.views = 0 →
      ∃ t, exec c s = .next t ∧ s.served t slot kind tag .done (results [0, 0]) ∧ t.windows = s.windows ∧ t.lens = s.lens ∧
        (s.calm → t.record i = none ∧ (∀ j, j ≠ i → t.record j = s.record j) ∧ t.queue = s.queue ∧ t.release = s.release ∧
          t.intake = s.intake ∧ t.pool = { s.pool with free := s.pool.free ++ x.pages }))

/-- R20, R176: DISCARD sets the LAPSED flag of a FILLING shot and changes nothing of a DISCARDED one. A PROVISIONAL shot leaves the
pre-capture list and a KEPT one the queue, and either is freed with view count 0 or becomes DISCARDED with no hold; the item of
one on the port is detached and cut. What a PROVISIONAL or KEPT shot leaves behind is stated of a part at rest, and of one with a frame
in flight whatever its presses. -/
def Obligations.DiscardTakesShotsOut : Prop :=
  ∀ (s : State) (slot : Fin 8) (tag : Word32) (n : Beat) (i : Fin 48) (x : Shot) (r : ShotRef),
    s.canPost slot → s.findShot n.toNat = some i → s.record i = some x → r = { index := i, number := x.number } →
    (x.state = .filling →
      ∃ t, exec (.discard slot tag n) s = .next t ∧ s.served t slot 13 tag .done (results [ShotState.filling.code, x.holds.code]) ∧
        t.windows = s.windows ∧ t.lens = s.lens ∧
        (s.calm → s.became t { s with shots := { s.shots with
          records := s.shots.records.set i (some { x with lapsed := true }) } } Cause.requestDone.bit)) ∧
    (x.state = .discarded →
      ∃ t, exec (.discard slot tag n) s = .next t ∧ s.served t slot 13 tag .done (results [ShotState.discarded.code, x.holds.code]) ∧
        t.windows = s.windows ∧ t.lens = s.lens ∧ (s.calm → s.became t s Cause.requestDone.bit)) ∧
    (x.state = .provisional ∨ x.state = .kept ∧ s.onPort r = false → x.views = 0 →
      ∃ t, exec (.discard slot tag n) s = .next t ∧ s.served t slot 13 tag .done (results [0, 0]) ∧
        t.windows = s.windows ∧ t.lens = s.lens ∧
        (s.calm → t.release = s.release) ∧
        (s.fireless → t.record i = none ∧ (∀ j, j ≠ i → t.record j = s.record j) ∧ t.intake = s.intake ∧
          t.shots.preList = dropElem i s.shots.preList ∧ t.pool = { s.pool with free := s.pool.free ++ x.pages } ∧
          t.queue = (if x.state = .kept then { urgent := dropElem r s.queue.urgent, normal := dropElem r s.queue.normal }
            else s.queue))) ∧
    (x.state = .provisional ∨ x.state = .kept ∧ s.onPort r = false → x.views ≠ 0 →
      ∃ t, exec (.discard slot tag n) s = .next t ∧ s.served t slot 13 tag .done (results [ShotState.discarded.code, 0]) ∧
        t.windows = s.windows ∧ t.lens = s.lens ∧
        (s.calm → t.release = s.release) ∧
        (s.fireless → s.became t { s with
          release := t.release
          shots := { s.shots with
            records := s.shots.records.set i (some { x with state := .discarded, holds := Holds.empty })
            preList := if x.state = .kept then s.shots.preList else dropElem i s.shots.preList }
          queue := if x.state = .kept then { urgent := dropElem r s.queue.urgent, normal := dropElem r s.queue.normal }
            else s.queue } Cause.requestDone.bit)) ∧
    ∀ it, x.state = .kept → s.tport.state = .sending → s.tport.item = some it → it.attached = true → it.source = r →
      it.step.underWay = true → x.views ≠ 0 →
      ∃ t, exec (.discard slot tag n) s = .next t ∧ s.served t slot 13 tag .done (results [ShotState.discarded.code, 0]) ∧
        t.windows = s.windows ∧ t.lens = s.lens ∧
        (s.calm → s.became t { s with
          shots := { s.shots with
            records := s.shots.records.set i (some { x with state := .discarded, holds := Holds.empty }) }
          queue := { urgent := dropElem r s.queue.urgent, normal := dropElem r s.queue.normal }
          tport := { s.tport with item := some { it with attached := false, cut := it.cut ++ [.discard] } } }
          Cause.requestDone.bit)

/-! ## Queue, port and buffer requests -/

/-- R170, R173, R174: PRIORITISE makes a KEPT shot QUEUED, SENDING or FAILED URGENT, and a QUEUED one enters at the tail of
the URGENT list, its mirror record marked; it changes nothing else. REQUEUE is refused with WRONG_STATE unless the shot is
KEPT and FAILED, which then is QUEUED at the tail of its class with no attempts. R179: the results beat gives tether state,
class, attempts, presence and position; its packing, which R183's sizes do not allow, is the model's choice (log 13). That
REQUEUE shows the shot QUEUED in its place, before an IDLE port takes it, is the model's reading (log 36). -/
def Obligations.QueueRequestsMoveShots : Prop :=
  ∀ (s : State) (slot : Fin 8) (tag : Word32) (n : Beat) (i : Fin 48) (x : Shot) (r : ShotRef),
    s.canPost slot → s.findShot n.toNat = some i → s.record i = some x → r = { index := i, number := x.number } →
    (x.tether = none →
      s.answersOnly (.prioritise slot tag n) slot 14 tag .done (queueBeat 0 0 0 false (s.queue.position r)) ∧
      s.answersOnly (.requeue slot tag n) slot 15 tag .wrongState (queueBeat 0 0 0 false (s.queue.position r))) ∧
    ∀ p, x.tether = some p →
      ((x.state ≠ .kept ∨ p.state = .sent) →
        s.answersOnly (.prioritise slot tag n) slot 14 tag .done
          (queueBeat p.state.code p.cls.code p.attempts true (s.queue.position r))) ∧
      (x.state = .kept → p.state ≠ .sent →
        ∃ t, exec (.prioritise slot tag n) s = .next t ∧
          s.served t slot 14 tag .done (queueBeat p.state.code TetherClass.urgent.code p.attempts true
            (if p.state = .queued then (dropElem r s.queue.urgent).length + 1 else s.queue.position r)) ∧
          (p.state = .queued → .mirror i ∈ t.req.reportList) ∧ s.became t { s with
            queue := if p.state = .queued then
              { urgent := dropElem r s.queue.urgent ++ [r], normal := dropElem r s.queue.normal } else s.queue
            shots := { s.shots with
              records := s.shots.records.set i (some { x with tether := some { p with cls := .urgent } }) } }
            Cause.requestDone.bit) ∧
      ((x.state ≠ .kept ∨ p.state ≠ .failed) →
        s.answersOnly (.requeue slot tag n) slot 15 tag .wrongState
          (queueBeat p.state.code p.cls.code p.attempts true (s.queue.position r))) ∧
      (x.state = .kept → p.state = .failed →
        ∃ t, exec (.requeue slot tag n) s = .next t ∧
          s.served t slot 15 tag .done (queueBeat TetherState.queued.code p.cls.code 0 true
            ((s.queue.enter p.cls false r).position r)) ∧ .mirror i ∈ t.req.reportList ∧ t.windows = s.windows ∧
          t.lens = s.lens ∧
          (s.calm → s.tport.state ≠ .idle → s.became t { s with
            queue := if p.cls = .urgent then { s.queue with urgent := s.queue.urgent ++ [r] }
              else { s.queue with normal := s.queue.normal ++ [r] }
            shots := { s.shots with
              records := s.shots.records.set i (some { x with tether := some { p with attempts := 0, state := .queued } }) } }
            Cause.requestDone.bit))

/-- R16, R175: DROP_TETHER of a shot that does not hold TETHER changes nothing. A KEPT shot that holds it leaves the queue, loses the
hold and its tether part, and the freeing check follows; the item of one on the port is detached and cut. The packing of the
results beat is the model's choice (log 13). -/
def Obligations.DropTetherWithdrawsShots : Prop :=
  ∀ (s : State) (slot : Fin 8) (tag : Word32) (n : Beat) (i : Fin 48) (x y : Shot) (r : ShotRef) (q : TetherQueue),
    s.canPost slot → s.findShot n.toNat = some i → s.record i = some x → r = { index := i, number := x.number } →
    y = { x with holds := { x.holds with tether := false }, tether := none } →
    q = { urgent := dropElem r s.queue.urgent, normal := dropElem r s.queue.normal } →
    (x.holds.tether = false → x.tether = none →
      s.answersOnly (.dropTether slot tag n) slot 16 tag .done (queueBeat 0 0 0 false (s.queue.position r))) ∧
    (∀ p, x.holds.tether = false → x.tether = some p →
      s.answersOnly (.dropTether slot tag n) slot 16 tag .done
        (queueBeat p.state.code p.cls.code p.attempts true (s.queue.position r))) ∧
    (x.holds.tether = true → x.state = .kept → s.onPort r = false → (y.holds ≠ Holds.empty ∨ x.views ≠ 0) →
      ∃ t, exec (.dropTether slot tag n) s = .next t ∧ s.served t slot 16 tag .done (queueBeat 0 0 0 false 0) ∧
        t.windows = s.windows ∧ t.lens = s.lens ∧
        (s.calm → s.became t { s with
          queue := q, shots := { s.shots with records := s.shots.records.set i (some y) } } Cause.requestDone.bit)) ∧
    (x.holds.tether = true → x.state = .kept → s.onPort r = false → y.holds = Holds.empty → x.views = 0 →
      ∃ t, exec (.dropTether slot tag n) s = .next t ∧ s.served t slot 16 tag .done (queueBeat 0 0 0 false 0) ∧
        t.windows = s.windows ∧ t.lens = s.lens ∧
        (s.calm → t.queue = q ∧ t.record i = none ∧ (∀ j, j ≠ i → t.record j = s.record j) ∧ t.release = s.release ∧
          t.intake = s.intake ∧ t.pool = { s.pool with free := s.pool.free ++ x.pages })) ∧
    ∀ it, x.holds.tether = true → x.state = .kept → s.tport.state = .sending → s.tport.item = some it → it.attached = true →
      it.source = r → it.step.underWay = true → (y.holds ≠ Holds.empty ∨ x.views ≠ 0) →
      ∃ t, exec (.dropTether slot tag n) s = .next t ∧ s.served t slot 16 tag .done (queueBeat 0 0 0 false 0) ∧
        t.windows = s.windows ∧ t.lens = s.lens ∧
        (s.calm → s.became t { s with
          queue := q
          shots := { s.shots with records := s.shots.records.set i (some y) }
          tport := { s.tport with item := some { it with attached := false, cut := it.cut ++ [.dropTether] } } }
          Cause.requestDone.bit)

/-- R151, R164 to R166: ENABLE is refused with WRONG_STATE unless the port is DISABLED, RESUME unless it is HALTED; both bring
it to IDLE, or WAIT_LINK with TLINK inactive. DISABLE brings a port without an item to DISABLED; it cuts an item in SENDING
and waits in its slot, and an item that awaits its verdict ends at once, its shot at the head of its class. That ENABLE and
RESUME show IDLE, before the port takes the head of a queue, is the model's reading (log 36). -/
def Obligations.TetherControlMovesThePort : Prop :=
  ∀ (s : State) (slot : Fin 8) (tag : Word32), s.canPost slot →
    (s.tport.state ≠ .disabled →
      s.answersOnly (.tetherControlEnable slot tag) slot 17 tag .wrongState (results [s.tport.state.code])) ∧
    (s.tport.state ≠ .halted →
      s.answersOnly (.tetherControlResume slot tag) slot 17 tag .wrongState (results [s.tport.state.code])) ∧
    (∀ (c : Instr) (p : PortState), p = (if s.tlinkActive then .idle else .waitLink) →
      (c = .tetherControlEnable slot tag ∧ s.tport.state = .disabled ∨
        c = .tetherControlResume slot tag ∧ s.tport.state = .halted) →
      ∃ t, exec c s = .next t ∧ s.served t slot 17 tag .done (results [p.code]) ∧ t.windows = s.windows ∧ t.lens = s.lens ∧
        (s.calm → (s.queue.order = [] ∨ s.tlinkActive = false) →
          s.became t { s with tport := { s.tport with state := p } } Cause.requestDone.bit)) ∧
    (s.tport.state = .disabled ∨ s.tport.state = .waitLink ∨ s.tport.state = .idle ∨ s.tport.state = .halted →
      ∃ t, exec (.tetherControlDisable slot tag) s = .next t ∧ s.served t slot 17 tag .done (results [0]) ∧
        s.became t { s with tport := { s.tport with state := .disabled } } Cause.requestDone.bit) ∧
    (∀ it, s.tport.state = .sending → s.tport.item = some it → it.step.underWay = true →
      ∃ t, exec (.tetherControlDisable slot tag) s = .next t ∧ s.backdrop t ∧ s.otherSlotsKept t slot ∧
        t.windows = s.windows ∧ t.lens = s.lens ∧ t.req.slots[slot].state = .taken ∧
        t.req.slots[slot].taken.map (fun k => (k.kind, k.tag)) = some (17, tag) ∧
        (s.calm → s.became t { s with tport := { s.tport with item := some { it with cut := it.cut ++ [.disable slot] } } } 0)) ∧
    ∀ it x p, s.tport.state = .awaitVerdict → s.tport.item = some it → it.cut = [] → it.attached = true → s.restful →
      s.record it.source.index = some x → x.number = it.source.number → x.tether = some p →
      ∃ t, exec (.tetherControlDisable slot tag) s = .next t ∧ s.served t slot 17 tag .done (results [0]) ∧
        t.tport.state = .disabled ∧ t.tport.item = none ∧ t.tport.verdictAt = none ∧ t.windows = s.windows ∧ t.lens = s.lens ∧
        t.queue = s.queue.enter p.cls true it.source ∧ t.pool = s.pool ∧
        t.record it.source.index = some { x with tether := some { p with state := .queued } }

/-- R28, R75, R148, R178, R190: CLEAR_BUFFER unmaps every view, aborts the frame in flight, frees every record and empties the
queue; the pending shots of the release unit and the cache entries go. With no item on the port it completes at once with the
free pages and the records freed; the item of a port in SENDING is detached and cut, and the request waits in its slot. Stated
with no half press and live view OFF, so that no frame opens at once. What the results count is the model's (log 26). -/
def Obligations.ClearBufferEmptiesTheBuffer : Prop :=
  ∀ (s : State) (slot : Fin 8) (tag : Word32), s.canPost slot → s.halfPress = false → s.tables.live.enabled = false →
    (s.tport.item = none ∨ ∃ it, s.tport.item = some it ∧ s.tport.state = .sending ∧ it.step.underWay = true) →
    ∃ t, exec (.clearBuffer slot tag) s = .next t ∧ s.backdrop t ∧ s.otherSlotsKept t slot ∧ t.lens = s.lens ∧
      t.windows = { s.windows with views := Vector.replicate 4 none } ∧ t.intake = { s.intake with frame := none } ∧
      t.phase.row = none ∧ (∀ i, t.record i = none) ∧ t.shots.preList = [] ∧ t.shots.counter = s.shots.counter ∧
      t.pool = { s.pool with free := s.pool.free ++ s.recordPages, reservation := 0 } ∧ t.queue.order = [] ∧
      t.release.fireCount = 0 ∧ t.release.singlePending = false ∧ t.release.waiting = none ∧ t.release.state = .standby ∧
      t.release.shotTimer = none ∧ t.engine.run = none ∧ t.engine.stream = none ∧ (∀ k, t.engine.lookup k = none) ∧
      t.tport.state = s.tport.state ∧ (∀ c, s.pendingCause c = true → t.pendingCause c = true) ∧
      (s.tport.item = none → t.tport.item = none ∧
        s.served t slot 18 tag .done (results [s.pool.free.length + s.recordPages.length, s.usedRecords])) ∧
      ∀ it, s.tport.item = some it →
        t.tport.item = some { it with attached := false, cut := it.cut ++ [.clearBuffer slot s.usedRecords] } ∧
        t.req.slots[slot].state = .taken ∧ t.req.slots[slot].taken.map (fun k => (k.kind, k.tag)) = some (18, tag)

/-- R187, R188: CLEAR_CAUSES and SET_MASK are refused with BAD_VALUE when a bit from 20 on is set. Otherwise the causes named become
not pending and not shown, or the mask is replaced, and the status record is marked; the results carry the pending set, or the
mask, as it then stands. What a status write in flight shows of a cleared cause is left open here (log 20). After RESET_N every cause
is masked; CLEAR_BUFFER keeps the mask and the cause set; and under every mask a cause is raised, stands in the status record's set
and gets its shown mark as any other. -/
def Obligations.CausesAreClearedAndMasked : Prop :=
  (∀ s t : State, exec .resetN s = .next t → t.req.mask = BitVec.allOnes 20) ∧
  (∀ (s t : State) (slot : Fin 8) (tag : Word32), exec (.clearBuffer slot tag) s = .next t →
    t.req.mask = s.req.mask ∧ ∀ c, s.pendingCause c = true → t.pendingCause c = true) ∧
  (∀ (s u : State) (m : BitVec 20) (c : Cause), u = { s with req := { s.req with mask := m } } →
    u.pendingCause c = s.pendingCause c ∧ (u.raise c).pendingCause c = true ∧ (96, 4, s.req.causes.toNat) ∈ u.statusFields ∧
    ∀ q : ReportRequest, u.link.started = true → u.passageWaits = false → u.nextInternal = some .report → u.port.report = some q →
      q.record = .status → q.shows.getLsbD c.code = true → s.pendingCause c = true →
      ∃ t, exec .memoryGrant u = .next t ∧ t.req.shown.getLsbD c.code = true ∧ t.req.mask = m) ∧
  ∀ (s : State) (slot : Fin 8) (tag : Word32) (v : Beat), s.canPost slot →
    (2 ^ 20 ≤ v.toNat → s.answersOnly (.clearCauses slot tag v) slot 19 tag .badValue 0 ∧
      s.answersOnly (.setMask slot tag v) slot 20 tag .badValue 0) ∧
    (v.toNat < 2 ^ 20 →
      (∃ t keep, keep = ~~~(BitVec.ofNat 20 v.toNat) ∧ exec (.clearCauses slot tag v) s = .next t ∧
        t.answered slot 19 tag .done (BitVec.ofNat 64 (s.req.causes &&& keep).toNat) ∧
        { t with req := s.req, port := s.port } = s ∧
        { t.port with report := s.port.report } = s.port ∧ .status ∈ t.req.reportList ∧
        t.port.report.map (fun q => (q.record, q.chunks, q.serial)) = s.port.report.map (fun q => (q.record, q.chunks, q.serial)) ∧
        t.req.causes = (s.req.causes &&& keep ||| Cause.requestDone.bit) ∧ t.req.shown = s.req.shown &&& keep ∧
        t.req.mask = s.req.mask ∧ ∀ j, j ≠ slot → t.req.slots[j] = s.req.slots[j]) ∧
      ∃ t, exec (.setMask slot tag v) s = .next t ∧ t.answered slot 20 tag .done v ∧ { t with req := s.req } = s ∧
        .status ∈ t.req.reportList ∧ t.req.causes = s.req.causes ||| Cause.requestDone.bit ∧ t.req.shown = s.req.shown ∧
        t.req.mask = BitVec.ofNat 20 v.toNat ∧ ∀ j, j ≠ slot → t.req.slots[j] = s.req.slots[j])
end

