-- ==== Sys2Proof/Laws/Memory.lean ====
section
/-! SUPPORT. The laws of the DRAM: the canonical form is kept, and a read after a write. -/

namespace Sys2Proof.Machine

/-- In a list of rising addresses that starts above `a`, nothing stands at `a`. -/
theorem lookupCell_none_of_lt (cs : List Host.Cell) (a : Nat) (h : ∀ c ∈ cs, a < c.1) : lookupCell cs a = none := by
  induction cs with
  | nil => rfl
  | cons c cs ih =>
    have hc := h c (by simp)
    simp only [lookupCell]
    rw [if_neg (by omega)]
    exact ih fun d hd => h d (by simp [hd])

/-- A rising list with an element in front is rising behind it. -/
theorem risingCells_tail (c : Host.Cell) (cs : List Host.Cell) (h : risingCells (c :: cs) = true) : risingCells cs = true := by
  cases cs with
  | nil => rfl
  | cons d cs => simp only [risingCells, Bool.and_eq_true] at h; exact h.2

/-- In a rising list the first address is the least. -/
theorem risingCells_head_lt (c : Host.Cell) (cs : List Host.Cell) (h : risingCells (c :: cs) = true) : ∀ d ∈ cs, c.1 < d.1 := by
  induction cs generalizing c with
  | nil => intro d hd; cases hd
  | cons e cs ih =>
    simp only [risingCells, Bool.and_eq_true, decide_eq_true_eq] at h
    intro d hd
    rcases List.mem_cons.mp hd with rfl | hd
    · exact h.1
    · exact Nat.lt_trans h.1 (ih e h.2 d hd)

/-- A cell in front of a rising list whose addresses are greater keeps it rising. -/
theorem risingCells_cons (c : Host.Cell) (cs : List Host.Cell) (h : risingCells cs = true) (hc : ∀ d ∈ cs, c.1 < d.1) :
    risingCells (c :: cs) = true := by
  cases cs with
  | nil => rfl
  | cons d cs => simp [risingCells, h, hc d (by simp)]

/-- The addresses of an inserted list are the old ones and the new one. -/
theorem mem_insertCell (cs : List Host.Cell) (a : Nat) (b : Byte) (d : Host.Cell) (h : d ∈ insertCell cs a b) :
    d = (a, b) ∨ d ∈ cs := by
  induction cs with
  | nil => simpa [insertCell] using h
  | cons c cs ih =>
    simp only [insertCell] at h
    split at h
    · simpa using h
    · split at h
      · rcases List.mem_cons.mp h with h | h
        · exact .inl h
        · exact .inr (by simp [h])
      · rcases List.mem_cons.mp h with h | h
        · exact .inr (by simp [h])
        · rcases ih h with h | h
          · exact .inl h
          · exact .inr (by simp [h])

/-- A written byte keeps the list rising. -/
theorem risingCells_insertCell (cs : List Host.Cell) (a : Nat) (b : Byte) (h : risingCells cs = true) :
    risingCells (insertCell cs a b) = true := by
  induction cs with
  | nil => rfl
  | cons c cs ih =>
    have htail := risingCells_tail c cs h
    have hlt := risingCells_head_lt c cs h
    simp only [insertCell]
    split
    · refine risingCells_cons _ _ h fun d hd => ?_
      rcases List.mem_cons.mp hd with rfl | hd
      · assumption
      · exact Nat.lt_trans (by assumption) (hlt d hd)
    · split
      · rename_i heq
        exact risingCells_cons _ _ htail fun d hd => by simpa [heq] using hlt d hd
      · refine risingCells_cons _ _ (ih htail) fun d hd => ?_
        rcases mem_insertCell cs a b d hd with rfl | hd
        · simp only; omega
        · exact hlt d hd

/-- A byte reads back where it was written, and every other address reads as before. -/
theorem lookupCell_insertCell (cs : List Host.Cell) (a : Nat) (b : Byte) (x : Nat) (h : risingCells cs = true) :
    lookupCell (insertCell cs a b) x = if x = a then some b else lookupCell cs x := by
  induction cs with
  | nil => simp only [insertCell, lookupCell]; split <;> split <;> first | rfl | omega
  | cons c cs ih =>
    have htail := risingCells_tail c cs h
    have hlt := risingCells_head_lt c cs h
    simp only [insertCell]
    split
    · rename_i hac
      simp only [lookupCell]
      by_cases hx : x = a
      · simp [hx]
      · rw [if_neg (by omega), if_neg hx]
    · split
      · rename_i heq
        simp only [lookupCell]
        by_cases hx : x = a
        · simp [hx]
        · rw [if_neg (by omega), if_neg hx, if_neg (by omega)]
      · rename_i h1 h2
        simp only [lookupCell]
        by_cases hx : c.1 = x
        · rw [if_pos hx, if_pos hx, if_neg (by omega)]
        · rw [if_neg hx, if_neg hx, ih htail]

/-- A written byte reads back, and every other byte reads as before. -/
theorem Memory.readByte_writeByte (m : Memory) (a x : Nat) (b : Byte) (h : m.wf = true) :
    (m.writeByte a b).readByte x = if x = a then b else m.readByte x := by
  simp only [Memory.readByte, Memory.writeByte, lookupCell_insertCell m.cells a b x h]
  split <;> rfl

/-- One written byte keeps the canonical form. -/
theorem Memory.wf_writeByte (m : Memory) (a : Nat) (b : Byte) (h : m.wf = true) : (m.writeByte a b).wf = true :=
  risingCells_insertCell m.cells a b h

/-- A masked write keeps the canonical form. -/
theorem Memory.wf_writeMasked (m : Memory) (a : Nat) (bs : List (Option Byte)) (h : m.wf = true) :
    (m.writeMasked a bs).wf = true := by
  induction bs generalizing m a with
  | nil => exact h
  | cons o bs ih =>
    cases o with
    | none => exact ih m (a + 1) h
    | some b => exact ih _ (a + 1) (m.wf_writeByte a b h)

/-- A report write keeps the canonical form. -/
theorem Memory.wf_writeChunks (m : Memory) (cs : List (Nat × List Byte)) (h : m.wf = true) : (m.writeChunks cs).wf = true := by
  induction cs generalizing m with
  | nil => exact h
  | cons c cs ih => exact ih _ (m.wf_writeMasked c.1 _ h)

/-- DRAM after a reset has the canonical form. -/
theorem Memory.wf_afterReset (m : Memory) : m.afterReset.wf = true := rfl

/-- A write leaves the epoch of the unknown bytes alone. -/
@[simp] theorem Memory.epoch_writeMasked (m : Memory) (a : Nat) (bs : List (Option Byte)) :
    (m.writeMasked a bs).epoch = m.epoch := by
  induction bs generalizing m a with
  | nil => rfl
  | cons o bs ih => cases o <;> simp only [Memory.writeMasked, ih, Memory.writeByte]

end Sys2Proof.Machine
end

