-- ==== Sys2Proof/Laws/State.lean ====
section
/-! SUPPORT. The fields that each named update of the state leaves alone, one lemma for each, and what it writes. -/

namespace Sys2Proof.Machine

/-! `State.mark` -/

@[simp] theorem State.mark_time (s : State) (r : ReportRecord) : (s.mark r).time = s.time := rfl
@[simp] theorem State.mark_mem (s : State) (r : ReportRecord) : (s.mark r).mem = s.mem := rfl
@[simp] theorem State.mark_pins (s : State) (r : ReportRecord) : (s.mark r).pins = s.pins := rfl
@[simp] theorem State.mark_link (s : State) (r : ReportRecord) : (s.mark r).link = s.link := rfl
@[simp] theorem State.mark_windows (s : State) (r : ReportRecord) : (s.mark r).windows = s.windows := rfl
@[simp] theorem State.mark_port (s : State) (r : ReportRecord) : (s.mark r).port = s.port := rfl
@[simp] theorem State.mark_pool (s : State) (r : ReportRecord) : (s.mark r).pool = s.pool := rfl
@[simp] theorem State.mark_shots (s : State) (r : ReportRecord) : (s.mark r).shots = s.shots := rfl
@[simp] theorem State.mark_release (s : State) (r : ReportRecord) : (s.mark r).release = s.release := rfl
@[simp] theorem State.mark_intake (s : State) (r : ReportRecord) : (s.mark r).intake = s.intake := rfl
@[simp] theorem State.mark_phase (s : State) (r : ReportRecord) : (s.mark r).phase = s.phase := rfl
@[simp] theorem State.mark_focus (s : State) (r : ReportRecord) : (s.mark r).focus = s.focus := rfl
@[simp] theorem State.mark_lens (s : State) (r : ReportRecord) : (s.mark r).lens = s.lens := rfl
@[simp] theorem State.mark_tables (s : State) (r : ReportRecord) : (s.mark r).tables = s.tables := rfl
@[simp] theorem State.mark_engine (s : State) (r : ReportRecord) : (s.mark r).engine = s.engine := rfl
@[simp] theorem State.mark_queue (s : State) (r : ReportRecord) : (s.mark r).queue = s.queue := rfl
@[simp] theorem State.mark_tport (s : State) (r : ReportRecord) : (s.mark r).tport = s.tport := rfl
@[simp] theorem State.mark_pending (s : State) (r : ReportRecord) : (s.mark r).pending = s.pending := rfl

/-! `State.raise` -/

@[simp] theorem State.raise_time (s : State) (c : Cause) : (s.raise c).time = s.time := rfl
@[simp] theorem State.raise_mem (s : State) (c : Cause) : (s.raise c).mem = s.mem := rfl
@[simp] theorem State.raise_pins (s : State) (c : Cause) : (s.raise c).pins = s.pins := rfl
@[simp] theorem State.raise_link (s : State) (c : Cause) : (s.raise c).link = s.link := rfl
@[simp] theorem State.raise_windows (s : State) (c : Cause) : (s.raise c).windows = s.windows := rfl
@[simp] theorem State.raise_port (s : State) (c : Cause) : (s.raise c).port = s.port := rfl
@[simp] theorem State.raise_pool (s : State) (c : Cause) : (s.raise c).pool = s.pool := rfl
@[simp] theorem State.raise_shots (s : State) (c : Cause) : (s.raise c).shots = s.shots := rfl
@[simp] theorem State.raise_release (s : State) (c : Cause) : (s.raise c).release = s.release := rfl
@[simp] theorem State.raise_intake (s : State) (c : Cause) : (s.raise c).intake = s.intake := rfl
@[simp] theorem State.raise_phase (s : State) (c : Cause) : (s.raise c).phase = s.phase := rfl
@[simp] theorem State.raise_focus (s : State) (c : Cause) : (s.raise c).focus = s.focus := rfl
@[simp] theorem State.raise_lens (s : State) (c : Cause) : (s.raise c).lens = s.lens := rfl
@[simp] theorem State.raise_tables (s : State) (c : Cause) : (s.raise c).tables = s.tables := rfl
@[simp] theorem State.raise_engine (s : State) (c : Cause) : (s.raise c).engine = s.engine := rfl
@[simp] theorem State.raise_queue (s : State) (c : Cause) : (s.raise c).queue = s.queue := rfl
@[simp] theorem State.raise_tport (s : State) (c : Cause) : (s.raise c).tport = s.tport := rfl
@[simp] theorem State.raise_pending (s : State) (c : Cause) : (s.raise c).pending = s.pending := rfl

/-! `State.clearCauseSet` -/

@[simp] theorem State.clearCauseSet_time (s : State) (x : BitVec 20) : (s.clearCauseSet x).time = s.time := rfl
@[simp] theorem State.clearCauseSet_mem (s : State) (x : BitVec 20) : (s.clearCauseSet x).mem = s.mem := rfl
@[simp] theorem State.clearCauseSet_pins (s : State) (x : BitVec 20) : (s.clearCauseSet x).pins = s.pins := rfl
@[simp] theorem State.clearCauseSet_link (s : State) (x : BitVec 20) : (s.clearCauseSet x).link = s.link := rfl
@[simp] theorem State.clearCauseSet_windows (s : State) (x : BitVec 20) : (s.clearCauseSet x).windows = s.windows := rfl
@[simp] theorem State.clearCauseSet_pool (s : State) (x : BitVec 20) : (s.clearCauseSet x).pool = s.pool := rfl
@[simp] theorem State.clearCauseSet_shots (s : State) (x : BitVec 20) : (s.clearCauseSet x).shots = s.shots := rfl
@[simp] theorem State.clearCauseSet_release (s : State) (x : BitVec 20) : (s.clearCauseSet x).release = s.release := rfl
@[simp] theorem State.clearCauseSet_intake (s : State) (x : BitVec 20) : (s.clearCauseSet x).intake = s.intake := rfl
@[simp] theorem State.clearCauseSet_phase (s : State) (x : BitVec 20) : (s.clearCauseSet x).phase = s.phase := rfl
@[simp] theorem State.clearCauseSet_focus (s : State) (x : BitVec 20) : (s.clearCauseSet x).focus = s.focus := rfl
@[simp] theorem State.clearCauseSet_lens (s : State) (x : BitVec 20) : (s.clearCauseSet x).lens = s.lens := rfl
@[simp] theorem State.clearCauseSet_tables (s : State) (x : BitVec 20) : (s.clearCauseSet x).tables = s.tables := rfl
@[simp] theorem State.clearCauseSet_engine (s : State) (x : BitVec 20) : (s.clearCauseSet x).engine = s.engine := rfl
@[simp] theorem State.clearCauseSet_queue (s : State) (x : BitVec 20) : (s.clearCauseSet x).queue = s.queue := rfl
@[simp] theorem State.clearCauseSet_tport (s : State) (x : BitVec 20) : (s.clearCauseSet x).tport = s.tport := rfl
@[simp] theorem State.clearCauseSet_pending (s : State) (x : BitVec 20) : (s.clearCauseSet x).pending = s.pending := rfl

/-! `State.showCauses` -/

@[simp] theorem State.showCauses_time (s : State) (x : BitVec 20) : (s.showCauses x).time = s.time := rfl
@[simp] theorem State.showCauses_mem (s : State) (x : BitVec 20) : (s.showCauses x).mem = s.mem := rfl
@[simp] theorem State.showCauses_pins (s : State) (x : BitVec 20) : (s.showCauses x).pins = s.pins := rfl
@[simp] theorem State.showCauses_link (s : State) (x : BitVec 20) : (s.showCauses x).link = s.link := rfl
@[simp] theorem State.showCauses_windows (s : State) (x : BitVec 20) : (s.showCauses x).windows = s.windows := rfl
@[simp] theorem State.showCauses_port (s : State) (x : BitVec 20) : (s.showCauses x).port = s.port := rfl
@[simp] theorem State.showCauses_pool (s : State) (x : BitVec 20) : (s.showCauses x).pool = s.pool := rfl
@[simp] theorem State.showCauses_shots (s : State) (x : BitVec 20) : (s.showCauses x).shots = s.shots := rfl
@[simp] theorem State.showCauses_release (s : State) (x : BitVec 20) : (s.showCauses x).release = s.release := rfl
@[simp] theorem State.showCauses_intake (s : State) (x : BitVec 20) : (s.showCauses x).intake = s.intake := rfl
@[simp] theorem State.showCauses_phase (s : State) (x : BitVec 20) : (s.showCauses x).phase = s.phase := rfl
@[simp] theorem State.showCauses_focus (s : State) (x : BitVec 20) : (s.showCauses x).focus = s.focus := rfl
@[simp] theorem State.showCauses_lens (s : State) (x : BitVec 20) : (s.showCauses x).lens = s.lens := rfl
@[simp] theorem State.showCauses_tables (s : State) (x : BitVec 20) : (s.showCauses x).tables = s.tables := rfl
@[simp] theorem State.showCauses_engine (s : State) (x : BitVec 20) : (s.showCauses x).engine = s.engine := rfl
@[simp] theorem State.showCauses_queue (s : State) (x : BitVec 20) : (s.showCauses x).queue = s.queue := rfl
@[simp] theorem State.showCauses_tport (s : State) (x : BitVec 20) : (s.showCauses x).tport = s.tport := rfl
@[simp] theorem State.showCauses_pending (s : State) (x : BitVec 20) : (s.showCauses x).pending = s.pending := rfl

/-! `State.replaceMask` -/

@[simp] theorem State.replaceMask_time (s : State) (x : BitVec 20) : (s.replaceMask x).time = s.time := rfl
@[simp] theorem State.replaceMask_mem (s : State) (x : BitVec 20) : (s.replaceMask x).mem = s.mem := rfl
@[simp] theorem State.replaceMask_pins (s : State) (x : BitVec 20) : (s.replaceMask x).pins = s.pins := rfl
@[simp] theorem State.replaceMask_link (s : State) (x : BitVec 20) : (s.replaceMask x).link = s.link := rfl
@[simp] theorem State.replaceMask_windows (s : State) (x : BitVec 20) : (s.replaceMask x).windows = s.windows := rfl
@[simp] theorem State.replaceMask_port (s : State) (x : BitVec 20) : (s.replaceMask x).port = s.port := rfl
@[simp] theorem State.replaceMask_pool (s : State) (x : BitVec 20) : (s.replaceMask x).pool = s.pool := rfl
@[simp] theorem State.replaceMask_shots (s : State) (x : BitVec 20) : (s.replaceMask x).shots = s.shots := rfl
@[simp] theorem State.replaceMask_release (s : State) (x : BitVec 20) : (s.replaceMask x).release = s.release := rfl
@[simp] theorem State.replaceMask_intake (s : State) (x : BitVec 20) : (s.replaceMask x).intake = s.intake := rfl
@[simp] theorem State.replaceMask_phase (s : State) (x : BitVec 20) : (s.replaceMask x).phase = s.phase := rfl
@[simp] theorem State.replaceMask_focus (s : State) (x : BitVec 20) : (s.replaceMask x).focus = s.focus := rfl
@[simp] theorem State.replaceMask_lens (s : State) (x : BitVec 20) : (s.replaceMask x).lens = s.lens := rfl
@[simp] theorem State.replaceMask_tables (s : State) (x : BitVec 20) : (s.replaceMask x).tables = s.tables := rfl
@[simp] theorem State.replaceMask_engine (s : State) (x : BitVec 20) : (s.replaceMask x).engine = s.engine := rfl
@[simp] theorem State.replaceMask_queue (s : State) (x : BitVec 20) : (s.replaceMask x).queue = s.queue := rfl
@[simp] theorem State.replaceMask_tport (s : State) (x : BitVec 20) : (s.replaceMask x).tport = s.tport := rfl
@[simp] theorem State.replaceMask_pending (s : State) (x : BitVec 20) : (s.replaceMask x).pending = s.pending := rfl

/-! `State.setRecord` -/

@[simp] theorem State.setRecord_time (s : State) (i : Fin 48) (r : Option Shot) : (s.setRecord i r).time = s.time := rfl
@[simp] theorem State.setRecord_mem (s : State) (i : Fin 48) (r : Option Shot) : (s.setRecord i r).mem = s.mem := rfl
@[simp] theorem State.setRecord_pins (s : State) (i : Fin 48) (r : Option Shot) : (s.setRecord i r).pins = s.pins := rfl
@[simp] theorem State.setRecord_link (s : State) (i : Fin 48) (r : Option Shot) : (s.setRecord i r).link = s.link := rfl
@[simp] theorem State.setRecord_windows (s : State) (i : Fin 48) (r : Option Shot) : (s.setRecord i r).windows = s.windows := rfl
@[simp] theorem State.setRecord_port (s : State) (i : Fin 48) (r : Option Shot) : (s.setRecord i r).port = s.port := rfl
@[simp] theorem State.setRecord_pool (s : State) (i : Fin 48) (r : Option Shot) : (s.setRecord i r).pool = s.pool := rfl
@[simp] theorem State.setRecord_release (s : State) (i : Fin 48) (r : Option Shot) : (s.setRecord i r).release = s.release := rfl
@[simp] theorem State.setRecord_intake (s : State) (i : Fin 48) (r : Option Shot) : (s.setRecord i r).intake = s.intake := rfl
@[simp] theorem State.setRecord_phase (s : State) (i : Fin 48) (r : Option Shot) : (s.setRecord i r).phase = s.phase := rfl
@[simp] theorem State.setRecord_focus (s : State) (i : Fin 48) (r : Option Shot) : (s.setRecord i r).focus = s.focus := rfl
@[simp] theorem State.setRecord_lens (s : State) (i : Fin 48) (r : Option Shot) : (s.setRecord i r).lens = s.lens := rfl
@[simp] theorem State.setRecord_tables (s : State) (i : Fin 48) (r : Option Shot) : (s.setRecord i r).tables = s.tables := rfl
@[simp] theorem State.setRecord_engine (s : State) (i : Fin 48) (r : Option Shot) : (s.setRecord i r).engine = s.engine := rfl
@[simp] theorem State.setRecord_queue (s : State) (i : Fin 48) (r : Option Shot) : (s.setRecord i r).queue = s.queue := rfl
@[simp] theorem State.setRecord_tport (s : State) (i : Fin 48) (r : Option Shot) : (s.setRecord i r).tport = s.tport := rfl
@[simp] theorem State.setRecord_req (s : State) (i : Fin 48) (r : Option Shot) : (s.setRecord i r).req = s.req := rfl
@[simp] theorem State.setRecord_pending (s : State) (i : Fin 48) (r : Option Shot) : (s.setRecord i r).pending = s.pending := rfl

/-! `State.modifyShot` -/

@[simp] theorem State.modifyShot_time (s : State) (i : Fin 48) (f : Shot → Shot) : (s.modifyShot i f).time = s.time := rfl
@[simp] theorem State.modifyShot_mem (s : State) (i : Fin 48) (f : Shot → Shot) : (s.modifyShot i f).mem = s.mem := rfl
@[simp] theorem State.modifyShot_pins (s : State) (i : Fin 48) (f : Shot → Shot) : (s.modifyShot i f).pins = s.pins := rfl
@[simp] theorem State.modifyShot_link (s : State) (i : Fin 48) (f : Shot → Shot) : (s.modifyShot i f).link = s.link := rfl
@[simp] theorem State.modifyShot_windows (s : State) (i : Fin 48) (f : Shot → Shot) : (s.modifyShot i f).windows = s.windows := rfl
@[simp] theorem State.modifyShot_port (s : State) (i : Fin 48) (f : Shot → Shot) : (s.modifyShot i f).port = s.port := rfl
@[simp] theorem State.modifyShot_pool (s : State) (i : Fin 48) (f : Shot → Shot) : (s.modifyShot i f).pool = s.pool := rfl
@[simp] theorem State.modifyShot_release (s : State) (i : Fin 48) (f : Shot → Shot) : (s.modifyShot i f).release = s.release := rfl
@[simp] theorem State.modifyShot_intake (s : State) (i : Fin 48) (f : Shot → Shot) : (s.modifyShot i f).intake = s.intake := rfl
@[simp] theorem State.modifyShot_phase (s : State) (i : Fin 48) (f : Shot → Shot) : (s.modifyShot i f).phase = s.phase := rfl
@[simp] theorem State.modifyShot_focus (s : State) (i : Fin 48) (f : Shot → Shot) : (s.modifyShot i f).focus = s.focus := rfl
@[simp] theorem State.modifyShot_lens (s : State) (i : Fin 48) (f : Shot → Shot) : (s.modifyShot i f).lens = s.lens := rfl
@[simp] theorem State.modifyShot_tables (s : State) (i : Fin 48) (f : Shot → Shot) : (s.modifyShot i f).tables = s.tables := rfl
@[simp] theorem State.modifyShot_engine (s : State) (i : Fin 48) (f : Shot → Shot) : (s.modifyShot i f).engine = s.engine := rfl
@[simp] theorem State.modifyShot_queue (s : State) (i : Fin 48) (f : Shot → Shot) : (s.modifyShot i f).queue = s.queue := rfl
@[simp] theorem State.modifyShot_tport (s : State) (i : Fin 48) (f : Shot → Shot) : (s.modifyShot i f).tport = s.tport := rfl
@[simp] theorem State.modifyShot_req (s : State) (i : Fin 48) (f : Shot → Shot) : (s.modifyShot i f).req = s.req := rfl
@[simp] theorem State.modifyShot_pending (s : State) (i : Fin 48) (f : Shot → Shot) : (s.modifyShot i f).pending = s.pending := rfl

/-! `State.respond` -/

@[simp] theorem State.respond_time (s : State) (t : BitVec 5) (d : List Byte) : (s.respond t d).time = s.time := rfl
@[simp] theorem State.respond_mem (s : State) (t : BitVec 5) (d : List Byte) : (s.respond t d).mem = s.mem := rfl
@[simp] theorem State.respond_pins (s : State) (t : BitVec 5) (d : List Byte) : (s.respond t d).pins = s.pins := rfl
@[simp] theorem State.respond_windows (s : State) (t : BitVec 5) (d : List Byte) : (s.respond t d).windows = s.windows := rfl
@[simp] theorem State.respond_port (s : State) (t : BitVec 5) (d : List Byte) : (s.respond t d).port = s.port := rfl
@[simp] theorem State.respond_pool (s : State) (t : BitVec 5) (d : List Byte) : (s.respond t d).pool = s.pool := rfl
@[simp] theorem State.respond_shots (s : State) (t : BitVec 5) (d : List Byte) : (s.respond t d).shots = s.shots := rfl
@[simp] theorem State.respond_release (s : State) (t : BitVec 5) (d : List Byte) : (s.respond t d).release = s.release := rfl
@[simp] theorem State.respond_intake (s : State) (t : BitVec 5) (d : List Byte) : (s.respond t d).intake = s.intake := rfl
@[simp] theorem State.respond_phase (s : State) (t : BitVec 5) (d : List Byte) : (s.respond t d).phase = s.phase := rfl
@[simp] theorem State.respond_focus (s : State) (t : BitVec 5) (d : List Byte) : (s.respond t d).focus = s.focus := rfl
@[simp] theorem State.respond_lens (s : State) (t : BitVec 5) (d : List Byte) : (s.respond t d).lens = s.lens := rfl
@[simp] theorem State.respond_tables (s : State) (t : BitVec 5) (d : List Byte) : (s.respond t d).tables = s.tables := rfl
@[simp] theorem State.respond_engine (s : State) (t : BitVec 5) (d : List Byte) : (s.respond t d).engine = s.engine := rfl
@[simp] theorem State.respond_queue (s : State) (t : BitVec 5) (d : List Byte) : (s.respond t d).queue = s.queue := rfl
@[simp] theorem State.respond_tport (s : State) (t : BitVec 5) (d : List Byte) : (s.respond t d).tport = s.tport := rfl
@[simp] theorem State.respond_req (s : State) (t : BitVec 5) (d : List Byte) : (s.respond t d).req = s.req := rfl
@[simp] theorem State.respond_pending (s : State) (t : BitVec 5) (d : List Byte) : (s.respond t d).pending = s.pending := rfl

/-! `State.returnCredit` -/

@[simp] theorem State.returnCredit_time (s : State) : s.returnCredit.time = s.time := rfl
@[simp] theorem State.returnCredit_mem (s : State) : s.returnCredit.mem = s.mem := rfl
@[simp] theorem State.returnCredit_pins (s : State) : s.returnCredit.pins = s.pins := rfl
@[simp] theorem State.returnCredit_windows (s : State) : s.returnCredit.windows = s.windows := rfl
@[simp] theorem State.returnCredit_port (s : State) : s.returnCredit.port = s.port := rfl
@[simp] theorem State.returnCredit_pool (s : State) : s.returnCredit.pool = s.pool := rfl
@[simp] theorem State.returnCredit_shots (s : State) : s.returnCredit.shots = s.shots := rfl
@[simp] theorem State.returnCredit_release (s : State) : s.returnCredit.release = s.release := rfl
@[simp] theorem State.returnCredit_intake (s : State) : s.returnCredit.intake = s.intake := rfl
@[simp] theorem State.returnCredit_phase (s : State) : s.returnCredit.phase = s.phase := rfl
@[simp] theorem State.returnCredit_focus (s : State) : s.returnCredit.focus = s.focus := rfl
@[simp] theorem State.returnCredit_lens (s : State) : s.returnCredit.lens = s.lens := rfl
@[simp] theorem State.returnCredit_tables (s : State) : s.returnCredit.tables = s.tables := rfl
@[simp] theorem State.returnCredit_engine (s : State) : s.returnCredit.engine = s.engine := rfl
@[simp] theorem State.returnCredit_queue (s : State) : s.returnCredit.queue = s.queue := rfl
@[simp] theorem State.returnCredit_tport (s : State) : s.returnCredit.tport = s.tport := rfl
@[simp] theorem State.returnCredit_req (s : State) : s.returnCredit.req = s.req := rfl
@[simp] theorem State.returnCredit_pending (s : State) : s.returnCredit.pending = s.pending := rfl

/-! `State.setSlot` -/

@[simp] theorem State.setSlot_time (s : State) (i : Fin 8) (x : Slot) : (s.setSlot i x).time = s.time := rfl
@[simp] theorem State.setSlot_mem (s : State) (i : Fin 8) (x : Slot) : (s.setSlot i x).mem = s.mem := rfl
@[simp] theorem State.setSlot_pins (s : State) (i : Fin 8) (x : Slot) : (s.setSlot i x).pins = s.pins := rfl
@[simp] theorem State.setSlot_link (s : State) (i : Fin 8) (x : Slot) : (s.setSlot i x).link = s.link := rfl
@[simp] theorem State.setSlot_windows (s : State) (i : Fin 8) (x : Slot) : (s.setSlot i x).windows = s.windows := rfl
@[simp] theorem State.setSlot_port (s : State) (i : Fin 8) (x : Slot) : (s.setSlot i x).port = s.port := rfl
@[simp] theorem State.setSlot_pool (s : State) (i : Fin 8) (x : Slot) : (s.setSlot i x).pool = s.pool := rfl
@[simp] theorem State.setSlot_shots (s : State) (i : Fin 8) (x : Slot) : (s.setSlot i x).shots = s.shots := rfl
@[simp] theorem State.setSlot_release (s : State) (i : Fin 8) (x : Slot) : (s.setSlot i x).release = s.release := rfl
@[simp] theorem State.setSlot_intake (s : State) (i : Fin 8) (x : Slot) : (s.setSlot i x).intake = s.intake := rfl
@[simp] theorem State.setSlot_phase (s : State) (i : Fin 8) (x : Slot) : (s.setSlot i x).phase = s.phase := rfl
@[simp] theorem State.setSlot_focus (s : State) (i : Fin 8) (x : Slot) : (s.setSlot i x).focus = s.focus := rfl
@[simp] theorem State.setSlot_lens (s : State) (i : Fin 8) (x : Slot) : (s.setSlot i x).lens = s.lens := rfl
@[simp] theorem State.setSlot_tables (s : State) (i : Fin 8) (x : Slot) : (s.setSlot i x).tables = s.tables := rfl
@[simp] theorem State.setSlot_engine (s : State) (i : Fin 8) (x : Slot) : (s.setSlot i x).engine = s.engine := rfl
@[simp] theorem State.setSlot_queue (s : State) (i : Fin 8) (x : Slot) : (s.setSlot i x).queue = s.queue := rfl
@[simp] theorem State.setSlot_tport (s : State) (i : Fin 8) (x : Slot) : (s.setSlot i x).tport = s.tport := rfl
@[simp] theorem State.setSlot_pending (s : State) (i : Fin 8) (x : Slot) : (s.setSlot i x).pending = s.pending := rfl

/-! `State.complete` -/

@[simp] theorem State.complete_time (s : State) (i : Fin 8) (c : ResultCode) (b : Beat) : (s.complete i c b).time = s.time := rfl
@[simp] theorem State.complete_mem (s : State) (i : Fin 8) (c : ResultCode) (b : Beat) : (s.complete i c b).mem = s.mem := rfl
@[simp] theorem State.complete_pins (s : State) (i : Fin 8) (c : ResultCode) (b : Beat) : (s.complete i c b).pins = s.pins := rfl
@[simp] theorem State.complete_link (s : State) (i : Fin 8) (c : ResultCode) (b : Beat) : (s.complete i c b).link = s.link := rfl
@[simp] theorem State.complete_windows (s : State) (i : Fin 8) (c : ResultCode) (b : Beat) : (s.complete i c b).windows = s.windows := rfl
@[simp] theorem State.complete_port (s : State) (i : Fin 8) (c : ResultCode) (b : Beat) : (s.complete i c b).port = s.port := rfl
@[simp] theorem State.complete_pool (s : State) (i : Fin 8) (c : ResultCode) (b : Beat) : (s.complete i c b).pool = s.pool := rfl
@[simp] theorem State.complete_shots (s : State) (i : Fin 8) (c : ResultCode) (b : Beat) : (s.complete i c b).shots = s.shots := rfl
@[simp] theorem State.complete_release (s : State) (i : Fin 8) (c : ResultCode) (b : Beat) : (s.complete i c b).release = s.release := rfl
@[simp] theorem State.complete_intake (s : State) (i : Fin 8) (c : ResultCode) (b : Beat) : (s.complete i c b).intake = s.intake := rfl
@[simp] theorem State.complete_phase (s : State) (i : Fin 8) (c : ResultCode) (b : Beat) : (s.complete i c b).phase = s.phase := rfl
@[simp] theorem State.complete_focus (s : State) (i : Fin 8) (c : ResultCode) (b : Beat) : (s.complete i c b).focus = s.focus := rfl
@[simp] theorem State.complete_lens (s : State) (i : Fin 8) (c : ResultCode) (b : Beat) : (s.complete i c b).lens = s.lens := rfl
@[simp] theorem State.complete_tables (s : State) (i : Fin 8) (c : ResultCode) (b : Beat) : (s.complete i c b).tables = s.tables := rfl
@[simp] theorem State.complete_engine (s : State) (i : Fin 8) (c : ResultCode) (b : Beat) : (s.complete i c b).engine = s.engine := rfl
@[simp] theorem State.complete_queue (s : State) (i : Fin 8) (c : ResultCode) (b : Beat) : (s.complete i c b).queue = s.queue := rfl
@[simp] theorem State.complete_tport (s : State) (i : Fin 8) (c : ResultCode) (b : Beat) : (s.complete i c b).tport = s.tport := rfl
@[simp] theorem State.complete_pending (s : State) (i : Fin 8) (c : ResultCode) (b : Beat) : (s.complete i c b).pending = s.pending := rfl

/-! `State.refuse` -/

@[simp] theorem State.refuse_time (s : State) (i : Fin 8) (c : ResultCode) : (s.refuse i c).time = s.time := rfl
@[simp] theorem State.refuse_mem (s : State) (i : Fin 8) (c : ResultCode) : (s.refuse i c).mem = s.mem := rfl
@[simp] theorem State.refuse_pins (s : State) (i : Fin 8) (c : ResultCode) : (s.refuse i c).pins = s.pins := rfl
@[simp] theorem State.refuse_link (s : State) (i : Fin 8) (c : ResultCode) : (s.refuse i c).link = s.link := rfl
@[simp] theorem State.refuse_windows (s : State) (i : Fin 8) (c : ResultCode) : (s.refuse i c).windows = s.windows := rfl
@[simp] theorem State.refuse_port (s : State) (i : Fin 8) (c : ResultCode) : (s.refuse i c).port = s.port := rfl
@[simp] theorem State.refuse_pool (s : State) (i : Fin 8) (c : ResultCode) : (s.refuse i c).pool = s.pool := rfl
@[simp] theorem State.refuse_shots (s : State) (i : Fin 8) (c : ResultCode) : (s.refuse i c).shots = s.shots := rfl
@[simp] theorem State.refuse_release (s : State) (i : Fin 8) (c : ResultCode) : (s.refuse i c).release = s.release := rfl
@[simp] theorem State.refuse_intake (s : State) (i : Fin 8) (c : ResultCode) : (s.refuse i c).intake = s.intake := rfl
@[simp] theorem State.refuse_phase (s : State) (i : Fin 8) (c : ResultCode) : (s.refuse i c).phase = s.phase := rfl
@[simp] theorem State.refuse_focus (s : State) (i : Fin 8) (c : ResultCode) : (s.refuse i c).focus = s.focus := rfl
@[simp] theorem State.refuse_lens (s : State) (i : Fin 8) (c : ResultCode) : (s.refuse i c).lens = s.lens := rfl
@[simp] theorem State.refuse_tables (s : State) (i : Fin 8) (c : ResultCode) : (s.refuse i c).tables = s.tables := rfl
@[simp] theorem State.refuse_engine (s : State) (i : Fin 8) (c : ResultCode) : (s.refuse i c).engine = s.engine := rfl
@[simp] theorem State.refuse_queue (s : State) (i : Fin 8) (c : ResultCode) : (s.refuse i c).queue = s.queue := rfl
@[simp] theorem State.refuse_tport (s : State) (i : Fin 8) (c : ResultCode) : (s.refuse i c).tport = s.tport := rfl
@[simp] theorem State.refuse_pending (s : State) (i : Fin 8) (c : ResultCode) : (s.refuse i c).pending = s.pending := rfl

/-! `State.take` -/

@[simp] theorem State.take_time (s : State) (i : Fin 8) : (s.take i).time = s.time := rfl
@[simp] theorem State.take_mem (s : State) (i : Fin 8) : (s.take i).mem = s.mem := rfl
@[simp] theorem State.take_pins (s : State) (i : Fin 8) : (s.take i).pins = s.pins := rfl
@[simp] theorem State.take_link (s : State) (i : Fin 8) : (s.take i).link = s.link := rfl
@[simp] theorem State.take_windows (s : State) (i : Fin 8) : (s.take i).windows = s.windows := rfl
@[simp] theorem State.take_port (s : State) (i : Fin 8) : (s.take i).port = s.port := rfl
@[simp] theorem State.take_pool (s : State) (i : Fin 8) : (s.take i).pool = s.pool := rfl
@[simp] theorem State.take_shots (s : State) (i : Fin 8) : (s.take i).shots = s.shots := rfl
@[simp] theorem State.take_release (s : State) (i : Fin 8) : (s.take i).release = s.release := rfl
@[simp] theorem State.take_intake (s : State) (i : Fin 8) : (s.take i).intake = s.intake := rfl
@[simp] theorem State.take_phase (s : State) (i : Fin 8) : (s.take i).phase = s.phase := rfl
@[simp] theorem State.take_focus (s : State) (i : Fin 8) : (s.take i).focus = s.focus := rfl
@[simp] theorem State.take_lens (s : State) (i : Fin 8) : (s.take i).lens = s.lens := rfl
@[simp] theorem State.take_tables (s : State) (i : Fin 8) : (s.take i).tables = s.tables := rfl
@[simp] theorem State.take_engine (s : State) (i : Fin 8) : (s.take i).engine = s.engine := rfl
@[simp] theorem State.take_queue (s : State) (i : Fin 8) : (s.take i).queue = s.queue := rfl
@[simp] theorem State.take_tport (s : State) (i : Fin 8) : (s.take i).tport = s.tport := rfl
@[simp] theorem State.take_pending (s : State) (i : Fin 8) : (s.take i).pending = s.pending := rfl

/-! `State.finishEvent` -/

@[simp] theorem State.finishEvent_time (s : State) (o : State) : (s.finishEvent o).time = s.time := rfl
@[simp] theorem State.finishEvent_mem (s : State) (o : State) : (s.finishEvent o).mem = s.mem := rfl
@[simp] theorem State.finishEvent_pins (s : State) (o : State) : (s.finishEvent o).pins = s.pins := rfl
@[simp] theorem State.finishEvent_link (s : State) (o : State) : (s.finishEvent o).link = s.link := rfl
@[simp] theorem State.finishEvent_windows (s : State) (o : State) : (s.finishEvent o).windows = s.windows := rfl
@[simp] theorem State.finishEvent_port (s : State) (o : State) : (s.finishEvent o).port = s.port := rfl
@[simp] theorem State.finishEvent_pool (s : State) (o : State) : (s.finishEvent o).pool = s.pool := rfl
@[simp] theorem State.finishEvent_shots (s : State) (o : State) : (s.finishEvent o).shots = s.shots := rfl
@[simp] theorem State.finishEvent_release (s : State) (o : State) : (s.finishEvent o).release = s.release := rfl
@[simp] theorem State.finishEvent_intake (s : State) (o : State) : (s.finishEvent o).intake = s.intake := rfl
@[simp] theorem State.finishEvent_phase (s : State) (o : State) : (s.finishEvent o).phase = s.phase := rfl
@[simp] theorem State.finishEvent_focus (s : State) (o : State) : (s.finishEvent o).focus = s.focus := rfl
@[simp] theorem State.finishEvent_lens (s : State) (o : State) : (s.finishEvent o).lens = s.lens := rfl
@[simp] theorem State.finishEvent_tables (s : State) (o : State) : (s.finishEvent o).tables = s.tables := rfl
@[simp] theorem State.finishEvent_engine (s : State) (o : State) : (s.finishEvent o).engine = s.engine := rfl
@[simp] theorem State.finishEvent_queue (s : State) (o : State) : (s.finishEvent o).queue = s.queue := rfl
@[simp] theorem State.finishEvent_tport (s : State) (o : State) : (s.finishEvent o).tport = s.tport := rfl
@[simp] theorem State.finishEvent_pending (s : State) (o : State) : (s.finishEvent o).pending = s.pending := rfl

/-! `State.deriveFocus` -/

@[simp] theorem State.deriveFocus_time (s : State) : s.deriveFocus.time = s.time := rfl
@[simp] theorem State.deriveFocus_mem (s : State) : s.deriveFocus.mem = s.mem := rfl
@[simp] theorem State.deriveFocus_pins (s : State) : s.deriveFocus.pins = s.pins := rfl
@[simp] theorem State.deriveFocus_link (s : State) : s.deriveFocus.link = s.link := rfl
@[simp] theorem State.deriveFocus_windows (s : State) : s.deriveFocus.windows = s.windows := rfl
@[simp] theorem State.deriveFocus_port (s : State) : s.deriveFocus.port = s.port := rfl
@[simp] theorem State.deriveFocus_pool (s : State) : s.deriveFocus.pool = s.pool := rfl
@[simp] theorem State.deriveFocus_shots (s : State) : s.deriveFocus.shots = s.shots := rfl
@[simp] theorem State.deriveFocus_release (s : State) : s.deriveFocus.release = s.release := rfl
@[simp] theorem State.deriveFocus_intake (s : State) : s.deriveFocus.intake = s.intake := rfl
@[simp] theorem State.deriveFocus_phase (s : State) : s.deriveFocus.phase = s.phase := rfl
@[simp] theorem State.deriveFocus_lens (s : State) : s.deriveFocus.lens = s.lens := rfl
@[simp] theorem State.deriveFocus_tables (s : State) : s.deriveFocus.tables = s.tables := rfl
@[simp] theorem State.deriveFocus_engine (s : State) : s.deriveFocus.engine = s.engine := rfl
@[simp] theorem State.deriveFocus_queue (s : State) : s.deriveFocus.queue = s.queue := rfl
@[simp] theorem State.deriveFocus_tport (s : State) : s.deriveFocus.tport = s.tport := rfl
@[simp] theorem State.deriveFocus_req (s : State) : s.deriveFocus.req = s.req := rfl
@[simp] theorem State.deriveFocus_pending (s : State) : s.deriveFocus.pending = s.pending := rfl

/-! `State.dropEntries` -/

@[simp] theorem State.dropEntries_time (s : State) (f : Source → Bool) : (s.dropEntries f).time = s.time := rfl
@[simp] theorem State.dropEntries_mem (s : State) (f : Source → Bool) : (s.dropEntries f).mem = s.mem := rfl
@[simp] theorem State.dropEntries_pins (s : State) (f : Source → Bool) : (s.dropEntries f).pins = s.pins := rfl
@[simp] theorem State.dropEntries_link (s : State) (f : Source → Bool) : (s.dropEntries f).link = s.link := rfl
@[simp] theorem State.dropEntries_windows (s : State) (f : Source → Bool) : (s.dropEntries f).windows = s.windows := rfl
@[simp] theorem State.dropEntries_port (s : State) (f : Source → Bool) : (s.dropEntries f).port = s.port := rfl
@[simp] theorem State.dropEntries_pool (s : State) (f : Source → Bool) : (s.dropEntries f).pool = s.pool := rfl
@[simp] theorem State.dropEntries_shots (s : State) (f : Source → Bool) : (s.dropEntries f).shots = s.shots := rfl
@[simp] theorem State.dropEntries_release (s : State) (f : Source → Bool) : (s.dropEntries f).release = s.release := rfl
@[simp] theorem State.dropEntries_intake (s : State) (f : Source → Bool) : (s.dropEntries f).intake = s.intake := rfl
@[simp] theorem State.dropEntries_phase (s : State) (f : Source → Bool) : (s.dropEntries f).phase = s.phase := rfl
@[simp] theorem State.dropEntries_focus (s : State) (f : Source → Bool) : (s.dropEntries f).focus = s.focus := rfl
@[simp] theorem State.dropEntries_lens (s : State) (f : Source → Bool) : (s.dropEntries f).lens = s.lens := rfl
@[simp] theorem State.dropEntries_tables (s : State) (f : Source → Bool) : (s.dropEntries f).tables = s.tables := rfl
@[simp] theorem State.dropEntries_queue (s : State) (f : Source → Bool) : (s.dropEntries f).queue = s.queue := rfl
@[simp] theorem State.dropEntries_tport (s : State) (f : Source → Bool) : (s.dropEntries f).tport = s.tport := rfl
@[simp] theorem State.dropEntries_req (s : State) (f : Source → Bool) : (s.dropEntries f).req = s.req := rfl
@[simp] theorem State.dropEntries_pending (s : State) (f : Source → Bool) : (s.dropEntries f).pending = s.pending := rfl

/-! `State.streamStart` -/

@[simp] theorem State.streamStart_time (s : State) (t : Stream) : (s.streamStart t).time = s.time := rfl
@[simp] theorem State.streamStart_mem (s : State) (t : Stream) : (s.streamStart t).mem = s.mem := rfl
@[simp] theorem State.streamStart_pins (s : State) (t : Stream) : (s.streamStart t).pins = s.pins := rfl
@[simp] theorem State.streamStart_link (s : State) (t : Stream) : (s.streamStart t).link = s.link := rfl
@[simp] theorem State.streamStart_windows (s : State) (t : Stream) : (s.streamStart t).windows = s.windows := rfl
@[simp] theorem State.streamStart_port (s : State) (t : Stream) : (s.streamStart t).port = s.port := rfl
@[simp] theorem State.streamStart_pool (s : State) (t : Stream) : (s.streamStart t).pool = s.pool := rfl
@[simp] theorem State.streamStart_shots (s : State) (t : Stream) : (s.streamStart t).shots = s.shots := rfl
@[simp] theorem State.streamStart_release (s : State) (t : Stream) : (s.streamStart t).release = s.release := rfl
@[simp] theorem State.streamStart_intake (s : State) (t : Stream) : (s.streamStart t).intake = s.intake := rfl
@[simp] theorem State.streamStart_phase (s : State) (t : Stream) : (s.streamStart t).phase = s.phase := rfl
@[simp] theorem State.streamStart_focus (s : State) (t : Stream) : (s.streamStart t).focus = s.focus := rfl
@[simp] theorem State.streamStart_lens (s : State) (t : Stream) : (s.streamStart t).lens = s.lens := rfl
@[simp] theorem State.streamStart_tables (s : State) (t : Stream) : (s.streamStart t).tables = s.tables := rfl
@[simp] theorem State.streamStart_queue (s : State) (t : Stream) : (s.streamStart t).queue = s.queue := rfl
@[simp] theorem State.streamStart_tport (s : State) (t : Stream) : (s.streamStart t).tport = s.tport := rfl
@[simp] theorem State.streamStart_req (s : State) (t : Stream) : (s.streamStart t).req = s.req := rfl
@[simp] theorem State.streamStart_pending (s : State) (t : Stream) : (s.streamStart t).pending = s.pending := rfl

/-! `State.streamEnd` -/

@[simp] theorem State.streamEnd_time (s : State) : s.streamEnd.time = s.time := rfl
@[simp] theorem State.streamEnd_mem (s : State) : s.streamEnd.mem = s.mem := rfl
@[simp] theorem State.streamEnd_pins (s : State) : s.streamEnd.pins = s.pins := rfl
@[simp] theorem State.streamEnd_link (s : State) : s.streamEnd.link = s.link := rfl
@[simp] theorem State.streamEnd_windows (s : State) : s.streamEnd.windows = s.windows := rfl
@[simp] theorem State.streamEnd_port (s : State) : s.streamEnd.port = s.port := rfl
@[simp] theorem State.streamEnd_pool (s : State) : s.streamEnd.pool = s.pool := rfl
@[simp] theorem State.streamEnd_shots (s : State) : s.streamEnd.shots = s.shots := rfl
@[simp] theorem State.streamEnd_release (s : State) : s.streamEnd.release = s.release := rfl
@[simp] theorem State.streamEnd_intake (s : State) : s.streamEnd.intake = s.intake := rfl
@[simp] theorem State.streamEnd_phase (s : State) : s.streamEnd.phase = s.phase := rfl
@[simp] theorem State.streamEnd_focus (s : State) : s.streamEnd.focus = s.focus := rfl
@[simp] theorem State.streamEnd_lens (s : State) : s.streamEnd.lens = s.lens := rfl
@[simp] theorem State.streamEnd_tables (s : State) : s.streamEnd.tables = s.tables := rfl
@[simp] theorem State.streamEnd_queue (s : State) : s.streamEnd.queue = s.queue := rfl
@[simp] theorem State.streamEnd_tport (s : State) : s.streamEnd.tport = s.tport := rfl
@[simp] theorem State.streamEnd_req (s : State) : s.streamEnd.req = s.req := rfl
@[simp] theorem State.streamEnd_pending (s : State) : s.streamEnd.pending = s.pending := rfl

/-! `State.abandonRaw` -/

@[simp] theorem State.abandonRaw_time (s : State) : s.abandonRaw.time = s.time := rfl
@[simp] theorem State.abandonRaw_mem (s : State) : s.abandonRaw.mem = s.mem := rfl
@[simp] theorem State.abandonRaw_pins (s : State) : s.abandonRaw.pins = s.pins := rfl
@[simp] theorem State.abandonRaw_link (s : State) : s.abandonRaw.link = s.link := rfl
@[simp] theorem State.abandonRaw_windows (s : State) : s.abandonRaw.windows = s.windows := rfl
@[simp] theorem State.abandonRaw_pool (s : State) : s.abandonRaw.pool = s.pool := rfl
@[simp] theorem State.abandonRaw_shots (s : State) : s.abandonRaw.shots = s.shots := rfl
@[simp] theorem State.abandonRaw_release (s : State) : s.abandonRaw.release = s.release := rfl
@[simp] theorem State.abandonRaw_intake (s : State) : s.abandonRaw.intake = s.intake := rfl
@[simp] theorem State.abandonRaw_phase (s : State) : s.abandonRaw.phase = s.phase := rfl
@[simp] theorem State.abandonRaw_focus (s : State) : s.abandonRaw.focus = s.focus := rfl
@[simp] theorem State.abandonRaw_lens (s : State) : s.abandonRaw.lens = s.lens := rfl
@[simp] theorem State.abandonRaw_tables (s : State) : s.abandonRaw.tables = s.tables := rfl
@[simp] theorem State.abandonRaw_engine (s : State) : s.abandonRaw.engine = s.engine := rfl
@[simp] theorem State.abandonRaw_queue (s : State) : s.abandonRaw.queue = s.queue := rfl
@[simp] theorem State.abandonRaw_req (s : State) : s.abandonRaw.req = s.req := rfl
@[simp] theorem State.abandonRaw_pending (s : State) : s.abandonRaw.pending = s.pending := rfl

/-! `State.modifyItem` -/

@[simp] theorem State.modifyItem_time (s : State) (f : Item → Item) : (s.modifyItem f).time = s.time := rfl
@[simp] theorem State.modifyItem_mem (s : State) (f : Item → Item) : (s.modifyItem f).mem = s.mem := rfl
@[simp] theorem State.modifyItem_pins (s : State) (f : Item → Item) : (s.modifyItem f).pins = s.pins := rfl
@[simp] theorem State.modifyItem_link (s : State) (f : Item → Item) : (s.modifyItem f).link = s.link := rfl
@[simp] theorem State.modifyItem_windows (s : State) (f : Item → Item) : (s.modifyItem f).windows = s.windows := rfl
@[simp] theorem State.modifyItem_port (s : State) (f : Item → Item) : (s.modifyItem f).port = s.port := rfl
@[simp] theorem State.modifyItem_pool (s : State) (f : Item → Item) : (s.modifyItem f).pool = s.pool := rfl
@[simp] theorem State.modifyItem_shots (s : State) (f : Item → Item) : (s.modifyItem f).shots = s.shots := rfl
@[simp] theorem State.modifyItem_release (s : State) (f : Item → Item) : (s.modifyItem f).release = s.release := rfl
@[simp] theorem State.modifyItem_intake (s : State) (f : Item → Item) : (s.modifyItem f).intake = s.intake := rfl
@[simp] theorem State.modifyItem_phase (s : State) (f : Item → Item) : (s.modifyItem f).phase = s.phase := rfl
@[simp] theorem State.modifyItem_focus (s : State) (f : Item → Item) : (s.modifyItem f).focus = s.focus := rfl
@[simp] theorem State.modifyItem_lens (s : State) (f : Item → Item) : (s.modifyItem f).lens = s.lens := rfl
@[simp] theorem State.modifyItem_tables (s : State) (f : Item → Item) : (s.modifyItem f).tables = s.tables := rfl
@[simp] theorem State.modifyItem_engine (s : State) (f : Item → Item) : (s.modifyItem f).engine = s.engine := rfl
@[simp] theorem State.modifyItem_queue (s : State) (f : Item → Item) : (s.modifyItem f).queue = s.queue := rfl
@[simp] theorem State.modifyItem_req (s : State) (f : Item → Item) : (s.modifyItem f).req = s.req := rfl
@[simp] theorem State.modifyItem_pending (s : State) (f : Item → Item) : (s.modifyItem f).pending = s.pending := rfl

/-! `State.setPort` -/

@[simp] theorem State.setPort_time (s : State) (p : PortState) : (s.setPort p).time = s.time := rfl
@[simp] theorem State.setPort_mem (s : State) (p : PortState) : (s.setPort p).mem = s.mem := rfl
@[simp] theorem State.setPort_pins (s : State) (p : PortState) : (s.setPort p).pins = s.pins := rfl
@[simp] theorem State.setPort_link (s : State) (p : PortState) : (s.setPort p).link = s.link := rfl
@[simp] theorem State.setPort_windows (s : State) (p : PortState) : (s.setPort p).windows = s.windows := rfl
@[simp] theorem State.setPort_port (s : State) (p : PortState) : (s.setPort p).port = s.port := rfl
@[simp] theorem State.setPort_pool (s : State) (p : PortState) : (s.setPort p).pool = s.pool := rfl
@[simp] theorem State.setPort_shots (s : State) (p : PortState) : (s.setPort p).shots = s.shots := rfl
@[simp] theorem State.setPort_release (s : State) (p : PortState) : (s.setPort p).release = s.release := rfl
@[simp] theorem State.setPort_intake (s : State) (p : PortState) : (s.setPort p).intake = s.intake := rfl
@[simp] theorem State.setPort_phase (s : State) (p : PortState) : (s.setPort p).phase = s.phase := rfl
@[simp] theorem State.setPort_focus (s : State) (p : PortState) : (s.setPort p).focus = s.focus := rfl
@[simp] theorem State.setPort_lens (s : State) (p : PortState) : (s.setPort p).lens = s.lens := rfl
@[simp] theorem State.setPort_tables (s : State) (p : PortState) : (s.setPort p).tables = s.tables := rfl
@[simp] theorem State.setPort_engine (s : State) (p : PortState) : (s.setPort p).engine = s.engine := rfl
@[simp] theorem State.setPort_queue (s : State) (p : PortState) : (s.setPort p).queue = s.queue := rfl
@[simp] theorem State.setPort_req (s : State) (p : PortState) : (s.setPort p).req = s.req := rfl
@[simp] theorem State.setPort_pending (s : State) (p : PortState) : (s.setPort p).pending = s.pending := rfl

/-! `State.portIdle` -/

@[simp] theorem State.portIdle_time (s : State) : s.portIdle.time = s.time := rfl
@[simp] theorem State.portIdle_mem (s : State) : s.portIdle.mem = s.mem := rfl
@[simp] theorem State.portIdle_pins (s : State) : s.portIdle.pins = s.pins := rfl
@[simp] theorem State.portIdle_link (s : State) : s.portIdle.link = s.link := rfl
@[simp] theorem State.portIdle_windows (s : State) : s.portIdle.windows = s.windows := rfl
@[simp] theorem State.portIdle_port (s : State) : s.portIdle.port = s.port := rfl
@[simp] theorem State.portIdle_pool (s : State) : s.portIdle.pool = s.pool := rfl
@[simp] theorem State.portIdle_shots (s : State) : s.portIdle.shots = s.shots := rfl
@[simp] theorem State.portIdle_release (s : State) : s.portIdle.release = s.release := rfl
@[simp] theorem State.portIdle_intake (s : State) : s.portIdle.intake = s.intake := rfl
@[simp] theorem State.portIdle_phase (s : State) : s.portIdle.phase = s.phase := rfl
@[simp] theorem State.portIdle_focus (s : State) : s.portIdle.focus = s.focus := rfl
@[simp] theorem State.portIdle_lens (s : State) : s.portIdle.lens = s.lens := rfl
@[simp] theorem State.portIdle_tables (s : State) : s.portIdle.tables = s.tables := rfl
@[simp] theorem State.portIdle_engine (s : State) : s.portIdle.engine = s.engine := rfl
@[simp] theorem State.portIdle_queue (s : State) : s.portIdle.queue = s.queue := rfl
@[simp] theorem State.portIdle_req (s : State) : s.portIdle.req = s.req := rfl
@[simp] theorem State.portIdle_pending (s : State) : s.portIdle.pending = s.pending := rfl

/-! `State.setStep` -/

@[simp] theorem State.setStep_time (s : State) (h : Handshake) : (s.setStep h).time = s.time := rfl
@[simp] theorem State.setStep_mem (s : State) (h : Handshake) : (s.setStep h).mem = s.mem := rfl
@[simp] theorem State.setStep_pins (s : State) (h : Handshake) : (s.setStep h).pins = s.pins := rfl
@[simp] theorem State.setStep_link (s : State) (h : Handshake) : (s.setStep h).link = s.link := rfl
@[simp] theorem State.setStep_windows (s : State) (h : Handshake) : (s.setStep h).windows = s.windows := rfl
@[simp] theorem State.setStep_port (s : State) (h : Handshake) : (s.setStep h).port = s.port := rfl
@[simp] theorem State.setStep_pool (s : State) (h : Handshake) : (s.setStep h).pool = s.pool := rfl
@[simp] theorem State.setStep_shots (s : State) (h : Handshake) : (s.setStep h).shots = s.shots := rfl
@[simp] theorem State.setStep_release (s : State) (h : Handshake) : (s.setStep h).release = s.release := rfl
@[simp] theorem State.setStep_intake (s : State) (h : Handshake) : (s.setStep h).intake = s.intake := rfl
@[simp] theorem State.setStep_phase (s : State) (h : Handshake) : (s.setStep h).phase = s.phase := rfl
@[simp] theorem State.setStep_focus (s : State) (h : Handshake) : (s.setStep h).focus = s.focus := rfl
@[simp] theorem State.setStep_lens (s : State) (h : Handshake) : (s.setStep h).lens = s.lens := rfl
@[simp] theorem State.setStep_tables (s : State) (h : Handshake) : (s.setStep h).tables = s.tables := rfl
@[simp] theorem State.setStep_engine (s : State) (h : Handshake) : (s.setStep h).engine = s.engine := rfl
@[simp] theorem State.setStep_queue (s : State) (h : Handshake) : (s.setStep h).queue = s.queue := rfl
@[simp] theorem State.setStep_req (s : State) (h : Handshake) : (s.setStep h).req = s.req := rfl
@[simp] theorem State.setStep_pending (s : State) (h : Handshake) : (s.setStep h).pending = s.pending := rfl

/-! `State.openPhase` -/

@[simp] theorem State.openPhase_time (s : State) (c : FrameCopy) : (s.openPhase c).time = s.time := rfl
@[simp] theorem State.openPhase_mem (s : State) (c : FrameCopy) : (s.openPhase c).mem = s.mem := rfl
@[simp] theorem State.openPhase_pins (s : State) (c : FrameCopy) : (s.openPhase c).pins = s.pins := rfl
@[simp] theorem State.openPhase_link (s : State) (c : FrameCopy) : (s.openPhase c).link = s.link := rfl
@[simp] theorem State.openPhase_windows (s : State) (c : FrameCopy) : (s.openPhase c).windows = s.windows := rfl
@[simp] theorem State.openPhase_port (s : State) (c : FrameCopy) : (s.openPhase c).port = s.port := rfl
@[simp] theorem State.openPhase_pool (s : State) (c : FrameCopy) : (s.openPhase c).pool = s.pool := rfl
@[simp] theorem State.openPhase_shots (s : State) (c : FrameCopy) : (s.openPhase c).shots = s.shots := rfl
@[simp] theorem State.openPhase_release (s : State) (c : FrameCopy) : (s.openPhase c).release = s.release := rfl
@[simp] theorem State.openPhase_intake (s : State) (c : FrameCopy) : (s.openPhase c).intake = s.intake := rfl
@[simp] theorem State.openPhase_focus (s : State) (c : FrameCopy) : (s.openPhase c).focus = s.focus := rfl
@[simp] theorem State.openPhase_lens (s : State) (c : FrameCopy) : (s.openPhase c).lens = s.lens := rfl
@[simp] theorem State.openPhase_tables (s : State) (c : FrameCopy) : (s.openPhase c).tables = s.tables := rfl
@[simp] theorem State.openPhase_engine (s : State) (c : FrameCopy) : (s.openPhase c).engine = s.engine := rfl
@[simp] theorem State.openPhase_queue (s : State) (c : FrameCopy) : (s.openPhase c).queue = s.queue := rfl
@[simp] theorem State.openPhase_tport (s : State) (c : FrameCopy) : (s.openPhase c).tport = s.tport := rfl
@[simp] theorem State.openPhase_req (s : State) (c : FrameCopy) : (s.openPhase c).req = s.req := rfl
@[simp] theorem State.openPhase_pending (s : State) (c : FrameCopy) : (s.openPhase c).pending = s.pending := rfl

/-! `State.closePhase` -/

@[simp] theorem State.closePhase_time (s : State) : s.closePhase.time = s.time := rfl
@[simp] theorem State.closePhase_mem (s : State) : s.closePhase.mem = s.mem := rfl
@[simp] theorem State.closePhase_pins (s : State) : s.closePhase.pins = s.pins := rfl
@[simp] theorem State.closePhase_link (s : State) : s.closePhase.link = s.link := rfl
@[simp] theorem State.closePhase_windows (s : State) : s.closePhase.windows = s.windows := rfl
@[simp] theorem State.closePhase_port (s : State) : s.closePhase.port = s.port := rfl
@[simp] theorem State.closePhase_pool (s : State) : s.closePhase.pool = s.pool := rfl
@[simp] theorem State.closePhase_shots (s : State) : s.closePhase.shots = s.shots := rfl
@[simp] theorem State.closePhase_release (s : State) : s.closePhase.release = s.release := rfl
@[simp] theorem State.closePhase_intake (s : State) : s.closePhase.intake = s.intake := rfl
@[simp] theorem State.closePhase_focus (s : State) : s.closePhase.focus = s.focus := rfl
@[simp] theorem State.closePhase_lens (s : State) : s.closePhase.lens = s.lens := rfl
@[simp] theorem State.closePhase_tables (s : State) : s.closePhase.tables = s.tables := rfl
@[simp] theorem State.closePhase_engine (s : State) : s.closePhase.engine = s.engine := rfl
@[simp] theorem State.closePhase_queue (s : State) : s.closePhase.queue = s.queue := rfl
@[simp] theorem State.closePhase_tport (s : State) : s.closePhase.tport = s.tport := rfl
@[simp] theorem State.closePhase_req (s : State) : s.closePhase.req = s.req := rfl
@[simp] theorem State.closePhase_pending (s : State) : s.closePhase.pending = s.pending := rfl

/-! `State.closeFrame` -/

@[simp] theorem State.closeFrame_time (s : State) : s.closeFrame.time = s.time := rfl
@[simp] theorem State.closeFrame_mem (s : State) : s.closeFrame.mem = s.mem := rfl
@[simp] theorem State.closeFrame_pins (s : State) : s.closeFrame.pins = s.pins := rfl
@[simp] theorem State.closeFrame_link (s : State) : s.closeFrame.link = s.link := rfl
@[simp] theorem State.closeFrame_windows (s : State) : s.closeFrame.windows = s.windows := rfl
@[simp] theorem State.closeFrame_port (s : State) : s.closeFrame.port = s.port := rfl
@[simp] theorem State.closeFrame_pool (s : State) : s.closeFrame.pool = s.pool := rfl
@[simp] theorem State.closeFrame_shots (s : State) : s.closeFrame.shots = s.shots := rfl
@[simp] theorem State.closeFrame_release (s : State) : s.closeFrame.release = s.release := rfl
@[simp] theorem State.closeFrame_phase (s : State) : s.closeFrame.phase = s.phase := rfl
@[simp] theorem State.closeFrame_focus (s : State) : s.closeFrame.focus = s.focus := rfl
@[simp] theorem State.closeFrame_lens (s : State) : s.closeFrame.lens = s.lens := rfl
@[simp] theorem State.closeFrame_tables (s : State) : s.closeFrame.tables = s.tables := rfl
@[simp] theorem State.closeFrame_engine (s : State) : s.closeFrame.engine = s.engine := rfl
@[simp] theorem State.closeFrame_queue (s : State) : s.closeFrame.queue = s.queue := rfl
@[simp] theorem State.closeFrame_tport (s : State) : s.closeFrame.tport = s.tport := rfl
@[simp] theorem State.closeFrame_req (s : State) : s.closeFrame.req = s.req := rfl
@[simp] theorem State.closeFrame_pending (s : State) : s.closeFrame.pending = s.pending := rfl

/-! `State.releaseReservation` -/

@[simp] theorem State.releaseReservation_time (s : State) : s.releaseReservation.time = s.time := rfl
@[simp] theorem State.releaseReservation_mem (s : State) : s.releaseReservation.mem = s.mem := rfl
@[simp] theorem State.releaseReservation_pins (s : State) : s.releaseReservation.pins = s.pins := rfl
@[simp] theorem State.releaseReservation_link (s : State) : s.releaseReservation.link = s.link := rfl
@[simp] theorem State.releaseReservation_windows (s : State) : s.releaseReservation.windows = s.windows := rfl
@[simp] theorem State.releaseReservation_port (s : State) : s.releaseReservation.port = s.port := rfl
@[simp] theorem State.releaseReservation_shots (s : State) : s.releaseReservation.shots = s.shots := rfl
@[simp] theorem State.releaseReservation_release (s : State) : s.releaseReservation.release = s.release := rfl
@[simp] theorem State.releaseReservation_intake (s : State) : s.releaseReservation.intake = s.intake := rfl
@[simp] theorem State.releaseReservation_phase (s : State) : s.releaseReservation.phase = s.phase := rfl
@[simp] theorem State.releaseReservation_focus (s : State) : s.releaseReservation.focus = s.focus := rfl
@[simp] theorem State.releaseReservation_lens (s : State) : s.releaseReservation.lens = s.lens := rfl
@[simp] theorem State.releaseReservation_tables (s : State) : s.releaseReservation.tables = s.tables := rfl
@[simp] theorem State.releaseReservation_engine (s : State) : s.releaseReservation.engine = s.engine := rfl
@[simp] theorem State.releaseReservation_queue (s : State) : s.releaseReservation.queue = s.queue := rfl
@[simp] theorem State.releaseReservation_tport (s : State) : s.releaseReservation.tport = s.tport := rfl
@[simp] theorem State.releaseReservation_req (s : State) : s.releaseReservation.req = s.req := rfl
@[simp] theorem State.releaseReservation_pending (s : State) : s.releaseReservation.pending = s.pending := rfl

/-! `State.setView` -/

@[simp] theorem State.setView_time (s : State) (v : Fin 4) (x : Option View) : (s.setView v x).time = s.time := rfl
@[simp] theorem State.setView_mem (s : State) (v : Fin 4) (x : Option View) : (s.setView v x).mem = s.mem := rfl
@[simp] theorem State.setView_pins (s : State) (v : Fin 4) (x : Option View) : (s.setView v x).pins = s.pins := rfl
@[simp] theorem State.setView_link (s : State) (v : Fin 4) (x : Option View) : (s.setView v x).link = s.link := rfl
@[simp] theorem State.setView_port (s : State) (v : Fin 4) (x : Option View) : (s.setView v x).port = s.port := rfl
@[simp] theorem State.setView_pool (s : State) (v : Fin 4) (x : Option View) : (s.setView v x).pool = s.pool := rfl
@[simp] theorem State.setView_shots (s : State) (v : Fin 4) (x : Option View) : (s.setView v x).shots = s.shots := rfl
@[simp] theorem State.setView_release (s : State) (v : Fin 4) (x : Option View) : (s.setView v x).release = s.release := rfl
@[simp] theorem State.setView_intake (s : State) (v : Fin 4) (x : Option View) : (s.setView v x).intake = s.intake := rfl
@[simp] theorem State.setView_phase (s : State) (v : Fin 4) (x : Option View) : (s.setView v x).phase = s.phase := rfl
@[simp] theorem State.setView_focus (s : State) (v : Fin 4) (x : Option View) : (s.setView v x).focus = s.focus := rfl
@[simp] theorem State.setView_lens (s : State) (v : Fin 4) (x : Option View) : (s.setView v x).lens = s.lens := rfl
@[simp] theorem State.setView_tables (s : State) (v : Fin 4) (x : Option View) : (s.setView v x).tables = s.tables := rfl
@[simp] theorem State.setView_engine (s : State) (v : Fin 4) (x : Option View) : (s.setView v x).engine = s.engine := rfl
@[simp] theorem State.setView_queue (s : State) (v : Fin 4) (x : Option View) : (s.setView v x).queue = s.queue := rfl
@[simp] theorem State.setView_tport (s : State) (v : Fin 4) (x : Option View) : (s.setView v x).tport = s.tport := rfl
@[simp] theorem State.setView_req (s : State) (v : Fin 4) (x : Option View) : (s.setView v x).req = s.req := rfl
@[simp] theorem State.setView_pending (s : State) (v : Fin 4) (x : Option View) : (s.setView v x).pending = s.pending := rfl

/-! `State.setOrdinary` -/

@[simp] theorem State.setOrdinary_time (s : State) (l : List LaneEntry) : (s.setOrdinary l).time = s.time := rfl
@[simp] theorem State.setOrdinary_mem (s : State) (l : List LaneEntry) : (s.setOrdinary l).mem = s.mem := rfl
@[simp] theorem State.setOrdinary_pins (s : State) (l : List LaneEntry) : (s.setOrdinary l).pins = s.pins := rfl
@[simp] theorem State.setOrdinary_windows (s : State) (l : List LaneEntry) : (s.setOrdinary l).windows = s.windows := rfl
@[simp] theorem State.setOrdinary_port (s : State) (l : List LaneEntry) : (s.setOrdinary l).port = s.port := rfl
@[simp] theorem State.setOrdinary_pool (s : State) (l : List LaneEntry) : (s.setOrdinary l).pool = s.pool := rfl
@[simp] theorem State.setOrdinary_shots (s : State) (l : List LaneEntry) : (s.setOrdinary l).shots = s.shots := rfl
@[simp] theorem State.setOrdinary_release (s : State) (l : List LaneEntry) : (s.setOrdinary l).release = s.release := rfl
@[simp] theorem State.setOrdinary_intake (s : State) (l : List LaneEntry) : (s.setOrdinary l).intake = s.intake := rfl
@[simp] theorem State.setOrdinary_phase (s : State) (l : List LaneEntry) : (s.setOrdinary l).phase = s.phase := rfl
@[simp] theorem State.setOrdinary_focus (s : State) (l : List LaneEntry) : (s.setOrdinary l).focus = s.focus := rfl
@[simp] theorem State.setOrdinary_lens (s : State) (l : List LaneEntry) : (s.setOrdinary l).lens = s.lens := rfl
@[simp] theorem State.setOrdinary_tables (s : State) (l : List LaneEntry) : (s.setOrdinary l).tables = s.tables := rfl
@[simp] theorem State.setOrdinary_engine (s : State) (l : List LaneEntry) : (s.setOrdinary l).engine = s.engine := rfl
@[simp] theorem State.setOrdinary_queue (s : State) (l : List LaneEntry) : (s.setOrdinary l).queue = s.queue := rfl
@[simp] theorem State.setOrdinary_tport (s : State) (l : List LaneEntry) : (s.setOrdinary l).tport = s.tport := rfl
@[simp] theorem State.setOrdinary_req (s : State) (l : List LaneEntry) : (s.setOrdinary l).req = s.req := rfl
@[simp] theorem State.setOrdinary_pending (s : State) (l : List LaneEntry) : (s.setOrdinary l).pending = s.pending := rfl

/-! `State.spendCredit` -/

@[simp] theorem State.spendCredit_time (s : State) : s.spendCredit.time = s.time := rfl
@[simp] theorem State.spendCredit_mem (s : State) : s.spendCredit.mem = s.mem := rfl
@[simp] theorem State.spendCredit_pins (s : State) : s.spendCredit.pins = s.pins := rfl
@[simp] theorem State.spendCredit_windows (s : State) : s.spendCredit.windows = s.windows := rfl
@[simp] theorem State.spendCredit_port (s : State) : s.spendCredit.port = s.port := rfl
@[simp] theorem State.spendCredit_pool (s : State) : s.spendCredit.pool = s.pool := rfl
@[simp] theorem State.spendCredit_shots (s : State) : s.spendCredit.shots = s.shots := rfl
@[simp] theorem State.spendCredit_release (s : State) : s.spendCredit.release = s.release := rfl
@[simp] theorem State.spendCredit_intake (s : State) : s.spendCredit.intake = s.intake := rfl
@[simp] theorem State.spendCredit_phase (s : State) : s.spendCredit.phase = s.phase := rfl
@[simp] theorem State.spendCredit_focus (s : State) : s.spendCredit.focus = s.focus := rfl
@[simp] theorem State.spendCredit_lens (s : State) : s.spendCredit.lens = s.lens := rfl
@[simp] theorem State.spendCredit_tables (s : State) : s.spendCredit.tables = s.tables := rfl
@[simp] theorem State.spendCredit_engine (s : State) : s.spendCredit.engine = s.engine := rfl
@[simp] theorem State.spendCredit_queue (s : State) : s.spendCredit.queue = s.queue := rfl
@[simp] theorem State.spendCredit_tport (s : State) : s.spendCredit.tport = s.tport := rfl
@[simp] theorem State.spendCredit_req (s : State) : s.spendCredit.req = s.req := rfl
@[simp] theorem State.spendCredit_pending (s : State) : s.spendCredit.pending = s.pending := rfl

/-! `State.setPulses` -/

@[simp] theorem State.setPulses_time (s : State) (l : List Pulse) : (s.setPulses l).time = s.time := rfl
@[simp] theorem State.setPulses_mem (s : State) (l : List Pulse) : (s.setPulses l).mem = s.mem := rfl
@[simp] theorem State.setPulses_pins (s : State) (l : List Pulse) : (s.setPulses l).pins = s.pins := rfl
@[simp] theorem State.setPulses_link (s : State) (l : List Pulse) : (s.setPulses l).link = s.link := rfl
@[simp] theorem State.setPulses_windows (s : State) (l : List Pulse) : (s.setPulses l).windows = s.windows := rfl
@[simp] theorem State.setPulses_port (s : State) (l : List Pulse) : (s.setPulses l).port = s.port := rfl
@[simp] theorem State.setPulses_pool (s : State) (l : List Pulse) : (s.setPulses l).pool = s.pool := rfl
@[simp] theorem State.setPulses_shots (s : State) (l : List Pulse) : (s.setPulses l).shots = s.shots := rfl
@[simp] theorem State.setPulses_intake (s : State) (l : List Pulse) : (s.setPulses l).intake = s.intake := rfl
@[simp] theorem State.setPulses_phase (s : State) (l : List Pulse) : (s.setPulses l).phase = s.phase := rfl
@[simp] theorem State.setPulses_focus (s : State) (l : List Pulse) : (s.setPulses l).focus = s.focus := rfl
@[simp] theorem State.setPulses_lens (s : State) (l : List Pulse) : (s.setPulses l).lens = s.lens := rfl
@[simp] theorem State.setPulses_tables (s : State) (l : List Pulse) : (s.setPulses l).tables = s.tables := rfl
@[simp] theorem State.setPulses_engine (s : State) (l : List Pulse) : (s.setPulses l).engine = s.engine := rfl
@[simp] theorem State.setPulses_queue (s : State) (l : List Pulse) : (s.setPulses l).queue = s.queue := rfl
@[simp] theorem State.setPulses_tport (s : State) (l : List Pulse) : (s.setPulses l).tport = s.tport := rfl
@[simp] theorem State.setPulses_req (s : State) (l : List Pulse) : (s.setPulses l).req = s.req := rfl
@[simp] theorem State.setPulses_pending (s : State) (l : List Pulse) : (s.setPulses l).pending = s.pending := rfl

/-! `State.tick` -/

@[simp] theorem State.tick_mem (s : State) : s.tick.mem = s.mem := rfl
@[simp] theorem State.tick_pins (s : State) : s.tick.pins = s.pins := rfl
@[simp] theorem State.tick_link (s : State) : s.tick.link = s.link := rfl
@[simp] theorem State.tick_windows (s : State) : s.tick.windows = s.windows := rfl
@[simp] theorem State.tick_port (s : State) : s.tick.port = s.port := rfl
@[simp] theorem State.tick_pool (s : State) : s.tick.pool = s.pool := rfl
@[simp] theorem State.tick_shots (s : State) : s.tick.shots = s.shots := rfl
@[simp] theorem State.tick_release (s : State) : s.tick.release = s.release := rfl
@[simp] theorem State.tick_intake (s : State) : s.tick.intake = s.intake := rfl
@[simp] theorem State.tick_phase (s : State) : s.tick.phase = s.phase := rfl
@[simp] theorem State.tick_focus (s : State) : s.tick.focus = s.focus := rfl
@[simp] theorem State.tick_lens (s : State) : s.tick.lens = s.lens := rfl
@[simp] theorem State.tick_tables (s : State) : s.tick.tables = s.tables := rfl
@[simp] theorem State.tick_engine (s : State) : s.tick.engine = s.engine := rfl
@[simp] theorem State.tick_queue (s : State) : s.tick.queue = s.queue := rfl
@[simp] theorem State.tick_tport (s : State) : s.tick.tport = s.tport := rfl
@[simp] theorem State.tick_req (s : State) : s.tick.req = s.req := rfl
@[simp] theorem State.tick_pending (s : State) : s.tick.pending = s.pending := rfl

/-! Updates by line and by group -/

@[simp] theorem State.setDebouncer_time (s : State) (l : Line) (d : Debouncer) : (s.setDebouncer l d).time = s.time := by cases l <;> rfl
@[simp] theorem State.setDebouncer_mem (s : State) (l : Line) (d : Debouncer) : (s.setDebouncer l d).mem = s.mem := by cases l <;> rfl
@[simp] theorem State.setDebouncer_pins (s : State) (l : Line) (d : Debouncer) : (s.setDebouncer l d).pins = s.pins := by cases l <;> rfl
@[simp] theorem State.setDebouncer_link (s : State) (l : Line) (d : Debouncer) : (s.setDebouncer l d).link = s.link := by cases l <;> rfl
@[simp] theorem State.setDebouncer_windows (s : State) (l : Line) (d : Debouncer) : (s.setDebouncer l d).windows = s.windows := by cases l <;> rfl
@[simp] theorem State.setDebouncer_port (s : State) (l : Line) (d : Debouncer) : (s.setDebouncer l d).port = s.port := by cases l <;> rfl
@[simp] theorem State.setDebouncer_pool (s : State) (l : Line) (d : Debouncer) : (s.setDebouncer l d).pool = s.pool := by cases l <;> rfl
@[simp] theorem State.setDebouncer_shots (s : State) (l : Line) (d : Debouncer) : (s.setDebouncer l d).shots = s.shots := by cases l <;> rfl
@[simp] theorem State.setDebouncer_intake (s : State) (l : Line) (d : Debouncer) : (s.setDebouncer l d).intake = s.intake := by cases l <;> rfl
@[simp] theorem State.setDebouncer_phase (s : State) (l : Line) (d : Debouncer) : (s.setDebouncer l d).phase = s.phase := by cases l <;> rfl
@[simp] theorem State.setDebouncer_focus (s : State) (l : Line) (d : Debouncer) : (s.setDebouncer l d).focus = s.focus := by cases l <;> rfl
@[simp] theorem State.setDebouncer_lens (s : State) (l : Line) (d : Debouncer) : (s.setDebouncer l d).lens = s.lens := by cases l <;> rfl
@[simp] theorem State.setDebouncer_tables (s : State) (l : Line) (d : Debouncer) : (s.setDebouncer l d).tables = s.tables := by cases l <;> rfl
@[simp] theorem State.setDebouncer_engine (s : State) (l : Line) (d : Debouncer) : (s.setDebouncer l d).engine = s.engine := by cases l <;> rfl
@[simp] theorem State.setDebouncer_queue (s : State) (l : Line) (d : Debouncer) : (s.setDebouncer l d).queue = s.queue := by cases l <;> rfl
@[simp] theorem State.setDebouncer_tport (s : State) (l : Line) (d : Debouncer) : (s.setDebouncer l d).tport = s.tport := by cases l <;> rfl
@[simp] theorem State.setDebouncer_req (s : State) (l : Line) (d : Debouncer) : (s.setDebouncer l d).req = s.req := by cases l <;> rfl
@[simp] theorem State.setDebouncer_pending (s : State) (l : Line) (d : Debouncer) : (s.setDebouncer l d).pending = s.pending := by cases l <;> rfl
@[simp] theorem State.setGroup_time (s : State) (g : Group) (d : GroupDrive) : (s.setGroup g d).time = s.time := by cases g <;> rfl
@[simp] theorem State.setGroup_mem (s : State) (g : Group) (d : GroupDrive) : (s.setGroup g d).mem = s.mem := by cases g <;> rfl
@[simp] theorem State.setGroup_pins (s : State) (g : Group) (d : GroupDrive) : (s.setGroup g d).pins = s.pins := by cases g <;> rfl
@[simp] theorem State.setGroup_link (s : State) (g : Group) (d : GroupDrive) : (s.setGroup g d).link = s.link := by cases g <;> rfl
@[simp] theorem State.setGroup_windows (s : State) (g : Group) (d : GroupDrive) : (s.setGroup g d).windows = s.windows := by cases g <;> rfl
@[simp] theorem State.setGroup_port (s : State) (g : Group) (d : GroupDrive) : (s.setGroup g d).port = s.port := by cases g <;> rfl
@[simp] theorem State.setGroup_pool (s : State) (g : Group) (d : GroupDrive) : (s.setGroup g d).pool = s.pool := by cases g <;> rfl
@[simp] theorem State.setGroup_shots (s : State) (g : Group) (d : GroupDrive) : (s.setGroup g d).shots = s.shots := by cases g <;> rfl
@[simp] theorem State.setGroup_release (s : State) (g : Group) (d : GroupDrive) : (s.setGroup g d).release = s.release := by cases g <;> rfl
@[simp] theorem State.setGroup_intake (s : State) (g : Group) (d : GroupDrive) : (s.setGroup g d).intake = s.intake := by cases g <;> rfl
@[simp] theorem State.setGroup_phase (s : State) (g : Group) (d : GroupDrive) : (s.setGroup g d).phase = s.phase := by cases g <;> rfl
@[simp] theorem State.setGroup_focus (s : State) (g : Group) (d : GroupDrive) : (s.setGroup g d).focus = s.focus := by cases g <;> rfl
@[simp] theorem State.setGroup_tables (s : State) (g : Group) (d : GroupDrive) : (s.setGroup g d).tables = s.tables := by cases g <;> rfl
@[simp] theorem State.setGroup_engine (s : State) (g : Group) (d : GroupDrive) : (s.setGroup g d).engine = s.engine := by cases g <;> rfl
@[simp] theorem State.setGroup_queue (s : State) (g : Group) (d : GroupDrive) : (s.setGroup g d).queue = s.queue := by cases g <;> rfl
@[simp] theorem State.setGroup_tport (s : State) (g : Group) (d : GroupDrive) : (s.setGroup g d).tport = s.tport := by cases g <;> rfl
@[simp] theorem State.setGroup_req (s : State) (g : Group) (d : GroupDrive) : (s.setGroup g d).req = s.req := by cases g <;> rfl
@[simp] theorem State.setGroup_pending (s : State) (g : Group) (d : GroupDrive) : (s.setGroup g d).pending = s.pending := by cases g <;> rfl

/-! What the updates write -/

@[simp] theorem State.setGroup_same (s : State) (g : Group) (d : GroupDrive) : (s.setGroup g d).lens.group g = d := by
  cases g <;> rfl
@[simp] theorem State.setDebouncer_same (s : State) (l : Line) (d : Debouncer) : (s.setDebouncer l d).debouncer l = d := by
  cases l <;> rfl
@[simp] theorem State.mark_causes (s : State) (r : ReportRecord) : (s.mark r).req.causes = s.req.causes := rfl
@[simp] theorem State.mark_slots (s : State) (r : ReportRecord) : (s.mark r).req.slots = s.req.slots := rfl
@[simp] theorem State.raise_causes (s : State) (c : Cause) : (s.raise c).req.causes = s.req.causes ||| c.bit := rfl
@[simp] theorem State.raise_slots (s : State) (c : Cause) : (s.raise c).req.slots = s.req.slots := rfl
@[simp] theorem State.raise_mask (s : State) (c : Cause) : (s.raise c).req.mask = s.req.mask := rfl
@[simp] theorem State.mark_mask (s : State) (r : ReportRecord) : (s.mark r).req.mask = s.req.mask := rfl
@[simp] theorem State.finishEvent_causes (s o : State) : (s.finishEvent o).req.causes = s.req.causes := rfl
@[simp] theorem State.finishEvent_slots (s o : State) : (s.finishEvent o).req.slots = s.req.slots := rfl
@[simp] theorem State.finishEvent_mask (s o : State) : (s.finishEvent o).req.mask = s.req.mask := rfl
@[simp] theorem State.finishEvent_shown (s o : State) : (s.finishEvent o).req.shown = s.req.shown := rfl
@[simp] theorem State.setSlot_slots (s : State) (i : Fin 8) (x : Slot) : (s.setSlot i x).req.slots = s.req.slots.set i x := rfl
@[simp] theorem State.setSlot_causes (s : State) (i : Fin 8) (x : Slot) : (s.setSlot i x).req.causes = s.req.causes := rfl
@[simp] theorem State.take_slots (s : State) (i : Fin 8) : (s.take i).req.slots = s.req.slots.set i s.req.slots[i].take := rfl
@[simp] theorem State.take_causes (s : State) (i : Fin 8) : (s.take i).req.causes = s.req.causes := rfl
@[simp] theorem State.complete_causes (s : State) (i : Fin 8) (c : ResultCode) (b : Beat) :
    (s.complete i c b).req.causes = s.req.causes ||| Cause.requestDone.bit := rfl
@[simp] theorem State.complete_slots (s : State) (i : Fin 8) (c : ResultCode) (b : Beat) :
    (s.complete i c b).req.slots = s.req.slots.set i (s.req.slots[i].withResult c b) := rfl
@[simp] theorem State.complete_mask (s : State) (i : Fin 8) (c : ResultCode) (b : Beat) :
    (s.complete i c b).req.mask = s.req.mask := rfl
@[simp] theorem State.refuse_slots (s : State) (i : Fin 8) (c : ResultCode) :
    (s.refuse i c).req.slots = s.req.slots.set i (s.req.slots[i].withResult c 0) := rfl
@[simp] theorem State.setView_views (s : State) (v : Fin 4) (x : Option View) :
    (s.setView v x).windows.views = s.windows.views.set v x := rfl
@[simp] theorem State.setOrdinary_ordinary (s : State) (l : List LaneEntry) : (s.setOrdinary l).link.ordinary = l := rfl
@[simp] theorem State.setOrdinary_credits (s : State) (l : List LaneEntry) : (s.setOrdinary l).link.credits = s.link.credits := rfl
@[simp] theorem State.setRecord_same (s : State) (i : Fin 48) (r : Option Shot) : (s.setRecord i r).record i = r := by
  simp [State.record, State.setRecord]
theorem State.setRecord_other (s : State) (i j : Fin 48) (r : Option Shot) (h : j ≠ i) : (s.setRecord i r).record j = s.record j := by
  have : i.val ≠ j.val := fun e => h (Fin.ext e.symm)
  simp [State.record, State.setRecord, this]
@[simp] theorem State.modifyShot_same (s : State) (i : Fin 48) (f : Shot → Shot) : (s.modifyShot i f).record i = (s.record i).map f := by
  simp [State.modifyShot]
theorem State.modifyShot_other (s : State) (i j : Fin 48) (f : Shot → Shot) (h : j ≠ i) :
    (s.modifyShot i f).record j = s.record j := s.setRecord_other i j _ h

end Sys2Proof.Machine
end

