-- ==== Sys2Proof/Laws/Frames.lean ====
section
/-! SUPPORT. What the shared operations leave alone, once for each, and what `State.settle` is in a state at rest. -/

namespace Sys2Proof.Machine

/-- What neither the freeing of records nor anything that follows an event by itself ever changes. Pending causes only grow. -/
structure State.Steady (s t : State) : Prop where
  time : t.time = s.time
  mem : t.mem = s.mem
  pins : t.pins = s.pins
  tables : t.tables = s.tables
  windows : t.windows = s.windows
  lens : t.lens = s.lens
  pending : t.pending = s.pending
  started : t.link.started = s.link.started
  report : t.port.report = s.port.report
  settings : t.port.settings = s.port.settings
  passageRun : t.port.passageRun = s.port.passageRun
  lastServed : t.port.lastServed = s.port.lastServed
  configured : t.pool.configured = s.pool.configured
  first : t.pool.first = s.pool.first
  last : t.pool.last = s.pool.last
  livePages : t.pool.livePages = s.pool.livePages
  slots : t.req.slots = s.req.slots
  mask : t.req.mask = s.req.mask
  shown : t.req.shown = s.req.shown
  reportList : t.req.reportList = s.req.reportList
  statusCount : t.req.statusCount = s.req.statusCount
  mirrorCounts : t.req.mirrorCounts = s.req.mirrorCounts
  zoneSerial : t.req.zoneSerial = s.req.zoneSerial
  causes : ∀ c, s.pendingCause c = true → t.pendingCause c = true

theorem State.Steady.refl (s : State) : s.Steady s := by
  constructor <;> first | rfl | exact fun _ h => h

theorem State.Steady.trans {s t u : State} (h : s.Steady t) (k : t.Steady u) : s.Steady u where
  time := k.time.trans h.time
  mem := k.mem.trans h.mem
  pins := k.pins.trans h.pins
  tables := k.tables.trans h.tables
  windows := k.windows.trans h.windows
  lens := k.lens.trans h.lens
  pending := k.pending.trans h.pending
  started := k.started.trans h.started
  report := k.report.trans h.report
  settings := k.settings.trans h.settings
  passageRun := k.passageRun.trans h.passageRun
  lastServed := k.lastServed.trans h.lastServed
  configured := k.configured.trans h.configured
  first := k.first.trans h.first
  last := k.last.trans h.last
  livePages := k.livePages.trans h.livePages
  slots := k.slots.trans h.slots
  mask := k.mask.trans h.mask
  shown := k.shown.trans h.shown
  reportList := k.reportList.trans h.reportList
  statusCount := k.statusCount.trans h.statusCount
  mirrorCounts := k.mirrorCounts.trans h.mirrorCounts
  zoneSerial := k.zoneSerial.trans h.zoneSerial
  causes := fun c hc => k.causes c (h.causes c hc)

/-- A fold of steady steps is steady. -/
theorem State.Steady.foldl {α : Type} (f : State → α → State) (hf : ∀ (s : State) (a : α), s.Steady (f s a)) (l : List α) (s : State) :
    s.Steady (l.foldl f s) := by
  induction l generalizing s with
  | nil => exact .refl s
  | cons a l ih => exact (hf s a).trans (ih _)

/-- A pending cause stays pending when more are raised. -/
theorem pending_or (a b : BitVec 20) (c : Cause) (h : a.getLsbD c.code = true) : (a ||| b).getLsbD c.code = true := by
  simp [h]

/-! ### Shots, engine and queue -/

/-- Closes a steadiness whose state is a record update of other fields. -/
theorem State.Steady.raise (s : State) (c : Cause) : s.Steady (s.raise c) := by
  constructor <;> first | rfl | exact fun d h => pending_or _ _ d h

theorem State.Steady.mark (s : State) (r : ReportRecord) : s.Steady (s.mark r) := by
  constructor <;> first | rfl | exact fun _ h => h

theorem State.Steady.shots (s : State) (x : ShotTable) : s.Steady { s with shots := x } := by
  constructor <;> first | rfl | exact fun _ h => h

theorem State.Steady.engine (s : State) (x : Engine) : s.Steady { s with engine := x } := by
  constructor <;> first | rfl | exact fun _ h => h

theorem State.Steady.queue (s : State) (x : TetherQueue) : s.Steady { s with queue := x } := by
  constructor <;> first | rfl | exact fun _ h => h

theorem State.Steady.tport (s : State) (x : TetherPort) : s.Steady { s with tport := x } := by
  constructor <;> first | rfl | exact fun _ h => h

theorem State.Steady.release (s : State) (x : ReleaseUnit) : s.Steady { s with release := x } := by
  constructor <;> first | rfl | exact fun _ h => h

theorem State.Steady.focus (s : State) (x : Focus) : s.Steady { s with focus := x } := by
  constructor <;> first | rfl | exact fun _ h => h

theorem State.Steady.intake (s : State) (x : FrameIntake) : s.Steady { s with intake := x } := by
  constructor <;> first | rfl | exact fun _ h => h

theorem State.Steady.phase (s : State) (x : PhaseUnit) : s.Steady { s with phase := x } := by
  constructor <;> first | rfl | exact fun _ h => h

theorem State.Steady.free (s : State) (x : List Nat) (n : Nat) : s.Steady { s with pool := { s.pool with free := x, reservation := n } } := by
  constructor <;> first | rfl | exact fun _ h => h

theorem State.Steady.lanes (s : State) (o : List LaneEntry) (d : List LaneRead) (r : List Response) (n : Nat) :
    s.Steady { s with link := { s.link with ordinary := o, develop := d, sent := r, credits := n } } := by
  constructor <;> first | rfl | exact fun _ h => h

theorem State.Steady.requests (s : State) (d : List FillRequest) (t : List RawRequest) :
    s.Steady { s with port := { s.port with develop := d, tether := t } } := by
  constructor <;> first | rfl | exact fun _ h => h

theorem State.steady_setRecord (s : State) (i : Fin 48) (r : Option Shot) : s.Steady (s.setRecord i r) := .shots s _

theorem State.steady_modifyShot (s : State) (i : Fin 48) (f : Shot → Shot) : s.Steady (s.modifyShot i f) := .shots s _

theorem State.steady_enqueue (s : State) (i : Fin 48) (b : Bool) : s.Steady (s.enqueue i b) := by
  unfold State.enqueue
  split
  · split
    · exact ((State.Steady.queue s _).trans (State.steady_modifyShot _ _ _)).trans (.mark _ _)
    · exact .refl s
  · exact .refl s

theorem State.steady_abandonRaw (s : State) : s.Steady s.abandonRaw := by
  constructor <;> first | rfl | exact fun _ h => h

theorem State.steady_dropItemPages (s : State) (r : ShotRef) : s.Steady (s.dropItemPages r) := by
  unfold State.dropItemPages
  split
  · split
    · exact s.steady_abandonRaw
    · exact .refl s
  · exact .refl s

theorem State.steady_answerLane (s : State) (f : LaneRead → List Byte) : s.Steady (s.answerLane f) := by
  unfold State.answerLane
  split
  · exact .refl s
  · exact .lanes s s.link.ordinary _ _ _

theorem State.steady_endRun (s : State) : s.Steady s.endRun := by
  unfold State.endRun
  split
  · exact .refl s
  · split
    · exact (State.Steady.engine s _).trans (State.steady_answerLane _ _)
    · exact .engine s _

theorem State.steady_dropFreedShot (s : State) (i : Fin 48) (n : Nat) : s.Steady (s.dropFreedShot i n) := by
  unfold State.dropFreedShot
  dsimp only
  split
  · exact (State.Steady.engine s _).trans (State.steady_endRun _)
  · exact .engine s _

theorem State.steady_dropLive (s : State) (f : Fin 2 → Bool) : s.Steady (s.dropLive f) := by
  unfold State.dropLive
  dsimp only
  split
  · exact (State.Steady.engine s _).trans (State.steady_endRun _)
  · exact .engine s _

theorem State.steady_freeShot (s : State) (i : Fin 48) : s.Steady (s.freeShot i) := by
  unfold State.freeShot
  split
  · exact .refl s
  · exact ((((State.Steady.free s _ s.pool.reservation).trans (State.steady_dropFreedShot _ _ _)).trans
      (State.steady_dropItemPages _ _)).trans (State.steady_setRecord _ _ _)).trans (.shots _ _)

theorem State.steady_evict (s : State) (i : Fin 48) : s.Steady (s.evict i) := (s.steady_freeShot i).trans (.raise _ _)

theorem State.steady_depthCheck (s : State) : s.Steady s.depthCheck := .foldl _ State.steady_evict _ _

theorem State.steady_freeingCheck (s : State) (i : Fin 48) : s.Steady (s.freeingCheck i) := by
  unfold State.freeingCheck
  split
  · exact .refl s
  · split
    · split
      · exact s.steady_freeShot i
      · exact .refl s
    · split
      · exact s.steady_freeShot i
      · exact .refl s
    · split
      · exact s.steady_depthCheck
      · exact .refl s
    · exact .refl s

theorem State.steady_makeRoom (s : State) (n : Nat) (l : List (Fin 48)) : s.Steady (s.makeRoom n l) := by
  induction l generalizing s with
  | nil => exact .refl s
  | cons i l ih =>
    unfold State.makeRoom
    split
    · exact .refl s
    · exact (s.steady_evict i).trans (ih _)

theorem State.steady_becomeKept (s : State) (i : Fin 48) : s.Steady (s.becomeKept i) := by
  have h : s.Steady (((s.modifyShot i Shot.kept).enqueue i false).raise .shotKept) :=
    ((s.steady_modifyShot i _).trans (State.steady_enqueue _ _ _)).trans (.raise _ _)
  unfold State.becomeKept
  dsimp only
  split
  · split
    · exact h.trans (State.steady_freeShot _ i)
    · exact h
  · exact h

theorem State.steady_modifyFilling (s : State) (f : Shot → Shot) : s.Steady (s.modifyFilling f) := by
  unfold State.modifyFilling
  split
  · exact s.steady_modifyShot _ _
  · exact .refl s

theorem State.steady_promote (s : State) : s.Steady s.promote :=
  ((State.Steady.foldl _ State.steady_becomeKept _ s).trans (.shots _ _)).trans (State.steady_modifyFilling _ _)

theorem State.steady_lapseShot (s : State) (i : Fin 48) : s.Steady (s.lapseShot i) := by
  unfold State.lapseShot
  split
  · exact s.steady_freeShot i
  · exact s.steady_modifyShot i _

theorem State.steady_lapse (s : State) : s.Steady s.lapse :=
  ((State.Steady.foldl _ State.steady_lapseShot _ s).trans (.shots _ _)).trans (State.steady_modifyFilling _ _)

theorem State.steady_openRecord (s : State) (i : Fin 48) (x : Option Shot) (n m : Nat) :
    s.Steady { s.setRecord i x with
      shots := { (s.setRecord i x).shots with counter := n }
      pool := { (s.setRecord i x).pool with reservation := m } } := by
  constructor <;> first | rfl | exact fun _ h => h

theorem State.steady_openShot (s : State) (i : Fin 48) (c : Fin 4) (p : Capture) (d : Destiny) : s.Steady (s.openShot i c p d) :=
  s.steady_openRecord i _ _ _

theorem State.steady_releaseReservation (s : State) : s.Steady s.releaseReservation := .free s s.pool.free 0

theorem State.steady_assignPages (s : State) (i : Fin 48) (k : Nat) : s.Steady (s.assignPages i k) := by
  unfold State.assignPages
  split
  · exact .refl s
  · exact (State.Steady.free s _ _).trans (State.steady_setRecord _ _ _)

theorem State.steady_completeShot (s : State) (i : Fin 48) : s.Steady (s.completeShot i) := by
  have h := s.steady_releaseReservation
  unfold State.completeShot
  dsimp only
  split
  · exact h
  · split
    · exact h.trans (State.steady_freeShot _ i)
    · split
      · exact h.trans (State.steady_becomeKept _ i)
      · exact ((h.trans (State.steady_modifyShot _ i _)).trans (.shots _ _)).trans (State.steady_depthCheck _)

theorem State.steady_abortShot (s : State) (i : Fin 48) : s.Steady (s.abortShot i) := by
  unfold State.abortShot
  split
  · exact s.steady_releaseReservation
  · exact (((State.Steady.free s _ s.pool.reservation).trans (State.steady_releaseReservation _)).trans
      (State.steady_modifyShot _ i _)).trans (State.steady_freeShot _ i)

/-! ### Release unit -/

theorem State.steady_deriveFocus (s : State) : s.Steady s.deriveFocus := .focus s _

theorem State.steady_openFrame (s : State) (k : FrameKind) (g : Geometry) : s.Steady (s.openFrame k g) := by
  constructor <;> first | rfl | exact fun _ h => h

theorem State.steady_fireLive (s : State) : s.Steady s.fireLive := (s.steady_dropLive _).trans (State.steady_openFrame _ _ _)

theorem State.steady_liveFallsDue (s : State) (n : Nat) : s.Steady (s.liveFallsDue n) := by
  unfold State.liveFallsDue
  dsimp only
  split
  · exact (State.Steady.release s _).trans (State.steady_fireLive _)
  · exact .release s _

theorem State.steady_syncLive (s old : State) : s.Steady (s.syncLive old) := by
  unfold State.syncLive
  split
  · exact s.steady_liveFallsDue _
  · split
    · exact .refl s
    · exact .release s _

theorem State.steady_deriveRelease (s old : State) : s.Steady (s.deriveRelease old) := by
  unfold State.deriveRelease State.dropUnwanted
  split
  · exact ((State.Steady.release s _).trans (.release _ _)).trans (State.steady_syncLive _ _)
  · exact (State.Steady.release s _).trans (State.steady_syncLive _ _)

theorem State.steady_fireShot (s : State) (k : TriggerKind) : s.Steady (s.fireShot k) := by
  unfold State.fireShot
  split
  · exact ((State.steady_openShot s _ _ _ _).trans (.release _ _)).trans (State.steady_openFrame _ _ _)
  · exact .refl s

theorem State.steady_waitFor (s : State) (r : WaitReason) : s.Steady (s.waitFor r) := by
  unfold State.waitFor
  dsimp only
  split
  · exact (State.Steady.release s _).trans (.raise _ _)
  · exact .release s _

theorem State.steady_testTrigger (s : State) (k : TriggerKind) : s.Steady (s.testTrigger k) := by
  have h : s.Steady (s.roomFor k) := by
    unfold State.roomFor
    split
    · exact s.steady_makeRoom _ _
    · exact .refl s
  unfold State.testTrigger
  dsimp only
  split
  · exact (h.trans (State.steady_fireShot _ _)).trans (State.steady_deriveRelease _ _)
  · exact (h.trans (State.steady_waitFor _ _)).trans (State.steady_syncLive _ _)

theorem State.steady_updateRelease (s old : State) : s.Steady (s.updateRelease old) := by
  have h := s.steady_deriveRelease old
  unfold State.updateRelease
  dsimp only
  split
  · exact h
  · split
    · split
      · exact h.trans (State.steady_testTrigger _ _)
      · exact h
    · split
      · exact h.trans (State.steady_testTrigger _ _)
      · exact h

theorem State.steady_requestBurst (s : State) : s.Steady s.requestBurst := by
  unfold State.requestBurst
  split
  · exact .raise s _
  · split
    · exact .refl s
    · split
      · exact .raise s _
      · exact .release s _

theorem State.steady_pressEvents (s old : State) : s.Steady (s.pressEvents old) := by
  have h1 : s.Steady (if !old.fullPress && s.fullPress then s.promote.requestBurst else s) := by
    split
    · exact s.steady_promote.trans (State.steady_requestBurst _)
    · exact .refl s
  have drop : ∀ t : State, t.Steady (t.dropBurst old) := by
    intro t
    unfold State.dropBurst
    split
    · exact .release t _
    · exact .refl t
  unfold State.pressEvents
  dsimp only
  generalize (if !old.fullPress && s.fullPress then s.promote.requestBurst else s) = s1 at h1
  have h2 : s.Steady (if old.fullPress && !s.fullPress then s1.dropBurst old else s1) := by
    split
    · exact h1.trans (drop _)
    · exact h1
  generalize (if old.fullPress && !s.fullPress then s1.dropBurst old else s1) = s2 at h2
  split
  · exact h2.trans (State.steady_lapse _)
  · exact h2

/-! ### Engine -/

theorem State.steady_startFill (s : State) (p : Fin 4) (k : Key) (g : Geometry) : s.Steady (s.startFill p k g) := by
  constructor <;> first | rfl | exact fun _ h => h

theorem State.steady_tryFill (s : State) (k : Key) (g : Geometry) : s.Steady (s.tryFill k g) := by
  unfold State.tryFill
  split
  · exact (State.Steady.engine s _).trans (State.steady_startFill _ _ _ _)
  · exact .refl s

theorem State.steady_prefetch (s : State) (k : Key) (g : Geometry) : s.Steady (s.prefetch k g) := by
  unfold State.prefetch
  split
  · exact s.steady_tryFill k g
  · exact .refl s

theorem State.steady_completeRun (s : State) (r : Run) (p : Fin 4) (d : List Byte) : s.Steady (s.completeRun r p d) := by
  unfold State.completeRun
  dsimp only
  split
  · split
    · exact ((State.Steady.engine s _).trans (State.steady_answerLane _ _)).trans (State.steady_prefetch _ _ _)
    · exact (State.Steady.engine s _).trans (State.steady_answerLane _ _)
  · exact (State.Steady.engine s _).trans (.engine _ _)

theorem State.steady_takeStreamRun (s : State) (t : Stream) : s.Steady (s.takeStreamRun t) := by
  unfold State.takeStreamRun
  dsimp only
  split
  · exact (State.Steady.engine s _).trans (State.steady_prefetch _ _ _)
  · exact .engine s _

theorem State.steady_engineAct (s t : State) (h : s.engineAct = some t) : s.Steady t := by
  unfold State.engineAct State.pickRun at h
  split at h
  · split at h
    · split at h
      · cases h; exact .engine s _
      · cases h; exact s.steady_answerLane _
    · split at h
      · cases h; exact s.steady_takeStreamRun _
      · cases h
  · split at h
    · split at h
      · cases h; exact s.steady_completeRun _ _ _
      · cases h
    · split at h
      · cases h; exact (State.Steady.engine s _).trans (State.steady_startFill _ _ _ _)
      · cases h

theorem State.steady_engineActs (n : Nat) (s : State) : s.Steady (s.engineActs n) := by
  induction n generalizing s with
  | zero => exact .refl s
  | succ n ih =>
    unfold State.engineActs
    split
    · exact (s.steady_engineAct _ (by assumption)).trans (ih _)
    · exact .refl s

theorem State.steady_engineSettle (s : State) : s.Steady s.engineSettle := s.steady_engineActs 128

/-! ### Tether port -/

theorem State.steady_modifyItem (s : State) (f : Item → Item) : s.Steady (s.modifyItem f) := .tport s _

theorem State.steady_setPort (s : State) (p : PortState) : s.Steady (s.setPort p) := .tport s _

theorem State.steady_portIdle (s : State) : s.Steady s.portIdle := .tport s _

theorem State.steady_feedPlace (s : State) (i : Fin 2) : s.Steady (s.feedPlace i) := by
  unfold State.feedPlace
  split
  · exact .refl s
  · split
    · dsimp only
      split
      · constructor <;> first | rfl | exact fun _ h => h
      · exact (s.steady_modifyItem _).trans (.tport _ _)
    · exact .refl s

theorem State.steady_feedRaw (s : State) : s.Steady s.feedRaw := (s.steady_feedPlace 0).trans (State.steady_feedPlace _ 1)

theorem State.steady_freeBlock (s : State) (it : Item) (b : Nat) : s.Steady (s.freeBlock it b) := by
  unfold State.freeBlock
  split
  · exact .tport s _
  · exact .engine s _

theorem State.steady_driveUnit (s : State) (it : Item) (w : Word16) (n : Nat) : s.Steady (s.driveUnit it w n) :=
  (State.Steady.tport s _).trans (State.steady_modifyItem _ _)

theorem State.steady_beginUnit (s : State) (n : Nat) : s.Steady (s.beginUnit n) := by
  unfold State.beginUnit
  split
  · exact .refl s
  · split
    · split
      · exact s.steady_modifyItem _
      · exact s.steady_driveUnit _ _ _
    · split
      · exact (s.steady_modifyItem _).trans (State.steady_driveUnit _ _ _ _)
      · exact s.steady_modifyItem _

theorem State.steady_streamStart (s : State) (t : Stream) : s.Steady (s.streamStart t) := .engine s _

theorem State.steady_streamEnd (s : State) : s.Steady s.streamEnd := .engine s _

theorem State.steady_endItem (s : State) : s.Steady s.endItem :=
  (s.steady_streamEnd.trans (State.steady_abandonRaw _)).trans (.tport _ _)

theorem State.steady_returnShot (s : State) (it : Item) (b : Bool) : s.Steady (s.returnShot it b) := by
  unfold State.returnShot
  split
  · exact s.steady_enqueue _ _
  · exact .refl s

theorem State.steady_countAttempt (s : State) (it : Item) (b : Bool) : s.Steady (s.countAttempt it b) := by
  unfold State.countAttempt
  split
  · dsimp only
    split
    · exact ((s.steady_modifyShot _ _).trans (State.steady_modifyShot _ _ _)).trans (.raise _ _)
    · exact (s.steady_modifyShot _ _).trans (State.steady_enqueue _ _ _)
  · exact .refl s

theorem State.steady_takeItem (s : State) (r : ShotRef) (x : Shot) (t : TetherPart) : s.Steady (s.takeItem r x t) := by
  have h : s.Steady ((((({ s with queue := s.queue.leave r }).modifyShot r.index fun x => x.withTetherState .sending))) ) :=
    (State.Steady.queue s _).trans (State.steady_modifyShot _ _ _)
  unfold State.takeItem
  dsimp only
  split
  · exact (((h.trans (.tport _ _)).trans (State.steady_setPort _ _)).trans (State.steady_streamStart _ _)).trans
      (State.steady_beginUnit _ _)
  · exact (((h.trans (.tport _ _)).trans (State.steady_setPort _ _)).trans (State.steady_feedRaw _)).trans
      (State.steady_beginUnit _ _)

theorem State.steady_takeNext (s : State) : s.Steady s.takeNext := by
  unfold State.takeNext
  split
  · split
    · exact .refl s
    · split
      · split
        · exact s.steady_takeItem _ _ _
        · exact .refl s
      · exact .refl s
  · exact .refl s

theorem State.steady_resumeUnit (s : State) : s.Steady s.resumeUnit := by
  unfold State.resumeUnit
  split
  · exact .refl s
  · split
    · exact s.steady_beginUnit _
    · exact .refl s

/-! ### What follows an event -/

/-- What follows an event by itself is steady: it writes only the pool's free list and reservation, the shots, the release
unit, the frame, the extractor, the focus state, the engine, the queue, the port, the lanes and their requests. -/
theorem State.steady_settle (s old : State) : s.Steady (s.settle old) :=
  (((s.steady_deriveFocus.trans (State.steady_updateRelease _ old)).trans (State.steady_takeNext _)).trans
    (State.steady_engineSettle _)).trans (State.steady_resumeUnit _)

/-- In a calm state nothing follows an event. -/
theorem State.settle_of_calm (s old : State) (h : s.calm) : s.settle old = s := by
  obtain ⟨⟨hp, hs, hf, hl, hst, hw, ht⟩, ⟨hq, hi⟩, ⟨he1, he2, he3⟩, hfo⟩ := h
  have hd : s.deriveFocus = s := by simp only [State.deriveFocus, ← hfo]
  have hfull : s.fullPress = false := by
    simp only [State.halfPress, Bool.or_eq_false_iff] at hp
    exact hp.2
  have hrs : s.releaseStateNow = .standby := by simp [State.releaseStateNow, hfull, hs, hf, hp, hl]
  have hwant : s.wantedTrigger = none := by simp [State.wantedTrigger, hst]
  have hder : s.deriveRelease old = s := by
    have e : { s with release := { s.release with state := s.releaseStateNow } } = s := by rw [hrs, ← hst]
    have e2 : { s with release := { s.release with waiting := none } } = s := by rw [← hw]
    have e3 : { s with release := { s.release with liveTimer := none } } = s := by rw [← ht]
    have hu : s.dropUnwanted = s := by
      unfold State.dropUnwanted
      rw [hwant]
      exact e2
    have hsy : s.syncLive old = s := by
      have h1 : (s.release.state == .live) = false := by rw [hst]; rfl
      have h2 : s.focusLive = false := by unfold State.focusLive; rw [hst]; rfl
      unfold State.syncLive
      rw [h1, h2]
      exact e3
    unfold State.deriveRelease
    rw [e, hu, hsy]
  have hupd : s.updateRelease old = s := by simp only [State.updateRelease, hder, hwant]
  have htake : s.takeNext = s := by
    unfold State.takeNext
    rcases hq with hq | hq
    · rw [if_neg hq]
    · split
      · rw [hq]
      · rfl
  have hact : s.engineAct = none := by simp [State.engineAct, he1, State.pickRun, he3, State.streamWants, he2]
  have heng : s.engineSettle = s := by
    show s.engineActs (127 + 1) = s
    simp only [State.engineActs, hact]
  have hres : s.resumeUnit = s := by
    unfold State.resumeUnit
    split
    · rfl
    · rename_i it hit
      rw [if_neg]
      exact fun c => hi (by rw [hit]; exact congrArg some c.1)
  simp only [State.settle, hd, hupd, htake, heng, hres]

end Sys2Proof.Machine
end

