-- ==== Sys2Proof/Laws/PerInstr.lean ====
section
/-! SUPPORT. Statements for all commands, made command by command: which operands a well-formed command bounds (R29, R183). -/

namespace Sys2Proof.Laws.OperandBounds

/-- A command is well formed exactly when its beat count, if it has one, lies in 1–32 (R29), and its unknown kind, if it has one,
is 0 or above 20 (R183). -/
def Statement (i : Instr) : Prop :=
  i.wellFormed = true ↔
    (∀ addr beats, i = .write addr beats → 1 ≤ beats.length ∧ beats.length ≤ 32) ∧
      (∀ tag addr count, i = .read tag addr count → 1 ≤ count ∧ count ≤ 32) ∧
      ∀ slot tag kind, i = .unknownKindRequest slot tag kind → kind = 0 ∨ 20 < kind.toNat

/-- A command with none of these operands is always well formed. -/
theorem of_unbounded (i : Instr) (h : i.wellFormed = true) (w : ∀ a b, i ≠ .write a b) (r : ∀ a b c, i ≠ .read a b c)
    (u : ∀ a b c, i ≠ .unknownKindRequest a b c) : Statement i :=
  ⟨fun _ => ⟨fun a b e => absurd e (w a b), fun a b c e => absurd e (r a b c), fun a b c e => absurd e (u a b c)⟩, fun _ => h⟩

theorem resetN : Statement .resetN :=
  of_unbounded _ rfl nofun nofun nofun
theorem linkStart : Statement .linkStart :=
  of_unbounded _ rfl nofun nofun nofun
theorem timeBaseTick : Statement .timeBaseTick :=
  of_unbounded _ rfl nofun nofun nofun
theorem write (addr : BitVec 29) (beats : List WriteBeat) : Statement (.write addr beats) := by
  simp [Statement, Instr.wellFormed, beatCountOk]
theorem read (tag : BitVec 5) (addr : BitVec 29) (count : Nat) : Statement (.read tag addr count) := by
  simp [Statement, Instr.wellFormed, beatCountOk]
theorem ordinaryLaneService : Statement .ordinaryLaneService :=
  of_unbounded _ rfl nofun nofun nofun
theorem memoryGrant : Statement .memoryGrant :=
  of_unbounded _ rfl nofun nofun nofun
theorem reportIssue : Statement .reportIssue :=
  of_unbounded _ rfl nofun nofun nofun
theorem lineChange (line : InputLine) (level : Bool) : Statement (.lineChange line level) :=
  of_unbounded _ rfl nofun nofun nofun
theorem debouncedChange (line : Line) : Statement (.debouncedChange line) :=
  of_unbounded _ rfl nofun nofun nofun
theorem liveTrigger : Statement .liveTrigger :=
  of_unbounded _ rfl nofun nofun nofun
theorem shotTriggerDue : Statement .shotTriggerDue :=
  of_unbounded _ rfl nofun nofun nofun
theorem ftrigPulseBegin : Statement .ftrigPulseBegin :=
  of_unbounded _ rfl nofun nofun nofun
theorem ftrigPulseEnd : Statement .ftrigPulseEnd :=
  of_unbounded _ rfl nofun nofun nofun
theorem readoutTimeout : Statement .readoutTimeout :=
  of_unbounded _ rfl nofun nofun nofun
theorem stepBoundary (group : Group) : Statement (.stepBoundary group) :=
  of_unbounded _ rfl nofun nofun nofun
theorem stepPulseEnd (group : Group) : Statement (.stepPulseEnd group) :=
  of_unbounded _ rfl nofun nofun nofun
theorem homingBoundary (group : Group) : Statement (.homingBoundary group) :=
  of_unbounded _ rfl nofun nofun nofun
theorem settleDeadline (group : Group) : Statement (.settleDeadline group) :=
  of_unbounded _ rfl nofun nofun nofun
theorem tlinkChange (level : Bool) : Statement (.tlinkChange level) :=
  of_unbounded _ rfl nofun nofun nofun
theorem trdyChange (level : Bool) : Statement (.trdyChange level) :=
  of_unbounded _ rfl nofun nofun nofun
theorem settleWaitEnd : Statement .settleWaitEnd :=
  of_unbounded _ rfl nofun nofun nofun
theorem strobeEnd : Statement .strobeEnd :=
  of_unbounded _ rfl nofun nofun nofun
theorem wordSlot : Statement .wordSlot :=
  of_unbounded _ rfl nofun nofun nofun
theorem stall : Statement .stall :=
  of_unbounded _ rfl nofun nofun nofun
theorem tack (level : Bool) : Statement (.tack level) :=
  of_unbounded _ rfl nofun nofun nofun
theorem tnak (level : Bool) : Statement (.tnak level) :=
  of_unbounded _ rfl nofun nofun nofun
theorem verdictTimeout : Statement .verdictTimeout :=
  of_unbounded _ rfl nofun nofun nofun
theorem configurePool (slot : Fin 8) (tag : Word32) (first last livePages : Beat) :
    Statement (.configurePool slot tag first last livePages) :=
  of_unbounded _ rfl nofun nofun nofun
theorem loadSettings (slot : Fin 8) (tag : Word32) (table index : Beat) : Statement (.loadSettings slot tag table index) :=
  of_unbounded _ rfl nofun nofun nofun
theorem selectCapture (slot : Fin 8) (tag : Word32) (profile : Beat) : Statement (.selectCapture slot tag profile) :=
  of_unbounded _ rfl nofun nofun nofun
theorem setFocus (slot : Fin 8) (tag : Word32) (mode selection fixedZone policy : Beat) :
    Statement (.setFocus slot tag mode selection fixedZone policy) :=
  of_unbounded _ rfl nofun nofun nofun
theorem homeLens (slot : Fin 8) (tag : Word32) : Statement (.homeLens slot tag) :=
  of_unbounded _ rfl nofun nofun nofun
theorem moveLens (slot : Fin 8) (tag : Word32) (target : Beat) : Statement (.moveLens slot tag target) :=
  of_unbounded _ rfl nofun nofun nofun
theorem fire (slot : Fin 8) (tag : Word32) (count : Beat) : Statement (.fire slot tag count) :=
  of_unbounded _ rfl nofun nofun nofun
theorem mapView (slot : Fin 8) (tag : Word32) (view source shot mode profile stream : Beat) :
    Statement (.mapView slot tag view source shot mode profile stream) :=
  of_unbounded _ rfl nofun nofun nofun
theorem unmapView (slot : Fin 8) (tag : Word32) (view : Beat) : Statement (.unmapView slot tag view) :=
  of_unbounded _ rfl nofun nofun nofun
theorem releaseCard (slot : Fin 8) (tag : Word32) (shot : Beat) : Statement (.releaseCard slot tag shot) :=
  of_unbounded _ rfl nofun nofun nofun
theorem protect (slot : Fin 8) (tag : Word32) (shot : Beat) : Statement (.protect slot tag shot) :=
  of_unbounded _ rfl nofun nofun nofun
theorem unprotect (slot : Fin 8) (tag : Word32) (shot : Beat) : Statement (.unprotect slot tag shot) :=
  of_unbounded _ rfl nofun nofun nofun
theorem discard (slot : Fin 8) (tag : Word32) (shot : Beat) : Statement (.discard slot tag shot) :=
  of_unbounded _ rfl nofun nofun nofun
theorem prioritise (slot : Fin 8) (tag : Word32) (shot : Beat) : Statement (.prioritise slot tag shot) :=
  of_unbounded _ rfl nofun nofun nofun
theorem requeue (slot : Fin 8) (tag : Word32) (shot : Beat) : Statement (.requeue slot tag shot) :=
  of_unbounded _ rfl nofun nofun nofun
theorem dropTether (slot : Fin 8) (tag : Word32) (shot : Beat) : Statement (.dropTether slot tag shot) :=
  of_unbounded _ rfl nofun nofun nofun
theorem tetherControlEnable (slot : Fin 8) (tag : Word32) : Statement (.tetherControlEnable slot tag) :=
  of_unbounded _ rfl nofun nofun nofun
theorem tetherControlDisable (slot : Fin 8) (tag : Word32) : Statement (.tetherControlDisable slot tag) :=
  of_unbounded _ rfl nofun nofun nofun
theorem tetherControlResume (slot : Fin 8) (tag : Word32) : Statement (.tetherControlResume slot tag) :=
  of_unbounded _ rfl nofun nofun nofun
theorem clearBuffer (slot : Fin 8) (tag : Word32) : Statement (.clearBuffer slot tag) :=
  of_unbounded _ rfl nofun nofun nofun
theorem clearCauses (slot : Fin 8) (tag : Word32) (causes : Beat) : Statement (.clearCauses slot tag causes) :=
  of_unbounded _ rfl nofun nofun nofun
theorem setMask (slot : Fin 8) (tag : Word32) (mask : Beat) : Statement (.setMask slot tag mask) :=
  of_unbounded _ rfl nofun nofun nofun
theorem unknownKindRequest (slot : Fin 8) (tag : Word32) (kind : Byte) : Statement (.unknownKindRequest slot tag kind) := by
  simp [Statement, Instr.wellFormed, unknownKind]

end Sys2Proof.Laws.OperandBounds
end

