-- ==== Sys2Proof/Laws/Requests.lean ====
section
/-! SUPPORT. What the taking and the completion of a request do, once for all requests. -/

namespace Sys2Proof.Machine

/-- The part of `State.Steady` that every request keeps between its taking and its completion. -/
structure State.Within (s t : State) : Prop where
  time : t.time = s.time
  mem : t.mem = s.mem
  pins : t.pins = s.pins
  tables : t.tables = s.tables
  pending : t.pending = s.pending
  slots : t.req.slots = s.req.slots
  mask : t.req.mask = s.req.mask
  shown : t.req.shown = s.req.shown
  statusCount : t.req.statusCount = s.req.statusCount
  mirrorCounts : t.req.mirrorCounts = s.req.mirrorCounts
  zoneSerial : t.req.zoneSerial = s.req.zoneSerial
  causes : ∀ c, s.pendingCause c = true → t.pendingCause c = true

theorem State.Steady.within {s t : State} (h : s.Steady t) : s.Within t :=
  ⟨h.time, h.mem, h.pins, h.tables, h.pending, h.slots, h.mask, h.shown, h.statusCount, h.mirrorCounts, h.zoneSerial, h.causes⟩

theorem State.Within.refl (s : State) : s.Within s := (State.Steady.refl s).within

theorem State.Within.trans {s t u : State} (h : s.Within t) (k : t.Within u) : s.Within u where
  time := k.time.trans h.time
  mem := k.mem.trans h.mem
  pins := k.pins.trans h.pins
  tables := k.tables.trans h.tables
  pending := k.pending.trans h.pending
  slots := k.slots.trans h.slots
  mask := k.mask.trans h.mask
  shown := k.shown.trans h.shown
  statusCount := k.statusCount.trans h.statusCount
  mirrorCounts := k.mirrorCounts.trans h.mirrorCounts
  zoneSerial := k.zoneSerial.trans h.zoneSerial
  causes := fun c hc => k.causes c (h.causes c hc)

/-- A state whose request unit is untouched stays within its backdrop. -/
theorem State.Within.of_req {s t : State} (h : s.backdrop t) (k : t.req = s.req) : s.Within t :=
  ⟨h.1, h.2.1, h.2.2.1, h.2.2.2.1, h.2.2.2.2, by rw [k], by rw [k], by rw [k], by rw [k], by rw [k], by rw [k],
    fun c hc => by rw [State.pendingCause, k]; exact hc⟩

/-- What a slot copy holds once its request is taken (R181, R183). -/
def Slot.begun (sl : Slot) (kind : Byte) (tag : Word32) (args : List Beat) : Slot := (sl.load kind tag args).take

/-- The state in which the request of a post is performed: the slot copy is TAKEN, and its record is marked. -/
def State.begun (s : State) (slot : Fin 8) (kind : Byte) (tag : Word32) (args : List Beat) : State :=
  (s.setSlot slot (s.req.slots[slot].begun kind tag args)).mark (.slot slot)

/-- A post to a slot that is not TAKEN is performed (R182). -/
theorem State.request_of_canPost (s : State) (slot : Fin 8) (kind : Byte) (tag : Word32) (args : List Beat)
    (h : s.canPost slot) :
    s.request slot kind tag args = (s.begun slot kind tag args).perform slot kind (putArgs s.req.slots[slot].args args) := by
  have e : (s.setSlot slot (s.req.slots[slot].load kind tag args)).req.slots[slot] = s.req.slots[slot].load kind tag args := by
    simp [State.setSlot]
  have e2 : (s.setSlot slot (s.req.slots[slot].load kind tag args)).take slot = s.begun slot kind tag args := by
    unfold State.take
    rw [e]
    simp only [State.begun, State.setSlot, State.mark, Slot.begun]
    congr 2
    ext i hi
    simp [Vector.getElem_set]
  unfold State.request State.post
  rw [e, e2]
  rw [if_neg (show ¬ (s.req.slots[slot].load kind tag args).state = .taken from h)]
  rfl

theorem State.begun_slot (s : State) (slot : Fin 8) (kind : Byte) (tag : Word32) (args : List Beat) :
    (s.begun slot kind tag args).req.slots[slot] = s.req.slots[slot].begun kind tag args := by
  simp [State.begun, State.setSlot, State.mark]

/-- Taking a request touches nothing but the slot copy and the marks. -/
theorem State.begun_became (s : State) (slot : Fin 8) (kind : Byte) (tag : Word32) (args : List Beat) :
    { s.begun slot kind tag args with req := s.req } = s := rfl

theorem State.begun_served (s : State) (slot : Fin 8) (kind : Byte) (tag : Word32) (args : List Beat) :
    s.backdrop (s.begun slot kind tag args) ∧ s.otherSlotsKept (s.begun slot kind tag args) slot ∧
      (s.begun slot kind tag args).req.causes = s.req.causes := by
  refine ⟨⟨rfl, rfl, rfl, rfl, rfl⟩, ⟨fun j hj => ?_, rfl, rfl, rfl, rfl, rfl⟩, rfl⟩
  have : ¬ (slot : Nat) = (j : Nat) := fun e => hj (Fin.ext e.symm)
  simp [State.begun, State.setSlot, State.mark, this]

/-- Completion touches nothing but the slot copy, the marks and REQUEST_DONE. -/
theorem State.complete_became (s : State) (slot : Fin 8) (code : ResultCode) (beat : Beat) :
    s.became (s.complete slot code beat) s Cause.requestDone.bit := ⟨rfl, rfl⟩

/-- A request that completes after effects `E` within the backdrop, followed by what follows, is served (R183). -/
theorem State.served_of (s : State) (slot : Fin 8) (kind : Nat) (tag : Word32) (args : List Beat) (code : ResultCode)
    (beat : Beat) (E v : State) (h1 : (s.begun slot (kindCode kind) tag args).Within E)
    (h2 : (E.complete slot code beat).Within v) : s.served (v.finishEvent s) slot kind tag code beat := by
  obtain ⟨b, o, c⟩ := s.begun_served slot (kindCode kind) tag args
  have hE : E.req.slots[slot] = s.req.slots[slot].begun (kindCode kind) tag args := by rw [h1.slots, State.begun_slot]
  have hv : v.req.slots[slot] = (s.req.slots[slot].begun (kindCode kind) tag args).withResult code beat := by
    rw [h2.slots]
    have : (E.complete slot code beat).req.slots[slot] = E.req.slots[slot].withResult code beat := by
      simp [State.complete, State.raise, State.mark, State.setSlot]
    rw [this, hE]
  refine ⟨⟨?_, ?_, ?_⟩, ⟨?_, ?_, ?_, ?_, ?_⟩, ⟨fun j hj => ?_, ?_, ?_, ?_, ?_, ?_⟩, fun d hd => ?_⟩
  · show v.req.slots[slot].state = .done
    rw [hv]; rfl
  · show v.req.slots[slot].taken.map _ = _
    rw [hv]; rfl
  · refine h2.causes _ ?_
    simp [State.pendingCause, State.complete, State.raise]
    right; decide
  · exact h2.time.trans (h1.time.trans b.1)
  · exact h2.mem.trans (h1.mem.trans b.2.1)
  · exact h2.pins.trans (h1.pins.trans b.2.2.1)
  · exact h2.tables.trans (h1.tables.trans b.2.2.2.1)
  · exact h2.pending.trans (h1.pending.trans b.2.2.2.2)
  · show v.req.slots[j] = _
    have hn : ¬ (slot : Nat) = (j : Nat) := fun e => hj (Fin.ext e.symm)
    rw [h2.slots, ← o.1 j hj, ← h1.slots]
    simp [State.complete, State.raise, State.mark, State.setSlot, hn]
  · exact h2.mask.trans (h1.mask.trans o.2.1)
  · exact h2.shown.trans (h1.shown.trans o.2.2.1)
  · exact h2.statusCount.trans (h1.statusCount.trans o.2.2.2.1)
  · exact h2.mirrorCounts.trans (h1.mirrorCounts.trans o.2.2.2.2.1)
  · exact h2.zoneSerial.trans (h1.zoneSerial.trans o.2.2.2.2.2)
  · refine h2.causes d ?_
    have : E.pendingCause d = true := h1.causes d (by rw [State.pendingCause, c]; exact hd)
    exact pending_or _ _ d this

/-- The end of an event touches the report list and the marks only. -/
theorem State.finishEvent_became (s old : State) (r : RequestUnit) : { s.finishEvent old with req := r } = { s with req := r } := rfl

theorem State.complete_with_req (s : State) (slot : Fin 8) (code : ResultCode) (beat : Beat) (r : RequestUnit) :
    { s.complete slot code beat with req := r } = { s with req := r } := rfl

/-- A request that completes at once and brings nothing else about: exactly what it leaves. -/
theorem State.became_of_complete (s : State) (slot : Fin 8) (kind : Byte) (tag : Word32) (args : List Beat) (code : ResultCode)
    (beat : Beat) (E : State) (h : E.req = (s.begun slot kind tag args).req) :
    s.became ((E.complete slot code beat).finishEvent s) E Cause.requestDone.bit := by
  refine ⟨(State.finishEvent_became _ s s.req).trans (E.complete_with_req slot code beat s.req), ?_⟩
  have h2 : ((E.complete slot code beat).finishEvent s).req.causes = E.req.causes ||| Cause.requestDone.bit := rfl
  rw [h2, h]
  rfl

/-- The first argument of a request is the beat it was posted with. -/
theorem arg_putArgs_zero (a : Vector Beat 6) (n : Beat) (l : List Beat) : arg (putArgs a (n :: l)) 0 = n.toNat := by
  simp [arg, putArgs]

theorem State.backdrop_refl (s : State) : s.backdrop s := ⟨rfl, rfl, rfl, rfl, rfl⟩

/-- A request that completes at once, of which nothing follows: `e` is what it leaves beside the request unit. -/
theorem State.quiet_request (s : State) (slot : Fin 8) (kind : Nat) (tag : Word32) (args : List Beat) (code : ResultCode)
    (beat : Beat) (e : State) (hc : s.canPost slot) (hb : s.backdrop e)
    (hp : (s.begun slot (kindCode kind) tag args).perform slot (kindCode kind) (putArgs s.req.slots[slot].args args) =
      ({ e with req := (s.begun slot (kindCode kind) tag args).req } : State).complete slot code beat) :
    ∃ t, (.next (s.command slot (kindCode kind) tag args) : Result) = .next t ∧ s.served t slot kind tag code beat ∧
      s.became t e Cause.requestDone.bit := by
  refine ⟨_, rfl, ?_, ?_⟩
  · show s.served ((s.request slot (kindCode kind) tag args).finishEvent s) slot kind tag code beat
    rw [State.request_of_canPost _ _ _ _ _ hc, hp]
    refine State.served_of s slot kind tag args code beat _ _ ?_ (.refl _)
    exact State.Within.of_req (s := s.begun slot (kindCode kind) tag args) hb rfl
  · show s.became ((s.request slot (kindCode kind) tag args).finishEvent s) e Cause.requestDone.bit
    rw [State.request_of_canPost _ _ _ _ _ hc, hp]
    exact State.became_of_complete s slot (kindCode kind) tag args code beat _ rfl

/-- A request that completes at once, after which the other units go on: in a calm `e` nothing follows. -/
theorem State.settled_request (s : State) (slot : Fin 8) (kind : Nat) (tag : Word32) (args : List Beat) (code : ResultCode)
    (beat : Beat) (e old : State) (hc : s.canPost slot) (hb : s.backdrop e)
    (hp : (s.begun slot (kindCode kind) tag args).perform slot (kindCode kind) (putArgs s.req.slots[slot].args args) =
      (({ e with req := (s.begun slot (kindCode kind) tag args).req } : State).complete slot code beat).settle old) :
    ∃ t, (.next (s.command slot (kindCode kind) tag args) : Result) = .next t ∧ s.served t slot kind tag code beat ∧
      t.windows = e.windows ∧ t.lens = e.lens ∧ (e.calm → s.became t e Cause.requestDone.bit) := by
  have key : s.command slot (kindCode kind) tag args = ((({ e with
      req := (s.begun slot (kindCode kind) tag args).req } : State).complete slot code beat).settle old).finishEvent s := by
    show (s.request slot (kindCode kind) tag args).finishEvent s = _
    rw [State.request_of_canPost _ _ _ _ _ hc, hp]
  have st := State.steady_settle
    (({ e with req := (s.begun slot (kindCode kind) tag args).req } : State).complete slot code beat) old
  refine ⟨_, rfl, ?_, ?_, ?_, fun hcalm => ?_⟩
  · rw [key]
    refine State.served_of s slot kind tag args code beat _ _ ?_ st.within
    exact State.Within.of_req (s := s.begun slot (kindCode kind) tag args) hb rfl
  · rw [key]; exact st.windows
  · rw [key]; exact st.lens
  · rw [key, State.settle_of_calm]
    · exact State.became_of_complete s slot (kindCode kind) tag args code beat _ rfl
    · exact hcalm

end Sys2Proof.Machine
end

