-- ==== Sys2Proof/Tests/Slice0.lean ====
section
/-! SUPPORT. Tests: ill-formed commands, the spec's worked examples, one or two events of each kind on small states, and for each
statement that has hypotheses a state and operands that meet them, clause by clause. -/

namespace Sys2Proof.Tests

open Sys2Proof.Machine

-- One theorem at a time: `decide +kernel` makes each wait for the one before, and each waiting thread holds its own stack.
set_option Elab.async false

/-! ### Small states -/

/-- The state after a command; the state before it where the command is refused. -/
def after (c : Instr) (s : State) : State :=
  match exec c s with
  | .next t => t
  | .fault _ => s
  | .refused _ => s

/-- The commands of a list, one after another. -/
def run (cs : List Instr) (s : State) : State := cs.foldl (fun s c => after c s) s

/-- A moment set. -/
def at_ (t : Nat) (s : State) : State := { s with time := { s.time with ticks := t } }

/-- The causes pending, by code. -/
def causeCodes (s : State) : List Nat := (List.range 20).filter fun i => s.req.causes.getLsbD i

/-- The code and the results beat of the request last taken in a slot. -/
def result (s : State) (i : Fin 8) : Option (ResultCode × Beat) := s.req.slots[i].taken.map fun t => (t.code, t.results)

/-- Link start done, the reports aside. -/
def linked : State := { State.reset with link := { State.reset.link with started := true, credits := 32 } }

/-- A small frame: 512 bytes, one page, one developed row of one run. -/
def geom : Geometry := { width := 128, height := 2, bits := 12 }

/-- A shot record with one page. -/
def shot (n : Nat) (st : ShotState) : Shot :=
  { number := n, state := st, destiny := none, lapsed := false, pre := false, profile := 0, geom := geom, cardHold := false,
    policy := .none, tetherProfile := 0, trigTime := 0, pages := [70], holds := Holds.empty, views := 0, tether := none,
    focus := none }

/-- A KEPT shot with a DEVELOPED tether part in a state. -/
def tethered (n : Nat) (st : TetherState) : Shot :=
  { shot n .kept with
    holds := { card := true, tether := true, protect := false }
    tether := some { kind := .developed, profile := 0, state := st, cls := .normal, attempts := 0 } }

/-- A record put in the table. -/
def withShot (s : State) (i : Fin 48) (x : Shot) : State := s.setRecord i (some x)

/-- The pool of 3.8. -/
def pool : Pool := newPool 1 200 4

/-- The capture profile of 3.8. -/
def capture : Capture :=
  { continuous := false, depth := 0, cardHold := true, policy := .none, tetherProfile := 0,
    geom := { width := 1024, height := 768, bits := 12 }, burstPeriod := 200000 }

/-- Ready to shoot: the pool configured and CAPTURE 1 active. -/
def ready : State :=
  { linked with
    pool := pool, release := { linked.release with active := some 1 }
    tables := { linked.tables with captures := linked.tables.captures.set 1 (some capture) } }

/-- The LENS table of 5.13. -/
def lens : Lens :=
  { g0 := { stepPeriod := 500, settleTime := 3000, backlash := 24, homeLimit := 9000 }
    g1 := { stepPeriod := 800, settleTime := 2000, backlash := 8, homeLimit := 9000 }
    knots := [(500, 120), (2000, 300), (4000, 900), (6000, 1100), (8000, 1000)]
    gain := 1536, deadband := 3, edgeStep := 200, inFocusBand := 2, jumpLimit := 0 }

/-- A group that stands IDLE at a position. -/
def idleAt (p : Nat) : GroupDrive := { GroupDrive.reset with state := .idle, position := p }

/-- A lens attached and homed, at the positions of 5.14. -/
def homed : State :=
  { linked with
    tables := { linked.tables with lens := some lens }
    release := { linked.release with lready := { active := true, since := none } }
    pins := { linked.pins with lready := true }
    lens := { g0 := idleAt 5000, g1 := idleAt 1000, homing := none } }

/-- A state with other groups. -/
def withGroups (s : State) (a b : GroupDrive) : State := { s with lens := { s.lens with g0 := a, g1 := b } }

/-- A frame in flight. -/
def frame (k : FrameKind) : Frame :=
  { serial := 1, kind := k, geom := geom, accepted := 0, overlength := false, trigAt := 0,
    latch := { g0 := .unhomed, g1 := .unhomed, position := 0 }, deadline := 100 }

/-- A state with a frame in flight. -/
def withFrame (s : State) (k : FrameKind) : State := { s with intake := { frame := some (frame k), serial := 1 } }

/-- An ordinary lane. -/
def withLane (s : State) (l : List LaneEntry) : State := { s with link := { s.link with ordinary := l } }

/-- A WRITE of 8 bytes that waits for service. -/
def waitingWrite (a : Nat) : LaneEntry :=
  { transfer := .write (BitVec.ofNat 29 (a / 8)) (List.replicate 8 (some 7)), service := .waiting }

/-- A READ of one beat that waits for service. -/
def waitingRead (a : Nat) : LaneEntry := { transfer := .read 5 (BitVec.ofNat 29 (a / 8)) 1, service := .waiting }

/-- A view mapped RAW or DEVELOPED. -/
def view (src : ViewSource) (developed : Bool) : View := { source := src, developed := developed, profile := 0, stream := false }

/-- A state with view 0 mapped. -/
def withView (s : State) (e : View) : State := { s with windows := { s.windows with views := s.windows.views.set 0 (some e) } }

/-- A reference to the shot of number 1 at index 0. -/
def ref : ShotRef := { index := 0, number := 1 }

/-- The item of that shot, in its header. -/
def item (st : Handshake) : Item :=
  { source := ref, attached := true, kind := .developed, attempt := 1
    header := itemHeader (tethered 1 .queued) { kind := .developed, profile := 0, state := .queued, cls := .normal, attempts := 0 }
    geom := geom, phase := .header, word := 0, highByte := false, current := 0x5AC3, complete := false, cut := [], step := st,
    slotEnd := 10, nextBlock := 0, underran := false }

/-- A port in a state with an item, its shot SENDING at index 0. -/
def onPort (p : PortState) (it : Item) : State :=
  { withShot linked 0 (tethered 1 .sending) with tport := { linked.tport with state := p, item := some it } }

/-- A TETHER table in a mode. -/
def withMode (s : State) (m : TetherMode) : State :=
  { s with tables := { s.tables with tether := { s.tables.tether with mode := m } } }

/-- A slot whose request of kind 5 is TAKEN. -/
def takenSlot : Slot :=
  { Slot.reset with
    state := .taken
    taken := some { kind := 5, tag := 9, args := Vector.replicate 6 0, code := .done, results := 0 } }

/-- A state in which slot 0 is TAKEN. -/
def withTaken (s : State) : State := s.setSlot 0 takenSlot

/-! ### Ill-formed commands (R29, R183) -/

theorem test_write_needs_a_beat : Instr.wellFormed (.write 0 []) = false := by decide
theorem test_write_has_32_beats_at_most :
    Instr.wellFormed (.write 0 (List.replicate 33 { enables := 0, data := 0 })) = false := by decide
theorem test_read_needs_a_beat : Instr.wellFormed (.read 0 0 0) = false := by decide
theorem test_read_has_32_beats_at_most : Instr.wellFormed (.read 0 0 33) = false := by decide
theorem test_known_kind_is_no_unknown_kind : Instr.wellFormed (.unknownKindRequest 0 0 20) = false := by decide
theorem test_ill_formed_write_is_refused : exec (.write 0 []) State.reset = .refused .notAPacket := rfl
theorem test_ill_formed_read_is_refused : exec (.read 0 0 33) State.reset = .refused .notAPacket := rfl

/-! ### Worked examples of the spec -/

/-- The profile of 6.5 and 6.6. -/
def profile65 : Profile :=
  { black := 256, white := 4351, gainR := 2048, gainG := 1024, gainB := 1536
    matrix := [1400, -300, -76, -200, 1350, -126, -50, -400, 1474]
    tone := (((((List.replicate 65 0).set 3 40).set 4 52).set 32 180).set 33 184).set 34 188 |>.set 57 236 |>.set 58 240
      |>.set 63 254 |>.set 64 255
    norm := normOf 256 4351 }

theorem test_pixel_of_6_5 :
    (developPixel profile65 { r := 1256, gr := 2256, gb := 2258, b := 756 }).map (·.toNat) = [183, 187, 42, 0] := by decide +kernel
theorem test_pixel_of_6_6 :
    (developPixel profile65 { r := 4400, gr := 3000, gb := 4351, b := 300 }).map (·.toNat) = [255, 239, 0, 11] := by decide +kernel
theorem test_neutral_pixel_of_6_6 :
    (developPixel Profile.neutral { r := 4400, gr := 3000, gb := 4351, b := 300 }).map (·.toNat) = [255, 230, 19, 3] := by
  decide +kernel

/-- The ZONES table and zone 4 of 4.7. -/
def zones47 : Zones := { Zones.reset with rowPhase := 5, leftOffset := 3, rightOffset := 11, zero := 2, confMin := 8 }
def zone47 : Zone := { enabled := true, k0 := 100, k1 := 163, j0 := 40, j1 := 47 }

theorem test_zone_4_of_4_7_2 :
    evalActive zones47 zone47 { standing := .active, rowsUsed := 8, sums := [13000, 12600, 12100, 11500, 10800, 10000, 9100, 8200,
      7300, 6700, 6000, 3000, 4000, 5600, 7100, 8500, 9800] } =
    { status := .valid, rowsUsed := 8, terms := 48, shift := 3, subSite := 1, disparity := 11, confidence := 14, least := 3000,
      total := 145300, edge := .none } := by decide +kernel
theorem test_tie_of_4_7_5 :
    let r := evalActive zones47 zone47 { standing := .active, rowsUsed := 8, sums := [900, 900, 900, 900, 900, 700, 500, 600, 900,
      900, 500, 900, 900, 900, 900, 900, 900] }
    r.shift = -2 ∧ r.subSite = 1 ∧ r.disparity = -9 := by decide +kernel

theorem test_targets_of_5_13 : lens.pair 4266 = { g0 := 4266, g1 := 927, limit := false } := by decide +kernel
theorem test_edge_targets_of_5_13 : lens.pair 4466 = { g0 := 4466, g1 := 947, limit := false } := by decide +kernel

/-- R105: the whole value y_i + quotient is rounded; 1100 − 0.5 rounds away from zero. -/
theorem test_falling_segment_rounds_the_whole : (lens.pair 6010).g1 = 1100 := by decide +kernel

/-- 5.14: a descent, at 10,200, with its pending target. -/
def descending : GroupDrive :=
  { idleAt 4979 with
    state := .moving, leg := .descend, target := some 4980, waypoint := some 4956, pending := some 4990, boundary := some 10500 }

theorem test_retarget_of_5_14 :
    let d := (after (.stepBoundary .g0) (at_ 10500 (withGroups homed descending (idleAt 1000)))).lens.g0
    d.leg = .descend ∧ d.waypoint = some 4966 ∧ d.position = 4978 ∧ d.target = some 4990 := by decide +kernel
theorem test_turn_of_5_14 :
    let d := (after (.stepBoundary .g0) (at_ 17000 (withGroups homed
      { descending with
        target := some 4990, waypoint := some 4966, pending := none, position := 4966, boundary := some 17000 } (idleAt 1000)))).lens.g0
    d.leg = .ascend ∧ d.position = 4967 ∧ d.boundary = some 17500 := by decide +kernel

/-- 3.8: a whole block written at a frame offset, served and performed. -/
def blockWrite (o : Nat) : List Instr :=
  [.write (BitVec.ofNat 29 ((0x80000000 + o) / 8)) (List.replicate 32 { enables := 0xFF, data := 0 }), .ordinaryLaneService,
    .memoryGrant]

theorem test_fire_of_3_8 :
    let s := after (.fire 0 7 1) (at_ 1000000 ready)
    (s.record 0).map (fun x => (x.number, x.destiny)) = some (1, some .kept) ∧ s.pool.reservation = 2 ∧
      s.intake.frame.map (·.deadline) = some 1100000 ∧ s.release.state = .standby := by decide +kernel
theorem test_pages_of_3_8 :
    let s := run (.fire 0 7 1 :: blockWrite 0x100000) (at_ 1000000 ready)
    (s.record 0).map (·.pages) = some [9, 10] ∧ s.pool.free.head? = some 11 ∧ s.intake.frame.map (·.accepted) = some 256 := by
  decide +kernel
theorem test_frame_of_3_8 :
    let s := run (.fire 0 7 1 :: (blockWrite 0x180000 ++ blockWrite 0x17FF00 ++ blockWrite 0x100)) (at_ 1000000 ready)
    (s.record 0).map (fun x => (x.state, x.holds.code)) = some (.kept, 1) ∧ causeCodes s = [0, 1, 5, 6, 16] := by decide +kernel

/-! ### One event of each kind -/

theorem test_resetN : (after .resetN (after (.setMask 0 0 0) ready)).req.mask = 0xFFFFF := by decide +kernel
theorem test_linkStart : (after .linkStart State.reset).link.credits = 32 := by decide +kernel
theorem test_timeBaseTick : (after .timeBaseTick (at_ 0xFFFFFFFF State.reset)).timeBase = 0 := by decide +kernel
theorem test_write_takes_its_credit : (after (.write 0 [{ enables := 1, data := 7 }]) linked).link.credits = 31 := by
  decide +kernel
theorem test_write_reaches_dram :
    (run [.write 2 [{ enables := 1, data := 7 }], .ordinaryLaneService, .memoryGrant] linked).mem.cells = [(16, 7)] := by
  decide +kernel
theorem test_read_of_the_void :
    let s := run [.read 3 (BitVec.ofNat 29 (0xF0000000 / 8)) 1, .ordinaryLaneService] linked
    s.link.sent = [{ tag := 3, data := List.replicate 8 0 }] ∧ causeCodes s = [18] ∧ s.link.credits = 32 := by decide +kernel
theorem test_read_returns_the_write :
    (run [.write 2 [{ enables := 0xFF, data := 0x0807060504030201 }], .ordinaryLaneService, .memoryGrant, .read 9 2 1,
      .ordinaryLaneService, .memoryGrant] linked).link.sent = [{ tag := 9, data := [1, 2, 3, 4, 5, 6, 7, 8] }] := by decide +kernel
theorem test_post_through_the_link :
    result (run [.write (BitVec.ofNat 29 (0x100 / 8)) [{ enables := 0xFF, data := 0x0000000500000114 }, { enables := 0xFF, data := 3 }],
      .ordinaryLaneService, .memoryGrant] linked) 0 = some (.done, 3) := by decide +kernel
/-- R27, R184: PROTECT and UNPROTECT posted by one WRITE change a record and change it back; its mirror is rewritten. -/
theorem test_two_posts_of_one_write_mark_the_mirror :
    let none := { enables := 0, data := 0 }
    let post (kind : BitVec 64) : List WriteBeat := { enables := 0xFF, data := 0x100 + kind } :: { enables := 0xFF, data := 1 } :: List.replicate 6 none
    let s := withShot linked 0 { shot 1 .kept with holds := ⟨true, false, false⟩ }
    let t := run [.write (BitVec.ofNat 29 (0x100 / 8)) (post 11 ++ post 12), .ordinaryLaneService, .memoryGrant] s
    t.record 0 = s.record 0 ∧ result t 1 = some (.done, 0x10003) ∧ .mirror 0 ∈ t.req.reportList := by decide +kernel
theorem test_reportIssue :
    let s := after .reportIssue (after (.setMask 0 0 3) linked)
    s.port.report.map (·.record) = some (.slot 0) ∧ s.req.reportList = [.status] := by decide +kernel
theorem test_lineChange : (after (.lineChange (.debounced .s1) false) (at_ 40 State.reset)).release.s1.since = some 40 := by
  decide +kernel
theorem test_debouncedChange_of_the_full_press :
    let s := after (.debouncedChange .s2) (at_ 5000 (after (.lineChange (.debounced .s2) false) ready))
    s.release.singlePending = false ∧ s.shots.counter = 2 ∧ s.release.state = .burst := by decide +kernel
theorem test_liveTrigger :
    let s := after .liveTrigger { ready with release := { ready.release with state := .live, liveTimer := some 0 } }
    s.intake.frame.map (·.kind) = some (.live 0) ∧ s.release.pulses.length = 1 := by decide +kernel
theorem test_shotTriggerDue :
    let s := after .shotTriggerDue { at_ 212000 ready with
      release := { ready.release with state := .burst, fireCount := 1, shotTimer := some 12000 } }
    s.release.shotTimer = some 212000 ∧ s.release.fireCount = 0 := by decide +kernel
theorem test_ftrig_pulse :
    let s := run [.ftrigPulseBegin] { State.reset with release := { State.reset.release with pulses := [⟨0, 10, false⟩] } }
    s.ftrig = true ∧ (after .ftrigPulseEnd (at_ 10 s)).ftrig = false := by decide +kernel
theorem test_readoutTimeout :
    let s := after .readoutTimeout (at_ 100 (withFrame ready (.live 0)))
    s.intake.frame = none ∧ causeCodes s = [7] := by decide +kernel
theorem test_stepPulseEnd :
    (after (.stepPulseEnd .g1) (at_ 400 (withGroups homed (idleAt 5000) { idleAt 5 with step := true, stepEnd := some 400 }))).lens.g1.step
      = false := by decide +kernel
theorem test_homingBoundary_faults_at_the_limit :
    let s := after (.homingBoundary .g0) (withGroups homed
      { GroupDrive.reset with state := .homing, homingSteps := 9000, boundary := some 0 } (idleAt 0))
    s.lens.g0.state = .fault ∧ causeCodes s = [10] := by decide +kernel
theorem test_settleDeadline :
    (after (.settleDeadline .g0) (at_ 49000 (withGroups homed
      { idleAt 4970 with state := .settling, settleAt := some 49000 } (idleAt 0)))).lens.g0.state = .idle := by decide +kernel
/-- R155: a cut asked while TRDY is awaited before the END word is driven makes the trailer ABORTED. -/
theorem test_cut_before_end_is_aborted :
    (after (.tetherControlDisable 0 0) (onPort .sending
      { item (.waitReady 0) with phase := .trailer, complete := true })).tport.item.map (·.complete) = some false := by decide +kernel
/-- R165: a request that joins a cut leaves the high byte of the word that the first one lets finish. -/
theorem test_joining_cut_keeps_the_high_byte :
    (after (.discard 0 0 1) (onPort .sending
      { item (.waitBetween 0) with highByte := true, cut := [.disable 1], phase := .payload })).tport.item.map (fun i => (i.phase, i.highByte))
      = some (.payload, true) := by decide +kernel
/-- R178: CLEAR_BUFFER raises no UNDERRUN when it cuts an underrun trailer, DISABLE does (log 25). -/
theorem test_clearBuffer_raises_no_underrun :
    let last := { item (.waitBusy 0) with phase := .trailer, word := 1, underran := true }
    let ends (c : CutBy) : State := after (.trdyChange false) (withTaken (onPort .sending { last with cut := [c] }))
    (ends (.clearBuffer 0 1)).tport.item = none ∧ (ends (.clearBuffer 0 1)).pendingCause .underrun = false ∧
      (ends (.disable 0)).pendingCause .underrun = true := by decide +kernel
theorem test_tlinkChange :
    (after (.tlinkChange true) { linked with tport := { linked.tport with state := .waitLink } }).tport.state = .idle := by
  decide +kernel
theorem test_trdyChange_drives_the_start_word :
    (after (.trdyChange true) (onPort .sending (item (.waitReady 0)))).tport.td = 0x5AC3 := by decide +kernel
theorem test_settleWaitEnd :
    (after .settleWaitEnd (withMode (at_ 2 (onPort .sending (item (.settling 2)))) .pulsed)).tport.tstb = true := by decide +kernel
theorem test_strobeEnd :
    (after .strobeEnd (withMode (at_ 4 (onPort .sending (item (.strobe 4)))) .timed)).tport.item.map (·.step) = some .slotRest := by
  decide +kernel
theorem test_wordSlot :
    (after .wordSlot (withMode (at_ 10 (onPort .sending (item .slotRest))) .timed)).tport.td = 0x0102 := by decide +kernel
theorem test_stall :
    let s := after .stall (at_ 100000 (onPort .sending (item (.waitReady 0))))
    s.tport.state = .halted ∧ s.queue.normal = [ref] ∧ causeCodes s = [14] := by decide +kernel
theorem test_tack :
    let s := after (.tack true) (onPort .awaitVerdict (item .done))
    (s.record 0).bind (·.tether) |>.map (·.state) |> (· = some .sent) := by decide +kernel
theorem test_tnak_at_the_limit :
    let s := after (.tnak true) (onPort .awaitVerdict { item .done with attempt := 3 })
    (s.record 0).bind (·.tether) |>.map (·.state) |> (· = some .failed) := by decide +kernel
theorem test_verdictTimeout :
    (after .verdictTimeout { onPort .awaitVerdict (item .done) with
      tport := { (onPort .awaitVerdict (item .done)).tport with verdictAt := some 0 } }).queue.normal = [ref] := by decide +kernel

/-! ### One request of each kind -/

theorem test_configurePool : result (after (.configurePool 1 0 1 200 4) linked) 1 = some (.done, 192) := by decide +kernel
theorem test_configurePool_needs_64_shot_pages : result (after (.configurePool 1 0 1 71 4) linked) 1 = some (.badValue, 0) := by
  decide +kernel
theorem test_loadSettings_of_no_table : result (after (.loadSettings 0 0 7 0) linked) 0 = some (.badValue, 0) := by decide +kernel
theorem test_loadSettings_waits_for_its_read :
    (after (.loadSettings 0 0 2 7) linked).port.settings = [{ slot := 0, table := .develop 7 }] := by decide +kernel
theorem test_selectCapture : (after (.selectCapture 0 0 1) ready).release.active = some 1 := by decide +kernel
theorem test_selectCapture_of_an_invalid_profile : result (after (.selectCapture 0 0 0) ready) 0 = some (.badValue, 0) := by
  decide +kernel
theorem test_setFocus : (after (.setFocus 0 0 2 0 11 1) linked).focus.state = .noLens := by decide +kernel
theorem test_homeLens_steps_at_once :
    let d := (after (.homeLens 0 0) homed).lens.g0
    d.state = .homing ∧ d.homingSteps = 1 ∧ d.position = 0 ∧ d.step = true ∧ d.dir = false := by decide +kernel
/-- R106: the passage through NO_LENS of a HOME_LENS that completes at once fires a trigger that waits with FOCUS. -/
theorem test_homeLens_fires_a_focus_wait :
    let s := { homed with
      pins := { homed.pins with homeG0 := true, homeG1 := true }
      pool := pool
      tables := { ready.tables with lens := some lens }
      focus := { homed.focus with mode := .single, state := .acquiring, policyFocus := true }
      release := { homed.release with
        s1 := { active := true, since := none }, active := some 1, state := .burst, fireCount := 1, waiting := some .focus } }
    (after .timeBaseTick s).release.waiting = some .focus ∧ (after (.homeLens 0 0) s).release.waiting = none ∧
      (after (.homeLens 0 0) s).intake.frame.isSome = true := by decide +kernel
theorem test_moveLens_of_5_14 :
    let d := (after (.moveLens 0 0 4980) homed).lens.g0
    d.leg = .descend ∧ d.waypoint = some 4956 ∧ d.position = 4999 := by decide +kernel
theorem test_fire_of_too_many : result (after (.fire 0 0 256) ready) 0 = some (.badValue, 0) := by decide +kernel
theorem test_mapView :
    let s := after (.mapView 0 0 0 0 1 0 0 0) (withShot linked 0 (shot 1 .kept))
    (s.record 0).map (·.views) = some 1 ∧ result s 0 = some (.done, 0x100010000) := by decide +kernel
theorem test_unmapView_frees :
    let s := after (.unmapView 0 0 0) (withView (withShot ready 0 { shot 1 .kept with views := 1 }) (view (.shot 0 1) false))
    s.record 0 = none ∧ s.pool.free.getLast? = some 70 := by decide +kernel
theorem test_releaseCard_frees :
    result (after (.releaseCard 0 0 1) (withShot linked 0 { shot 1 .kept with holds := ⟨true, false, false⟩ })) 0 = some (.done, 0) := by
  decide +kernel
theorem test_protect : result (after (.protect 0 0 1) (withShot linked 0 (shot 1 .kept))) 0 = some (.done, 0x40003) := by
  decide +kernel
theorem test_unprotect_of_a_provisional_shot :
    result (after (.unprotect 0 0 1) (withShot linked 0 (shot 1 .provisional))) 0 = some (.wrongState, 2) := by decide +kernel
theorem test_discard_of_a_viewed_shot :
    (after (.discard 0 0 1) (withShot linked 0 { shot 1 .kept with views := 1 })).record 0 =
      some { shot 1 .discarded with views := 1 } := by decide +kernel
theorem test_prioritise :
    (after (.prioritise 0 0 1) { withShot linked 0 (tethered 1 .queued) with queue := { urgent := [], normal := [ref] } }).queue =
      { urgent := [ref], normal := [] } := by decide +kernel
/-- R170, R179: PRIORITISE of a shot already URGENT is an entry, and the results beat gives its new position. -/
theorem test_prioritise_enters_again :
    let s := after (.prioritise 0 0 1) { withShot linked 0 (tethered 1 .queued) with queue := { urgent := [], normal := [ref] } }
    result s 0 = some (.done, 0x0101000000010000) ∧ .mirror 0 ∈ (after (.prioritise 1 0 1) { s with req := linked.req }).req.reportList := by
  decide +kernel
theorem test_requeue :
    (after (.requeue 0 0 1) (withShot linked 0 (tethered 1 .failed))).queue.normal = [ref] := by decide +kernel
theorem test_dropTether :
    ((after (.dropTether 0 0 1) (withShot linked 0 (tethered 1 .failed))).record 0).map (·.holds.code) = some 1 := by decide +kernel
theorem test_tetherControlEnable : (after (.tetherControlEnable 0 0) linked).tport.state = .waitLink := by decide +kernel
theorem test_tetherControlDisable :
    (after (.tetherControlDisable 0 0) { linked with tport := { linked.tport with state := .halted } }).tport.state = .disabled := by
  decide +kernel
theorem test_tetherControlResume : result (after (.tetherControlResume 0 0) linked) 0 = some (.wrongState, 0) := by decide +kernel
theorem test_clearBuffer :
    let s := after (.clearBuffer 0 0) (withShot ready 5 (shot 1 .kept))
    s.usedRecords = 0 ∧ result s 0 = some (.done, 0x100C1) := by decide +kernel
theorem test_clearCauses : causeCodes (after (.clearCauses 0 0 8) (linked.raise .bufferWait)) = [16] := by decide +kernel
theorem test_setMask_of_21_bits : result (after (.setMask 0 0 0x100000) linked) 0 = some (.badValue, 0) := by decide +kernel
theorem test_unknownKindRequest : result (after (.unknownKindRequest 0 0 21) linked) 0 = some (.unknownKind, 0) := by decide +kernel
theorem test_collision : causeCodes (after (.unknownKindRequest 0 0 21) (withTaken linked)) = [17] := by decide +kernel

/-! ### Witnesses: the machine and its laws -/

theorem witness_StepTakesTheFrontCommand :
    ({ linked with pending := [.resetN] } : State).pending = .resetN :: [] ∧ ∃ t, exec .timeBaseTick linked = .next t :=
  ⟨rfl, _, rfl⟩

theorem witness_OnlyNonPacketsAreRefused : Instr.wellFormed (.write 0 [{ enables := 0, data := 0 }]) = true := by decide

theorem witness_StepKeepsMemoryForm :
    State.memoryLaw { linked with mem := { epoch := 0, cells := [(3, 1), (5, 2)] } } ∧ ∃ t, step linked = .next t :=
  ⟨by decide +kernel, _, rfl⟩

theorem witness_StepKeepsCreditBalance : linked.creditLaw ∧ ∃ t, step linked = .next t := ⟨by decide +kernel, _, rfl⟩

theorem witness_StepKeepsPageBalance : ready.pageLaw ∧ ∃ t, step ready = .next t := by
  have h : ready.pool.free ++ ready.recordPages = ready.pool.shotPages := by decide +kernel
  have c : ready.pool.configured = true := rfl
  exact ⟨by rw [State.pageLaw, if_pos c, h], _, rfl⟩

theorem witness_StepKeepsShotNumbers : (withShot linked 7 (shot 65535 .kept)).numberLaw ∧ ∃ t, step linked = .next t :=
  ⟨by decide +kernel, _, rfl⟩

theorem witness_StepKeepsPortItem : (onPort .sending (item .waitWord)).portLaw ∧ ∃ t, step linked = .next t :=
  ⟨by decide +kernel, _, rfl⟩

theorem witness_TablesDramAndCausesHaveFewWriters :
    (Instr.timeBaseTick ≠ .memoryGrant ∧ Instr.timeBaseTick ≠ .resetN ∧ Instr.timeBaseTick ≠ .linkStart) ∧
      Instr.wellFormed .timeBaseTick = true ∧ (linked.raise .underrun).pendingCause .underrun = true ∧
      (∀ a b c, Instr.timeBaseTick ≠ .clearCauses a b c) ∧ (∀ a b c, Instr.timeBaseTick ≠ .setMask a b c) ∧
      ∃ t, exec .timeBaseTick (linked.raise .underrun) = .next t :=
  ⟨⟨nofun, nofun, nofun⟩, rfl, by decide +kernel, nofun, nofun, _, rfl⟩

theorem witness_ChangesAreReported :
    let s := withShot linked 0 (shot 1 .kept)
    (after (.protect 0 0 1) s).record 0 ≠ s.record 0 ∧ (after (.setMask 0 0 0) s).statusFields ≠ s.statusFields := by
  decide +kernel

theorem witness_AttentionShowsCauses : ∃ t, exec .resetN linked = .next t := ⟨_, rfl⟩

theorem witness_WrittenBytesReadBack : ({ epoch := 0, cells := [(3, 1)] } : Memory).wf = true := by decide

/-! ### Witnesses: link, lanes and memory port -/

theorem witness_PacketsJoinTheOrdinaryLane :
    let beats : List WriteBeat := List.replicate 32 { enables := 0, data := 0 }
    (1 ≤ beats.length ∧ beats.length ≤ 32 ∧ linked.link.credits ≠ 0) ∧ State.reset.link.credits = 0 ∧
      malformed 31 2 = true ∧ windowOf (byteAddr (BitVec.ofNat 29 (0x90000000 / 8))) = .view 0 ∧
      (withView linked (view .live false)).windows.views[(0 : Fin 4)] = some (view .live false) := by decide +kernel

/-- Shot 1 at index 0, view 0 mapped DEVELOPED to it, and its first row pair in place 0 of the row cache. -/
def cached (p : Place) : State :=
  { withView (withShot linked 0 (shot 1 .kept)) (view (.shot 0 1) true) with
    engine := { linked.engine with places := linked.engine.places.set 0 p, recency := [0] } }

/-- The key of that row pair. -/
def rowKey : Key := { source := .shot 0 1, row := 0 }

/-- A DEVELOP request waits for block 1 of place 0. -/
def filling (p : Place) : State :=
  { cached p with port := { linked.port with develop := [{ place := 0, block := 1, offset := 70 * 1048576 }], lastServed := .settings } }

/-- The engine in a run of that row pair. -/
def inRun (s : State) : State :=
  { s with engine := { s.engine with
      run := some { client := .lane, key := rowKey, geom := geom, run := 0, profile := Profile.neutral, stream := false } } }

theorem witness_DevelopedReadsAreAnswered :
    let a := BitVec.ofNat 29 (0x90000000 / 8)
    let s := cached (.valid rowKey [])
    let e := cached .empty
    let u := inRun (cached (.filling rowKey [] 1))
    (malformed a 32 = false ∧ windowOf (byteAddr a) = .view 0 ∧ s.link.credits ≠ 0 ∧ s.calm ∧
      s.windows.views[(0 : Fin 4)] = some (view (.shot 0 1) true) ∧ s.shotAt ref = some (shot 1 .kept) ∧
      viewOffset (byteAddr a) < geom.developedBytes ∧ s.engine.lookup rowKey = some 0) ∧
    (e.calm ∧ e.engine.lookup rowKey = none ∧ e.engine.places[(0 : Fin 4)] = .empty ∧ (shot 1 .kept).pages = [70] ∧
      geom.width % 128 = 0 ∧ geom.height % 2 = 0 ∧ geom.frameBytes ≤ 1048576) ∧
    (u.link.credits ≠ 0 ∧ u.restful ∧ u.engine.lookup rowKey = some 0 ∧ u.engine.places[(0 : Fin 4)] = .filling rowKey [] 1) := by
  decide +kernel

theorem witness_FillsRunAndEnd :
    let a := BitVec.ofNat 29 (0x90000000 / 8)
    let q : FillRequest := { place := 0, block := 1, offset := 70 * 1048576 }
    let f := filling (.filling rowKey (List.replicate 512 0) 1)
    let g := { inRun f with link := { linked.link with develop := [{ tag := 0, addr := a, count := 32 }] } }
    let d := filling (.discarding 1)
    (f.link.started = true ∧ f.passageWaits = false ∧ f.nextInternal = some .develop ∧ f.port.develop = [q] ∧ f.calm ∧
      256 * q.block + 256 ≤ (List.replicate 512 (0 : Byte)).length) ∧
    (g.restful ∧ g.portQuiet ∧ g.focus.state = g.focusStateNow ∧ g.engine.stream = none ∧ g.engine.lookup rowKey = some 0 ∧
      g.engine.run.map (fun r => (r.client, r.stream, r.key)) = some (.lane, false, rowKey) ∧ g.nextInternal = some .develop) ∧
    d.calm ∧ d.nextInternal = some .develop ∧ d.engine.places[(0 : Fin 4)] = .discarding 1 := by
  decide +kernel

theorem witness_OrdinaryTransfersAreServed :
    (waitingAt [waitingWrite 0x7FFFFFF8] = some 0 ∧ malformed (waitingWrite 0x7FFFFFF8).transfer.addr 1 = false ∧
      byteAddr (waitingWrite 0x7FFFFFF8).transfer.addr < 0x80000000) ∧
    malformed (BitVec.ofNat 29 31) 2 = true ∧ windowOf (byteAddr (BitVec.ofNat 29 (0xD0000000 / 8))) = .void ∧
    windowOf (byteAddr (BitVec.ofNat 29 (0x8FFFFFF8 / 8))) = .capture ∧ linked.intake.frame = none ∧
    windowOf (byteAddr (BitVec.ofNat 29 (0xCFFFFFF8 / 8))) = .view 3 ∧ linked.windows.views[(3 : Fin 4)] = none ∧
    waitingAt [waitingRead 0xFFFFFFF8] = some 0 ∧ windowOf (byteAddr (waitingRead 0xFFFFFFF8).transfer.addr) = .void := by
  decide +kernel

/-- A WRITE, or a READ of one beat, whose PASSAGE request waits. -/
def issuedWrite (off : Nat) (n : Notice) : LaneEntry := { waitingWrite off with service := .issued off n }
def issuedRead (off : Nat) : LaneEntry := { waitingRead off with service := .issued off .none }

/-- The extractor at phase-detect row 0 of a frame of 128 by 64, its row 5, all samples taken; zone 0 takes every site of every row. -/
def extracting : PhaseUnit :=
  { copy := some {
      zones := { zones47 with zone := Vector.replicate 12 { enabled := true, k0 := 0, k1 := 7, j0 := 0, j1 := 3 } }
      geom := { width := 128, height := 64, bits := 12 }, serial := 1, isShot := false, trigTime := 0, shot := 0 }
    row := some 0, store := List.replicate 8 { left := some 100, right := some 90 }
    zones := (Vector.replicate 12 (ZoneSums.clear .disabled)).set 0 (ZoneSums.clear .active), results := none }

theorem witness_CaptureWritesAreFiled :
    let s := withLane (withFrame (withShot ready 0 { shot 1 .filling with pages := [] }) (.shot 0)) [waitingWrite 0x800001F8]
    let u := withLane (withFrame ready (.live 1)) [waitingWrite 0x80000000]
    let g := withLane (withFrame ready (.live 1)) [issuedWrite 0x100000 (.capture 1 0)]
    (waitingAt s.link.ordinary = some 0 ∧ byteAddr (waitingWrite 0x800001F8).transfer.addr - 0x80000000 = 504 ∧
      s.intake.frame = some (frame (.shot 0)) ∧ 504 < (frame (.shot 0)).geom.frameBytes ∧
      s.record 0 = some { shot 1 .filling with pages := [] } ∧ 504 / 1048576 + 1 - 0 ≤ s.pool.free.length ∧
      ([] ++ s.pool.free.take 1)[504 / 1048576]? = some 9) ∧
    (waitingAt u.link.ordinary = some 0 ∧ u.intake.frame = some (frame (.live 1)) ∧ 0 < (frame (.live 1)).geom.frameBytes) ∧
    (g.link.started = true ∧ issuedAt g.link.ordinary = some 0 ∧ g.port.passageRun < 8 ∧ g.intake.frame = some (frame (.live 1)) ∧
      (frame (.live 1)).serial = 1 ∧ 0 + 8 < (frame (.live 1)).geom.frameBytes ∧ (frame (.live 1)).serial ≠ 2) ∧
    (extracting.copy.map (·.geom.width) = some 128 ∧ extracting.row = some 0 ∧ extracting.store.length = 8) ∧
    (0 / 256 % 16 ≠ 5 ∧ 1280 / 256 % 16 = 5 ∧ 1280 / 256 / 16 = 0 ∧ 1280 + 256 = (5 + 1) * (2 * 128) ∧ 1280 + 8 ≠ (5 + 1) * (2 * 128) ∧
      5376 / 256 % 16 = 5 ∧ 0 < 5376 / 256 / 16) ∧
    ((extracting.zones[(0 : Fin 12)]).standing = .active ∧ (extracting.zones[(1 : Fin 12)]).standing = .disabled) := by
  decide +kernel

theorem witness_PassageGrantsArePerformed :
    let s := withLane linked [issuedWrite 0x300 .slots]
    let u := withLane linked [issuedRead 8, waitingRead 16]
    let bytes : List (Option Byte) := [some 5, some 1, none, none, some 9, none, none, none]
    let new := fun a => if 0x100 ≤ a then (bytes[a - 0x100]?).join else none
    let post := { transfer := .write (BitVec.ofNat 29 (0x100 / 8)) bytes, service := .issued 0x100 .slots }
    let v := withLane (cached (.valid rowKey [])) [issuedWrite 0x4600000 (.rawView 0 1)]
    let w := withLane (cached (.filling rowKey [] 2)) [issuedWrite 0x4600000 (.rawView 0 1)]
    (s.link.started = true ∧ issuedAt s.link.ordinary = some 0 ∧ s.port.passageRun < 8) ∧
      (u.link.started = true ∧ u.port.passageRun < 8) ∧
      (issuedAt (withLane linked [post]).link.ordinary = some 0 ∧ new (0x101 + 64 * (0 : Fin 8).val) = some 1 ∧
        (∀ i : Fin 8, i ≠ 0 → new (0x101 + 64 * i.val) ≠ some 1) ∧ (withTaken linked).req.slots[(0 : Fin 8)].state = .taken ∧
        linked.req.slots[(0 : Fin 8)].state ≠ .taken) ∧
      (issuedAt v.link.ordinary = some 0 ∧ v.calm ∧ v.engine.places[(0 : Fin 4)] = .valid rowKey []) ∧
      w.calm ∧ w.engine.places[(0 : Fin 4)] = .filling rowKey [] 2 ∧ w.engine.places[(1 : Fin 4)].key? = none := by decide +kernel

/-- A state in which REPORT and SETTINGS wait. -/
def reporting : State :=
  { linked with
    port := { linked.port with
      report := some { record := .status, chunks := [(0, [1])], shows := 1, serial := 0 }
      settings := [{ slot := 0, table := .live }] } }

theorem witness_ArbiterBoundsPassage :
    let s := withLane reporting [issuedRead 8]
    let u := { withLane linked [issuedRead 8] with port := { linked.port with passageRun := 8 } }
    (s.link.started = true ∧ s.passageWaits = true ∧ s.port.passageRun < 8) ∧
      (reporting.passageWaits = false ∧ (cycleAfter reporting.port.lastServed).find? reporting.waits = some .report) ∧
      u.passageWaits = true ∧ u.port.passageRun = 8 ∧ (cycleAfter u.port.lastServed).find? u.waits = none := by decide +kernel

theorem witness_LastByteCompletesTheFrame :
    let x := { shot 1 .filling with destiny := some .kept, policy := .raw }
    let s := withLane (withFrame ready (.live 0)) [issuedWrite 504 (.capture 1 504)]
    let u := withLane (withFrame (withShot ready 0 x) (.shot 0)) [issuedWrite 504 (.capture 1 504)]
    (issuedAt s.link.ordinary = some 0 ∧ s.port.passageRun < 8 ∧ s.intake.frame = some (frame (.live 0)) ∧
      504 < geom.frameBytes ∧ geom.frameBytes ≤ 504 + 8 ∧ s.calm) ∧
      issuedAt u.link.ordinary = some 0 ∧ u.intake.frame = some (frame (.shot 0)) ∧ u.focus.mode = .off ∧ u.record 0 = some x ∧
      x.lapsed = false ∧ x.destiny = some .kept ∧ x.policy ≠ .none ∧ u.calm ∧ u.tport.state ≠ .idle := by decide +kernel

theorem witness_ReportWritesArePerformed :
    reporting.link.started = true ∧ reporting.passageWaits = false ∧ reporting.nextInternal = some .report ∧
      reporting.port.report.isSome = true ∧ reporting.req.marks = [] ∧
      (ReportRecord.zoneHigh = .zoneHigh ∧ (7 : Word32) ≠ reporting.req.zoneSerial) := by decide +kernel

theorem witness_ReportsAreIssued :
    let s := after (.setMask 0 0 3) linked
    s.link.started = true ∧ s.port.report = none ∧ s.req.reportList = [.slot 0, .status] := by decide +kernel

theorem witness_LinkStartWritesTheReports :
    State.reset.link.started = false ∧ State.reset.memoryLaw ∧ linked.link.started = true := by decide +kernel

/-! ### Witnesses: release unit and frame intake -/

/-- A debouncer in a state, its difference begun at 0. -/
def differing (active : Bool) : Debouncer := { active := active, since := some 0 }

/-- A state with an S1 debouncer, and with an S2 debouncer. -/
def withS1 (s : State) (d : Debouncer) : State := s.setDebouncer .s1 d
def withS2 (s : State) (d : Debouncer) : State := s.setDebouncer .s2 d

theorem witness_LineChangesAreDebounced :
    let high := { linked with pins := linked.pins.setLine .s1 true }
    let low := { linked with pins := linked.pins.setLine .s1 false }
    let quick := { linked with tables := { linked.tables with timing := { linked.tables.timing with s1Debounce := 0 } } }
    (high.reads .s1 = (linked.debouncer .s1).active) ∧
      (low.reads .s1 ≠ (linked.debouncer .s1).active ∧ linked.now < (linked.debouncer .s1).since.getD linked.now + linked.debounceTime .s1) ∧
      (({ quick with pins := quick.pins.setLine .s1 false } : State).reads .s1 ≠ (quick.debouncer .s1).active ∧
        quick.debounceTime .s1 = 0 ∧ (quick.debouncer .s1).since = none) ∧
      ((withS1 linked (differing false)).debouncer .s1).since = some 0 ∧
        0 + linked.debounceTime .s1 ≤ (at_ 5000 (withS1 linked (differing false))).now := by decide +kernel

/-- One provisional shot at index 0, its card hold YES. -/
def provisional : State :=
  { withShot ready 0 { shot 1 .provisional with cardHold := true } with
    shots := { (withShot ready 0 { shot 1 .provisional with cardHold := true }).shots with preList := [0] } }

/-- Shots 1, 2 and 3 provisional, the second viewed and the third without a hold to come; shot 4 fills, provisional. -/
def prefilled : State :=
  let s := withShot (withShot provisional 1 { shot 2 .provisional with policy := .raw, views := 1 }) 2 (shot 3 .provisional)
  withFrame (withShot { s with shots := { s.shots with preList := [0, 1, 2] } } 5
    { shot 4 .filling with destiny := some .provisional }) (.shot 5)

theorem witness_PressesPromoteAndLapse :
    let f := at_ 5000 (withS2 prefilled (differing false))
    let g := at_ 5000 (withS1 prefilled (differing true))
    let meets (s : State) := s.intake.frame = some (frame (.shot 5)) ∧ s.tport.state ≠ .idle ∧ s.fullPress = false ∧
      s.shots.preList.Nodup
    let s := at_ 5000 (withS2 provisional (differing false))
    let u := at_ 5000 (withS1 provisional (differing true))
    (meets f ∧ f.release.s2 = differing false ∧ 0 + f.debounceTime .s2 ≤ f.now ∧ (f.record 2).map (·.views) = some 0) ∧
    (meets g ∧ g.release.s1 = differing true ∧ 0 + g.debounceTime .s1 ≤ g.now ∧ (g.record 1).map (·.views) = some 1) ∧
    (s.release.s2 = differing false ∧ 0 + s.debounceTime .s2 ≤ s.now ∧ s.fullPress = false ∧ s.shots.preList = [0] ∧
      s.record 0 = some { shot 1 .provisional with cardHold := true }) ∧
    u.release.s1 = differing true ∧ 0 + u.debounceTime .s1 ≤ u.now ∧ u.fullPress = false ∧ u.release.singlePending = false ∧
      u.release.fireCount = 0 ∧ u.shots.preList = [0] := by decide +kernel

/-- A lens under HOME_LENS in slot 0, both groups HOMING. -/
def homing : State :=
  let d := { GroupDrive.reset with state := .homing, homingSteps := 1, boundary := some 500 }
  withTaken { withGroups homed d d with lens := { g0 := d, g1 := d, homing := some 0 } }

theorem witness_LensLossStopsBothGroups :
    let s := at_ 5000 (homing.setDebouncer .lready (differing true))
    s.release.lready = differing true ∧ 0 + s.tables.timing.s1Debounce ≤ s.now ∧ s.lens.homing = some 0 ∧
      s.req.slots[(0 : Fin 8)].taken.isSome = true := by decide +kernel

/-- A live timer that is due. -/
def liveDue : State := { ready with release := { ready.release with state := .live, liveTimer := some 0 } }

theorem witness_LiveTriggersOpenFrames :
    (liveDue.release.liveTimer = some 0 ∧ 0 ≤ liveDue.now ∧ liveDue.intake.frame = none ∧ liveDue.pool.configured = true) ∧
      (withFrame liveDue (.live 0)).intake.frame ≠ none := by decide +kernel

/-- A FIRE trigger that is due. -/
def fireDue : State := { at_ 212000 ready with release := { ready.release with state := .burst, fireCount := 1, shotTimer := some 12000 } }

theorem witness_ReadyShotTriggersFire :
    let c := { capture with continuous := true, depth := 2 }
    let s := { provisional with
      pool := { pool with free := [71] }
      tables := { provisional.tables with captures := provisional.tables.captures.set 1 (some c) }
      release := { provisional.release with s1 := { active := true, since := none }, state := .precapture } }
    (fireDue.wantedTrigger = some .fire ∧ fireDue.release.waiting = none ∧ fireDue.shotDue = true ∧
      fireDue.release.active = some 1 ∧ fireDue.tables.captures[(1 : Fin 4)] = some capture ∧ fireDue.intake.frame = none ∧
      fireDue.lowestFree = some 0 ∧ fireDue.pool.reservation + capture.geom.need ≤ fireDue.pool.free.length ∧
      fireDue.focus.policyFocus = false) ∧
    (s.wantedTrigger = some .pre ∧ s.release.waiting = none ∧ s.shotDue = true ∧ s.release.active = some 1 ∧
      s.tables.captures[(1 : Fin 4)] = some c ∧ s.intake.frame = none ∧ s.pool.free.length < s.pool.reservation + c.geom.need ∧
      s.shots.preList.filter (fun j => (s.record j).map (·.views) = some 0) = 0 :: [] ∧
      s.record 0 = some { shot 1 .provisional with cardHold := true } ∧
      s.pool.reservation + c.geom.need ≤ s.pool.free.length + (shot 1 .provisional).pages.length) := by decide +kernel

theorem witness_ReadoutTimeoutsAbortFrames :
    let s := at_ 100 (withFrame ready (.live 0))
    let u := at_ 100 (withFrame (withShot ready 0 (shot 1 .filling)) (.shot 0))
    (s.intake.frame = some (frame (.live 0)) ∧ (frame (.live 0)).deadline ≤ s.now ∧ s.calm) ∧
      u.intake.frame = some (frame (.shot 0)) ∧ u.record 0 = some (shot 1 .filling) ∧ u.calm := by decide +kernel

/-! ### Witnesses: lens, phase detection, development -/

/-- A group that moves up to a target, at its boundary at 500. -/
def moving (leg : Leg) (target : Nat) (waypoint : Option Nat) : GroupDrive :=
  { idleAt 5000 with state := .moving, leg := leg, target := some target, waypoint := waypoint, boundary := some 500 }

theorem witness_StepBoundariesMoveTheLens :
    let s := at_ 500 (withGroups homed (moving .ascend 5001 none) (idleAt 0))
    (s.tables.lens = some lens ∧ (s.lens.group .g0).state = .moving ∧ (s.lens.group .g0).boundary = some 500 ∧ 500 ≤ s.now) ∧
      ((moving .descend 5001 (some 5000)).waypoint = some 5000 ∧ (moving .descend 5001 (some 5000)).target ≠ some 5000) ∧
      (moving .descend 4999 (some 4999)).waypoint ≠ some 5000 ∧ (moving .ascend 5001 none).target ≠ some 5000 ∧
      (moving .descend 5000 (some 5000)).target = some 5000 ∧ (moving .ascend 5000 none).target = some 5000 := by decide +kernel

theorem witness_TimersRun :
    let p : Pulse := { beginAt := 0, endAt := 10, running := false }
    let s := at_ 10 { linked with release := { linked.release with pulses := [p] } }
    let r := at_ 10 { linked with release := { linked.release with pulses := [{ p with running := true }] } }
    let u := at_ 10 (withGroups homed { idleAt 0 with stepEnd := some 10 } { idleAt 0 with state := .settling, settleAt := some 10 })
    (linked.pending = [] ∧ linked.time.divider + 1 < linked.tables.timing.tickDivider) ∧
      (linked.tables.timing.tickDivider ≤ ({ linked with time := { ticks := 0, divider := 23 } } : State).time.divider + 1) ∧
      (s.release.pulses = p :: [] ∧ p.beginAt ≤ s.now) ∧ (r.release.pulses = { p with running := true } :: [] ∧ p.endAt ≤ r.now) ∧
      (u.lens.group .g0).stepEnd = some 10 ∧
      (u.lens.group .g1).state = .settling ∧ (u.lens.group .g1).settleAt = some 10 ∧ 10 ≤ u.now := by decide +kernel

theorem witness_HomingBoundariesHome :
    let s := at_ 500 homing
    let d := { GroupDrive.reset with state := .homing, homingSteps := 9000, boundary := some 500 }
    let u := withGroups s d (idleAt 0)
    (s.tables.lens = some lens ∧ (s.lens.group .g0).state = .homing ∧ (s.lens.group .g0).boundary = some 500 ∧ 500 ≤ s.now) ∧
      (({ s.pins with homeG0 := true } : Pins).home .g0 = true ∧ s.pins.home .g0 = false ∧
        (s.lens.group .g0).homingSteps < (lens.group .g0).homeLimit) ∧
      (lens.group .g0).homeLimit ≤ (u.lens.group .g0).homingSteps ∧ s.lens.homing = some 0 ∧
      s.req.slots[(0 : Fin 8)].taken.isSome = true ∧
      (after (.homingBoundary .g0) u).lens.g0.state ≠ .homing ∧ (after (.homingBoundary .g0) u).lens.g1.state ≠ .homing := by
  decide +kernel

theorem witness_TargetsLieWithinTheKnots :
    2 ≤ lens.knots.length ∧ lens.knots.Pairwise (fun a b => a.1 < b.1) ∧ ∀ k ∈ lens.knots, 120 ≤ k.2 ∧ k.2 ≤ 1100 := by
  decide +kernel

theorem witness_ZoneResultsStayInRange :
    let a : ZoneSums := { standing := .active, rowsUsed := 2, sums := List.range 17 }
    let c : ZoneSums := { standing := .active, rowsUsed := 2, sums := (List.range 17).reverse }
    let d : ZoneSums := { standing := .active, rowsUsed := 2, sums := List.replicate 17 4 }
    (a.rowsUsed - 1 < 2 ∧ 2 ≤ a.rowsUsed ∧ a.sums.length = 17) ∧ ((0 : Nat) : Int) = (evalActive zones47 zone47 a).shift + 8 ∧
      ((16 : Nat) : Int) = (evalActive zones47 zone47 c).shift + 8 ∧ ((8 : Nat) : Int) = (evalActive zones47 zone47 d).shift + 8 ∧
      zones47.zero.natAbs ≤ 16 := by decide +kernel

theorem witness_NormAndToneStayInRange :
    (16382 < 16383 ∧ 16383 ≤ 16383) ∧ Profile.neutral.tone.length = 65 ∧ ∀ k ∈ Profile.neutral.tone, k ≤ 255 := by decide +kernel

/-! ### Witnesses: tether port -/

/-- A port in a state, without an item. -/
def withPort (s : State) (p : PortState) : State := { s with tport := { s.tport with state := p } }

/-- The shot of `ref` QUEUED, alone in the queue. -/
def queued : State := { withShot linked 0 (tethered 1 .queued) with queue := { urgent := [], normal := [ref] } }

theorem witness_LinkChangesMoveThePort :
    (withPort linked .idle).tport.state = .idle ∧ false ≠ linked.tables.tether.tlinkLevel ∧ linked.queue.order = [] ∧
      (withPort linked .halted).tport.state = .halted ∧
      ((onPort .sending (item (.settling 0))).tport.state = .sending ∧
        (onPort .sending (item (.settling 0))).tport.item.map (·.step) ≠ some .waitWord) := by decide +kernel

theorem witness_AnIdlePortTakesTheHead :
    let s := withPort queued .waitLink
    s.restful ∧ s.queue.order = ref :: [] ∧ s.shotAt ref = some (tethered 1 .queued) ∧ (tethered 1 .queued).tether.isSome = true ∧
      s.tables.tether.mode = .interlocked ∧ s.trdyReady = false := by decide +kernel

/-- A TETHER read of block 0 for raw place 0 waits, the item of kind RAW in its payload. -/
def reading (wanted : Bool) (st : Handshake) : State :=
  let s := onPort .sending { item st with kind := .raw, phase := .payload }
  { s with
    pins := { s.pins with trdy := s.tables.tether.trdyLevel }
    tport := { s.tport with raw := #v[.reading 0, .empty] }
    port := { s.port with tether := [{ place := 0, offset := 70 * 1048576, wanted := wanted }], lastServed := .develop } }

theorem witness_UnitsFollowTheHandshake :
    let s := at_ 2 (onPort .sending (item (.settling 2)))
    ((item (.waitReady 0)).phase = .header ∧ (item (.waitReady 0)).highByte = false) ∧
      (s.tport.state = .sending ∧ s.tport.item = some (item (.settling 2)) ∧ 2 ≤ s.now ∧ (withMode s .pulsed).tables.tether.mode ≠ .interlocked ∧
        ({ s with pins := { s.pins with trdy := true } } : State).trdyReady = true) ∧
      s.tables.tether.mode = .interlocked ∧ s.tables.tether.wide = true ∧ (item (.waitBusy 0)).word + 1 < 11 ∧
      (item (.waitBusy 0)).cut = [] ∧ (item (.waitBusy 0)).kind = .developed := by
  decide +kernel

theorem witness_RawBlocksAreStaged :
    let s := reading true .waitWord
    let u := reading false (.waitBusy 0)
    (s.restful ∧ s.engineIdle ∧ s.nextInternal = some .tether ∧ s.passageWaits = false ∧ s.focus.state = s.focusStateNow) ∧
      (s.tport.raw[(0 : Fin 2)] = .reading 0 ∧ s.tport.raw[(1 : Fin 2)] = .empty ∧ s.trdyReady = true ∧
        s.tport.item = some { item .waitWord with kind := .raw, phase := .payload } ∧ (item .waitWord).word = 128 * 0 + 0) ∧
      (reading true (.waitBusy 0)).portQuiet ∧ u.restful ∧ u.engineIdle ∧ u.portQuiet ∧ u.nextInternal = some .tether := by
  decide +kernel

theorem witness_StrobesAndSlotsEnd :
    let s := at_ 10 (onPort .sending (item (.strobe 10)))
    let last := { item .slotRest with word := 10 }
    (s.tport.state = .sending ∧ s.tport.item = some (item (.strobe 10)) ∧ 10 ≤ s.now ∧ (withMode s .timed).tables.tether.mode = .timed) ∧
      ((withMode s .pulsed).tables.tether.mode = .pulsed ∧ s.tables.tether.wide = true ∧ s.trdyReady = false) ∧
      (item .slotRest).slotEnd ≤ s.now ∧ last.slotEnd ≤ s.now ∧ last.phase = .header ∧ last.cut = [] ∧
      s.engine.staging[(0 : Fin 2)] = none ∧ s.engine.staging[(1 : Fin 2)] = none := by decide +kernel

/-- The item of shot 1 awaits its verdict, the window's deadline at 0. -/
def awaiting (it : Item) : State :=
  { onPort .awaitVerdict it with tport := { (onPort .awaitVerdict it).tport with verdictAt := some 0 } }

theorem witness_StallsAndLostVerdictsHaltThePort :
    let s := at_ 100000 (onPort .sending (item (.waitBusy 0)))
    (s.tport.item = some (item (.waitBusy 0)) ∧ 0 + s.tables.tether.stallLimit ≤ s.now ∧ s.restful ∧
      s.record ref.index = some (tethered 1 .sending) ∧ (tethered 1 .sending).number = ref.number) ∧
    (awaiting (item .done)).tport.state = .awaitVerdict ∧ (awaiting (item .done)).tport.verdictAt = some 0 ∧
      (awaiting (item .done)).restful := by decide +kernel

theorem witness_VerdictsDecideTheItem :
    let s := awaiting (item .done)
    let x := tethered 1 .sending
    let y := { x with holds := { x.holds with tether := false } }
    let z := { x with holds := { card := false, tether := true, protect := false } }
    (s.tport.item = some (item .done) ∧ s.restful ∧ s.queue.order = [] ∧ s.tackActive = false ∧ s.tlinkActive = false ∧
      s.tnakActive = false ∧ s.record ref.index = some x ∧ x.state = .kept) ∧ y.holds ≠ Holds.empty ∧
      ((withShot s 0 z).restful ∧ (withShot s 0 z).record 0 = some z ∧ { z.holds with tether := false } = Holds.empty ∧ z.views = 0) ∧
      (item .done).attempt < s.tables.tether.attemptLimit ∧
      s.tables.tether.attemptLimit ≤ ({ item .done with attempt := 3 } : Item).attempt ∧ linked.tport.state ≠ .awaitVerdict := by
  decide +kernel

/-! ### Witnesses: requests -/

theorem witness_PostsCollideOrAreTaken :
    (posted (.homeLens 0 9) = some (0, 5, 9, []) ∧ (withTaken linked).req.slots[(0 : Fin 8)].state = .taken) ∧
      linked.canPost 0 ∧ (20 : Nat) < (21 : Byte).toNat := by decide +kernel

theorem witness_ConfigurePoolSetsUpThePool :
    (((withShot linked 0 (shot 1 .kept)).record 0).isSome = true ∧ (withFrame linked (.live 0)).intake.frame.isSome = true) ∧
      (linked.canPost 0 ∧ (∀ i, linked.record i = none) ∧ linked.intake.frame = none ∧ linked.calm) ∧
      ((1 : Beat).toNat ≤ 72 ∧ 2 * (4 : Beat).toNat + 64 ≤ (72 : Beat).toNat + 1 - (1 : Beat).toNat) ∧
      (71 : Beat).toNat + 1 - (1 : Beat).toNat < 2 * (4 : Beat).toNat + 64 := by decide +kernel

/-- A LOAD_SETTINGS in slot 0 that waits for its read, the bytes of its table written. -/
def loadingOf (r : TableRef) (base : Nat) (bytes : List Nat) : State :=
  withTaken { linked with
    mem := linked.mem.writeMasked base (bytes.map fun b => some (BitVec.ofNat 8 b))
    port := { linked.port with settings := [{ slot := 0, table := r }] } }

/-- One of DEVELOP 7. -/
def loading (bytes : List Nat) : State := loadingOf (.develop 7) (0x4400 + 0x100 * 7) bytes

/-- Bytes that the loads of CAPTURE, LIVE, ZONES, LENS, TETHER and TIMING accept. -/
def captureBytes : List Nat := [1, 3, 1, 1, 2, 12, 0, 4, 0, 3, 0, 0, 0xE8, 3, 0, 0]
def liveBytes : List Nat := [0, 12, 128, 0, 64, 0]
def zonesBytes : List Nat := [3, 1, 2, 254, 9] ++ List.replicate 155 0
def groupBytes : List Nat := [100, 0, 3, 0, 5, 0, 0, 0, 132, 3, 0, 0, 0, 0, 0, 0]
def lensBytes : List Nat :=
  groupBytes ++ groupBytes ++ [0, 6, 4, 2, 100, 0, 9, 2, 10, 0, 20, 0, 30, 0, 5, 0] ++ List.replicate 60 0
def tetherBytes : List Nat := [8, 1, 2, 2, 9, 0, 3, 0, 1, 0, 1, 0, 1, 0, 0, 0, 244, 1, 0, 0, 136, 19, 0, 0]
def timingBytes : List Nat := [10, 1, 0, 0, 1, 0, 10, 0, 20, 0, 0, 0, 3, 0, 5, 0, 0xE8, 3, 0, 0, 0xD0, 7, 0, 0]

/-- The bytes of the neutral profile, and of one whose WL is 0. -/
def neutralBytes : List Nat :=
  [0, 0, 0xFF, 0x0F, 0, 4, 0, 4, 0, 4] ++ [0, 4, 0, 0, 0, 0, 0, 0, 0, 4, 0, 0, 0, 0, 0, 0, 0, 4] ++ List.replicate 4 0
    ++ (List.range 65).map fun i => min 255 (4 * i)
def badBytes : List Nat := [0, 0, 0, 0] ++ neutralBytes.drop 4

theorem witness_SettingsAreLoaded :
    tableOf (7 : Beat).toNat (0 : Beat).toNat = none ∧ (withGroups homed (moving .ascend 5001 none) (idleAt 0)).lens.g0.state.busy = true ∧
      (withPort linked .halted).tport.state ≠ .disabled ∧ tableOf (2 : Beat).toNat (7 : Beat).toNat = some (.develop 7) ∧
      linked.lens.g0.state.busy = false ∧ linked.lens.g1.state.busy = false ∧ linked.tport.state = .disabled ∧
      ((loading badBytes).link.started = true ∧ (loading badBytes).passageWaits = false ∧
        (loading badBytes).nextInternal = some .settings ∧ (loading badBytes).req.slots[(0 : Fin 8)].taken.isSome = true ∧
        (firstFail (developTests ((loading badBytes).mem.readBytes (0x4400 + 0x100 * 7) 97))).isSome = true) ∧
      firstFail (developTests ((loading neutralBytes).mem.readBytes (0x4400 + 0x100 * 7) 97)) = none := by decide +kernel

theorem witness_OtherTablesAreLoaded :
    let s := loadingOf (.capture 2) (0x4000 + 0x40 * 2) captureBytes
    let waits (s : State) := s.link.started = true ∧ s.passageWaits = false ∧ s.nextInternal = some .settings ∧
      s.req.slots[(0 : Fin 8)].taken.isSome = true
    let read (b : Nat) (bytes : List Nat) := (loadingOf .live b bytes).mem.readBytes b bytes.length
    waits s ∧ (firstFail (captureTests (read 0x4080 captureBytes)) = none ∧
      (firstFail (captureTests (read 0x4080 (2 :: captureBytes.drop 1)))).isSome = true) ∧
    firstFail (liveTests linked.pool (read 0x4100 liveBytes)) = none ∧ firstFail (zonesTests (read 0x4200 zonesBytes)) = none ∧
    firstFail (lensTests (read 0x4300 lensBytes)) = none ∧ firstFail (tetherTests (read 0x4180 tetherBytes)) = none ∧
    firstFail (timingTests (read 0x4140 timingBytes)) = none ∧
    ((withGroups (loadingOf .lens 0x4300 lensBytes) (moving .ascend 5001 none) (idleAt 0)).lens.g0.state.busy = true ∧
      (withPort (loadingOf .tether 0x4180 tetherBytes) .halted).tport.state ≠ .disabled) ∧
    s.lens.g0.state.busy = false ∧ s.lens.g1.state.busy = false ∧ s.tport.state = .disabled := by decide +kernel

theorem witness_SelectCaptureActivates :
    let profiles := provisional.tables.captures.set 0 (some { capture with continuous := true, depth := 3 })
    let deep := { provisional with
      release := { provisional.release with active := some 0 }
      tables := { provisional.tables with captures := profiles } }
    (ready.canPost 0 ∧ 3 < (4 : Beat).toNat ∧ ready.tables.captures[(0 : Fin 4)] = none ∧
      ready.tables.captures[(1 : Fin 4)] = some capture ∧ ready.calm ∧ ready.depth ≤ capture.depth) ∧
      (deep.canPost 0 ∧ deep.fireless ∧ deep.tables.captures[(1 : Fin 4)] = some capture ∧ capture.depth < deep.depth ∧
        deep.shots.preList.Nodup) := by decide +kernel

/-- The half press active, a LIVE frame in flight, one provisional shot, the depth of the active profile 3. -/
def pressed : State :=
  let s := withS1 (withFrame provisional (.live 0)) { active := true, since := none }
  { s with
    release := { s.release with active := some 0 }
    tables := { s.tables with captures := s.tables.captures.set 0 (some { capture with continuous := true, depth := 3 }) } }

theorem witness_SelectCaptureActivates_pressed :
    pressed.halfPress = true ∧ pressed.canPost 0 ∧ pressed.fireless ∧ capture.depth < pressed.depth ∧
      pressed.tables.captures[(1 : Fin 4)] = some capture ∧ pressed.shots.preList = [0] := by decide +kernel

theorem witness_SetFocusReplacesTheSettings :
    linked.canPost 0 ∧ 2 < (3 : Beat).toNat ∧ 11 < (12 : Beat).toNat ∧ 1 < (2 : Beat).toNat ∧
      (2 : Beat).toNat = FocusMode.tracking.code ∧ (0 : Beat).toNat = Selection.fixed.code ∧ (11 : Beat).toNat = (11 : Fin 12).val ∧
      linked.focus.state = linked.focusStateNow := by decide +kernel

theorem witness_HomeLensHomesBothGroups :
    let away := { homed with release := { homed.release with lready := { active := false, since := none } } }
    let home := { homed with pins := { homed.pins with homeG0 := true, homeG1 := true } }
    (linked.canPost 0 ∧ linked.tables.lens = none) ∧ (away.canPost 0 ∧ away.tables.lens ≠ none ∧ away.release.lready.active = false) ∧
      (homing.canPost 1 ∧ homing.release.lready.active = true ∧ homing.lens.g0.state = .homing) ∧
      (homed.canPost 0 ∧ homed.tables.lens = some lens ∧ homed.lens.g0.state ≠ .homing ∧ homed.lens.g1.state ≠ .homing ∧
        homed.pins.home .g0 = false ∧ homed.pins.home .g1 = false ∧ 1 ≤ (lens.group .g0).homeLimit ∧ 1 ≤ (lens.group .g1).homeLimit) ∧
      home.canPost 0 ∧ home.pins.home .g0 = true ∧ home.pins.home .g1 = true ∧ (home.lens.group .g0).state ≠ .moving ∧
        (home.lens.group .g1).state ≠ .moving := by decide +kernel

/-- A homed lens with focus control ACQUIRING: mode SINGLE and the half press held. -/
def acquiring : State :=
  withS1 { homed with focus := { homed.focus with mode := .single, state := .acquiring } } { active := true, since := none }

/-- R53, R57: a TIMING load that turns REMOTE_USE on, REMOTE active: its full press begins a FOCUS wait, whose live trigger fires a frame
and sets the live timer; the load tests the waiting trigger no second time. -/
theorem test_timing_load_begins_a_focus_wait :
    let s := loadingOf .timing 0x4140 (timingBytes.set 10 10)
    let t := after .memoryGrant { acquiring with
      mem := s.mem, port := s.port, req := s.req, pool := pool
      tables := { ready.tables with lens := some lens, live := { enabled := true, geom := geom } }
      focus := { acquiring.focus with policyFocus := true }
      release := { acquiring.release with
        remote := { active := true, since := none }, active := some 1, state := .live, liveTimer := some 900 } }
    t.tables.timing.remoteUse = true ∧ t.release.state = .burst ∧ t.release.waiting = some .focus ∧
      t.release.liveTimer = some 2000 ∧ t.intake.frame.isSome = true := by decide +kernel

/-- A LIVE frame of the zone of 4.7.2 awaits its last byte, in a focus state, with DISPARITY_ZERO as given. -/
def focusing (mode : FocusMode) (state : FocusState) (sel : Selection) (zero : Int) : State :=
  let s := withLane (withFrame acquiring (.live 0)) [issuedWrite 504 (.capture 1 504)]
  { s with
    focus := { s.focus with mode := mode, state := state, selection := sel, lastZone := some 4, lastDisparity := 11 }
    intake := { s.intake with frame := some { frame (.live 0) with latch := { g0 := .idle, g1 := .idle, position := 5000 } } }
    phase := { s.phase with
      copy := some {
        zones := { zones47 with zero := zero, zone := Vector.replicate 12 zone47 }
        geom := geom, serial := 1, isShot := false, trigTime := 0, shot := 0 }
      zones := Vector.replicate 12 { standing := .active, rowsUsed := 8, sums := [13000, 12600, 12100, 11500, 10800, 10000, 9100, 8200,
        7300, 6700, 6000, 3000, 4000, 5600, 7100, 8500, 9800] } } }

theorem witness_LastByteActsOnFocus :
    let s := focusing .single .acquiring .sticky 2
    let near := focusing .single .acquiring .nearest 13
    let t := after .memoryGrant s
    let u := after .memoryGrant near
    (s.phase.copy.isSome = true ∧ s.focus.mode ≠ .off ∧ s.focus.state = s.focusStateNow ∧ s.tables.lens = some lens ∧
      s.focus.lastZone = some 4 ∧ (t.phase.results.map fun r => (r.zones[(4 : Fin 12)]).status) = some .valid ∧
      t.focus.lastZone = some 4 ∧ t.focus.lastInFocus = false) ∧
    (u.focus.lastInFocus = true ∧ near.focus.state = .acquiring ∧ near.intake.frame.map (·.latch.g0) = some .idle) ∧
    ((focusing .single .acquiring .fixed 2).focus.selection = .fixed) ∧
    ((focusing .single .locked .sticky 2).focus.state = (focusing .single .locked .sticky 2).focusStateNow) ∧
    (focusing .tracking .tracking .nearest 13).focus.state = (focusing .tracking .tracking .nearest 13).focusStateNow ∧
      (after .memoryGrant (focusing .tracking .tracking .nearest 13)).focus.lastZone = some 0 ∧
      (roundHalfAway (0 * lens.gain) 256).natAbs < lens.deadband ∧ lens.deadband ≤ (roundHalfAway (11 * lens.gain) 256).natAbs := by
  decide +kernel

theorem witness_MoveLensHandsTargetsOn :
    (homed.canPost 0 ∧ 32767 < (32768 : Beat).toNat) ∧ linked.tables.lens = none ∧
      (acquiring.canPost 0 ∧ (32767 : Beat).toNat ≤ 32767 ∧ acquiring.lensHomed = true ∧ acquiring.focus.state = .acquiring) ∧
      homed.tables.lens = some lens ∧ homed.lensHomed = true ∧ homed.focus.state ≠ .acquiring ∧ homed.focus.state ≠ .tracking ∧
      homed.focus.state = homed.focusStateNow ∧ (GroupDrive.reset.state = .unhomed) ∧
      ((idleAt 5000).state = .idle ∧ (idleAt 5000).position < 5001 ∧ 4999 < (idleAt 5000).position) ∧
      (moving .ascend 5001 none).state = .moving := by decide +kernel

theorem witness_FireCountsShots :
    let s := withFrame ready (.live 0)
    (ready.canPost 0 ∧ (0 : Beat).toNat < 1 ∧ 255 < (256 : Beat).toNat) ∧ linked.readyToShoot = false ∧
      (s.canPost 0 ∧ 1 ≤ (255 : Beat).toNat ∧ s.release.fireCount + (255 : Beat).toNat ≤ 65535 ∧ s.readyToShoot = true ∧
        s.intake.frame ≠ none) ∧
      ready.calm ∧ ready.pool.configured = true ∧ ready.release.active = some 1 ∧ ready.lowestFree = some 0 ∧
      ready.pool.reservation + capture.geom.need ≤ ready.pool.free.length ∧ ready.focus.policyFocus = false ∧
      ready.release.shotTimer = none := by decide +kernel

theorem witness_MapViewMapsAView :
    let s := withShot linked 0 (shot 1 .kept)
    let u := withShot linked 0 (shot 1 .filling)
    (linked.canPost 0 ∧ 3 < (4 : Beat).toNat ∧ 7 < (8 : Beat).toNat) ∧ (3 : Beat).toNat = (3 : Fin 4).val ∧
      (withView linked (view .live false)).windows.views[(0 : Fin 4)] ≠ none ∧ linked.windows.views[(3 : Fin 4)] = none ∧
      linked.findShot 0 = none ∧ (s.findShot 1 = some 0 ∧ s.record 0 = some (shot 1 .kept)) ∧
      u.findShot 1 = some 0 ∧ (shot 1 .filling).state = .filling := by decide +kernel

theorem witness_UnmapViewFreesTheView :
    let x := { shot 1 .kept with views := 1 }
    let s := withView (withShot ready 0 x) (view (.shot 0 1) false)
    let u := withView (withShot ready 0 { x with views := 2 }) (view (.shot 0 1) false)
    (linked.canPost 0 ∧ 3 < (4 : Beat).toNat ∧ linked.windows.views[(0 : Fin 4)] = none) ∧
      (withView linked (view .live false)).windows.views[(0 : Fin 4)] = some (view .live false) ∧
      (s.canPost 0 ∧ s.windows.views[(0 : Fin 4)] = some (view (.shot 0 1) false) ∧ s.record 0 = some x ∧ x.number = 1 ∧
        x.views - 1 = 0 ∧ x.holds = Holds.empty ∧ s.calm) ∧ u.record 0 = some { x with views := 2 } ∧ 2 - 1 ≠ 0 ∧ u.calm := by
  decide +kernel

theorem witness_FreedRecordsAreForgotten :
    let s := { cached (.valid rowKey []) with
      link := { linked.link with develop := [{ tag := 0, addr := 0, count := 1 }] }
      engine := { linked.engine with
        run := some { client := .lane, key := rowKey, geom := geom, run := 0, profile := Profile.neutral, stream := false } } }
    (s.record 0 = some (shot 1 .kept) ∧ rowKey.source = .shot 0 1 ∧ s.link.develop ≠ [] ∧ s.engine.run.isSome = true) ∧
      (cached (.valid rowKey [])).engine.run = none ∧ (onPort .sending (item .waitWord)).tport.item = some (item .waitWord) ∧
      (item .waitWord).source = { index := 0, number := 1 } := by decide +kernel

theorem witness_NamedShotsAreFound :
    let s := withShot linked 0 (shot 65535 .kept)
    let u := withShot linked 0 (shot 1 .provisional)
    (linked.canPost 0 ∧ linked.findShot 0 = none ∧ linked.findShot 65535 = none) ∧
      (s.canPost 0 ∧ s.findShot 65535 = some 0 ∧ s.record 0 = some (shot 65535 .kept)) ∧ u.findShot 1 = some 0 ∧
      (shot 1 .provisional).state ≠ .kept := by decide +kernel

/-- A KEPT shot with a set of holds. -/
def held (card tether protect : Bool) : Shot := { shot 1 .kept with holds := { card := card, tether := tether, protect := protect } }

theorem witness_HoldRequestsRemoveHolds :
    let s := withShot ready 0 (held true false true)
    let u := withShot ready 0 (held true false false)
    (s.canPost 0 ∧ s.findShot 1 = some 0 ∧ s.record 0 = some (held true false true) ∧ (held true false true).state = .kept ∧
      s.calm) ∧ (held false false true).holds ≠ Holds.empty ∧
      u.findShot 1 = some 0 ∧ (held false false false).holds = Holds.empty ∧ (held true false false).views = 0 ∧ u.calm ∧
      (held true false false).holds.protect = false := by decide +kernel

theorem witness_DiscardTakesShotsOut :
    let s := fun st v => withShot ready 0 { shot 1 st with views := v }
    let u := withShot (onPort .sending (item (.settling 0))) 0 { tethered 1 .sending with views := 1 }
    ((s .filling 0).canPost 0 ∧ (s .filling 0).findShot 1 = some 0 ∧ (s .filling 0).calm) ∧ (s .discarded 1).findShot 1 = some 0 ∧
      (s .provisional 0).findShot 1 = some 0 ∧ ((s .kept 1).findShot 1 = some 0 ∧ (s .kept 1).onPort ref = false) ∧
      u.findShot 1 = some 0 ∧ u.tport.state = .sending ∧ u.tport.item = some (item (.settling 0)) ∧
      (item (.settling 0)).attached = true ∧ (item (.settling 0)).source = ref ∧ (item (.settling 0)).step.underWay = true ∧ u.calm := by
  decide +kernel

theorem witness_DiscardTakesShotsOut_pressed :
    pressed.halfPress = true ∧ pressed.canPost 0 ∧ pressed.fireless ∧ pressed.findShot 1 = some 0 ∧
      (pressed.record 0).map (fun x => (x.state, x.views)) = some (.provisional, 0) := by decide +kernel

theorem witness_QueueRequestsMoveShots :
    let s := withShot linked 0 (shot 1 .kept)
    let u := fun st => withShot linked 0 (tethered 1 st)
    (s.canPost 0 ∧ s.findShot 1 = some 0 ∧ (shot 1 .kept).tether = none) ∧ (u .sent).findShot 1 = some 0 ∧
      queued.findShot 1 = some 0 ∧ ((u .failed).findShot 1 = some 0 ∧ (u .failed).calm ∧ (u .failed).tport.state ≠ .idle) ∧
      (tethered 1 .failed).state = .kept := by decide +kernel

theorem witness_DropTetherWithdrawsShots :
    let s := fun x => withShot ready 0 x
    let u := onPort .sending (item (.settling 0))
    ((s (held true false false)).canPost 0 ∧ (s (held true false false)).findShot 1 = some 0 ∧
      (held true false false).holds.tether = false ∧ (held true false false).tether = none) ∧
      ({ tethered 1 .sent with holds := Holds.empty } : Shot).holds.tether = false ∧
      ((s (held true true false)).findShot 1 = some 0 ∧ (s (held true true false)).onPort ref = false ∧
        (s (held true true false)).calm) ∧ (held true false false).holds ≠ Holds.empty ∧
      ((s (held false true false)).findShot 1 = some 0 ∧ (held false false false).holds = Holds.empty ∧
        (held false true false).views = 0) ∧
      u.findShot 1 = some 0 ∧ u.tport.item = some (item (.settling 0)) ∧ (item (.settling 0)).step.underWay = true ∧
      (tethered 1 .sending).holds.tether = true ∧ u.calm := by decide +kernel

theorem witness_TetherControlMovesThePort :
    let s := onPort .sending (item (.settling 0))
    let u := awaiting (item .done)
    (linked.canPost 0 ∧ linked.tport.state = .disabled ∧ linked.tport.state ≠ .halted ∧ linked.calm ∧ linked.queue.order = []) ∧
      (withPort linked .halted).tport.state ≠ .disabled ∧
      (s.tport.state = .sending ∧ s.tport.item = some (item (.settling 0)) ∧ (item (.settling 0)).step.underWay = true ∧ s.calm) ∧
      u.tport.state = .awaitVerdict ∧ u.tport.item = some (item .done) ∧ (item .done).cut = [] ∧ u.restful ∧
      u.record ref.index = some (tethered 1 .sending) := by decide +kernel

theorem witness_ClearBufferEmptiesTheBuffer :
    let u := onPort .sending (item (.settling 0))
    (ready.canPost 0 ∧ ready.halfPress = false ∧ ready.tables.live.enabled = false ∧ ready.tport.item = none) ∧
      u.canPost 0 ∧ u.halfPress = false ∧ u.tables.live.enabled = false ∧ u.tport.state = .sending ∧
      (item (.settling 0)).step.underWay = true := by decide +kernel

theorem witness_CausesAreClearedAndMasked :
    let u := reporting.raise .frameDone
    (u.link.started = true ∧ u.passageWaits = false ∧ u.nextInternal = some .report ∧
      u.port.report.map (fun q => (q.record, q.shows.getLsbD Cause.frameDone.code)) = some (.status, true) ∧
      u.pendingCause .frameDone = true) ∧
    linked.canPost 0 ∧ 2 ^ 20 ≤ (0x100000 : Beat).toNat ∧ (0xFFFFF : Beat).toNat < 2 ^ 20 := by decide +kernel

end Sys2Proof.Tests
end

section
/-! SUPPORT. CONFIGURE_POOL (R3, R4): its tests, its effects, and that with every record FREE nothing that follows it touches
the free list or takes a mark back. -/

namespace Sys2Proof.Machine

/-! ### What leaves the pool, the shot table and the request unit alone -/

/-- The pool, the shot table and the request unit of `t` are those of `s`. -/
structure State.Ledger (s t : State) : Prop where
  pool : t.pool = s.pool
  shots : t.shots = s.shots
  req : t.req = s.req

theorem State.Ledger.refl (s : State) : s.Ledger s := ⟨rfl, rfl, rfl⟩

theorem State.Ledger.trans {s t u : State} (h : s.Ledger t) (k : t.Ledger u) : s.Ledger u :=
  ⟨k.pool.trans h.pool, k.shots.trans h.shots, k.req.trans h.req⟩

theorem State.ledger_engine (s : State) (x : Engine) : s.Ledger { s with engine := x } := ⟨rfl, rfl, rfl⟩

theorem State.ledger_release (s : State) (x : ReleaseUnit) : s.Ledger { s with release := x } := ⟨rfl, rfl, rfl⟩

theorem State.ledger_openFrame (s : State) (k : FrameKind) (g : Geometry) : s.Ledger (s.openFrame k g) := ⟨rfl, rfl, rfl⟩

theorem State.ledger_answerLane (s : State) (f : LaneRead → List Byte) : s.Ledger (s.answerLane f) := by
  unfold State.answerLane
  split
  · exact .refl s
  · exact ⟨rfl, rfl, rfl⟩

theorem State.ledger_endRun (s : State) : s.Ledger s.endRun := by
  unfold State.endRun
  split
  · exact .refl s
  · split
    · exact (s.ledger_engine _).trans (State.ledger_answerLane _ _)
    · exact s.ledger_engine _

theorem State.ledger_dropLive (s : State) (hit : Fin 2 → Bool) : s.Ledger (s.dropLive hit) := by
  unfold State.dropLive
  dsimp only
  split
  · exact (s.ledger_engine _).trans (State.ledger_endRun _)
  · exact s.ledger_engine _

/-! The release unit's derivation (R56, R57, R64) -/

theorem State.ledger_liveFallsDue (s : State) (due : Nat) : s.Ledger (s.liveFallsDue due) := by
  unfold State.liveFallsDue
  dsimp only
  split
  · exact ((s.ledger_release _).trans (State.ledger_dropLive _ _)).trans (State.ledger_openFrame _ _ _)
  · exact s.ledger_release _

theorem State.ledger_syncLive (s old : State) : s.Ledger (s.syncLive old) := by
  unfold State.syncLive
  split
  · exact s.ledger_liveFallsDue _
  · split
    · exact .refl s
    · exact s.ledger_release _

theorem State.ledger_deriveRelease (s old : State) : s.Ledger (s.deriveRelease old) := by
  unfold State.deriveRelease State.dropUnwanted
  split
  · exact ((s.ledger_release _).trans (State.ledger_release _ _)).trans (State.ledger_syncLive _ _)
  · exact (s.ledger_release _).trans (State.ledger_syncLive _ _)

/-! The develop engine (R136 to R142) -/

theorem State.ledger_startFill (s : State) (p : Fin 4) (k : Key) (g : Geometry) : s.Ledger (s.startFill p k g) := ⟨rfl, rfl, rfl⟩

theorem State.ledger_prefetch (s : State) (k : Key) (g : Geometry) : s.Ledger (s.prefetch k g) := by
  unfold State.prefetch State.tryFill
  split
  · split
    · exact (s.ledger_engine _).trans (State.ledger_startFill _ _ _ _)
    · exact .refl s
  · exact .refl s

theorem State.ledger_completeRun (s : State) (r : Run) (p : Fin 4) (d : List Byte) : s.Ledger (s.completeRun r p d) := by
  unfold State.completeRun
  dsimp only
  split
  · split
    · exact ((s.ledger_engine _).trans (State.ledger_answerLane _ _)).trans (State.ledger_prefetch _ _ _)
    · exact (s.ledger_engine _).trans (State.ledger_answerLane _ _)
  · exact s.ledger_engine _

theorem State.ledger_pickRun (s t : State) (h : s.pickRun = some t) : s.Ledger t := by
  unfold State.pickRun at h
  split at h
  · split at h
    · cases h; exact s.ledger_engine _
    · cases h; exact s.ledger_answerLane _
  · split at h
    · cases h
      unfold State.takeStreamRun
      dsimp only
      split
      · exact (s.ledger_engine _).trans (State.ledger_prefetch _ _ _)
      · exact s.ledger_engine _
    · cases h

theorem State.ledger_engineAct (s t : State) (h : s.engineAct = some t) : s.Ledger t := by
  unfold State.engineAct at h
  split at h
  · exact s.ledger_pickRun t h
  · split at h
    · split at h
      · cases h; exact s.ledger_completeRun _ _ _
      · cases h
    · split at h
      · cases h; exact (s.ledger_engine _).trans (State.ledger_startFill _ _ _ _)
      · cases h

theorem State.ledger_engineActs (n : Nat) (s : State) : s.Ledger (s.engineActs n) := by
  induction n generalizing s with
  | zero => exact .refl s
  | succ n ih =>
    unfold State.engineActs
    split
    · exact (s.ledger_engineAct _ (by assumption)).trans (ih _)
    · exact .refl s

/-! The tether port (R152, R156 to R160) -/

theorem State.ledger_feedPlace (s : State) (i : Fin 2) : s.Ledger (s.feedPlace i) := by
  unfold State.feedPlace
  split
  · exact .refl s
  · split
    · dsimp only
      split <;> exact ⟨rfl, rfl, rfl⟩
    · exact .refl s

theorem State.ledger_beginUnit (s : State) (n : Nat) : s.Ledger (s.beginUnit n) := by
  unfold State.beginUnit
  split
  · exact .refl s
  · split <;> split <;> exact ⟨rfl, rfl, rfl⟩

theorem State.ledger_resumeUnit (s : State) : s.Ledger s.resumeUnit := by
  unfold State.resumeUnit
  split
  · exact .refl s
  · split
    · exact s.ledger_beginUnit _
    · exact .refl s

/-! ### What keeps the free list and the marks -/

/-- The free list of `t` is that of `s`, and every record marked in `s` is marked in `t`. -/
structure State.KeepsFree (s t : State) : Prop where
  free : t.pool.free = s.pool.free
  marks : s.req.marks ⊆ t.req.marks

theorem State.Ledger.keepsFree {s t : State} (h : s.Ledger t) : s.KeepsFree t :=
  ⟨by rw [h.pool], by rw [h.req]; exact List.Subset.refl _⟩

theorem State.KeepsFree.trans {s t u : State} (h : s.KeepsFree t) (k : t.KeepsFree u) : s.KeepsFree u :=
  ⟨k.free.trans h.free, fun _ hr => k.marks (h.marks hr)⟩

theorem State.keepsFree_waitFor (s : State) (r : WaitReason) : s.KeepsFree (s.waitFor r) := by
  unfold State.waitFor
  dsimp only
  split
  · exact ⟨rfl, List.subset_append_left _ _⟩
  · exact (s.ledger_release _).keepsFree

theorem State.keepsFree_openRecord (s : State) (i : Fin 48) (x : Option Shot) (n m : Nat) :
    s.KeepsFree { s.setRecord i x with
      shots := { (s.setRecord i x).shots with counter := n }
      pool := { (s.setRecord i x).pool with reservation := m } } := ⟨rfl, List.Subset.refl _⟩

/-- A shot that is opened reserves pages and takes none (R6, R7). -/
theorem State.keepsFree_openShot (s : State) (i : Fin 48) (c : Fin 4) (p : Capture) (d : Destiny) :
    s.KeepsFree (s.openShot i c p d) := s.keepsFree_openRecord i _ _ _

theorem State.keepsFree_fireShot (s : State) (k : TriggerKind) : s.KeepsFree (s.fireShot k) := by
  unfold State.fireShot
  split
  · exact (s.keepsFree_openShot _ _ _ _).trans ((State.ledger_release _ _).trans (State.ledger_openFrame _ _ _)).keepsFree
  · exact (State.Ledger.refl s).keepsFree

theorem State.keepsFree_takeItem (s : State) (r : ShotRef) (x : Shot) (p : TetherPart) : s.KeepsFree (s.takeItem r x p) := by
  unfold State.takeItem
  dsimp only
  refine State.KeepsFree.trans ?_ (State.ledger_beginUnit _ _).keepsFree
  split
  · exact ⟨rfl, List.Subset.refl _⟩
  · refine State.KeepsFree.trans ?_ ((State.ledger_feedPlace _ 0).trans (State.ledger_feedPlace _ 1)).keepsFree
    exact ⟨rfl, List.Subset.refl _⟩

theorem State.keepsFree_takeNext (s : State) : s.KeepsFree s.takeNext := by
  have same := (State.Ledger.refl s).keepsFree
  unfold State.takeNext
  split
  · split
    · exact same
    · split
      · split
        · exact s.keepsFree_takeItem _ _ _
        · exact same
      · exact same
  · exact same

/-! ### With every record FREE -/

/-- With every record FREE no shot can be evicted to make room (R23). -/
theorem State.roomFor_of_noRecords (s : State) (k : TriggerKind) (h : ∀ i, s.record i = none) : s.roomFor k = s := by
  have none_unviewed : s.unviewedList = [] := by simp [State.unviewedList, State.unviewed, h]
  unfold State.roomFor
  rw [none_unviewed]
  split <;> rfl

theorem State.keepsFree_testTrigger (s : State) (k : TriggerKind) (h : ∀ i, s.record i = none) :
    s.KeepsFree (s.testTrigger k) := by
  unfold State.testTrigger
  rw [s.roomFor_of_noRecords k h]
  dsimp only
  split
  · exact (s.keepsFree_fireShot k).trans (State.ledger_deriveRelease _ _).keepsFree
  · exact (s.keepsFree_waitFor _).trans (State.ledger_syncLive _ _).keepsFree

theorem State.keepsFree_updateRelease (s old : State) (h : ∀ i, s.record i = none) : s.KeepsFree (s.updateRelease old) := by
  have derived := s.ledger_deriveRelease old
  have noRecords : ∀ i, (s.deriveRelease old).record i = none := fun i => by
    rw [State.record, derived.shots]; exact h i
  have tested := fun k => derived.keepsFree.trans (State.keepsFree_testTrigger _ k noRecords)
  unfold State.updateRelease
  dsimp only
  split
  · exact derived.keepsFree
  · split
    · split
      · exact tested _
      · exact derived.keepsFree
    · split
      · exact tested _
      · exact derived.keepsFree

/-- With every record FREE, what follows an event takes no page, frees none, and takes no mark back. -/
theorem State.keepsFree_settle (s old : State) (h : ∀ i, s.record i = none) : s.KeepsFree (s.settle old) :=
  have focused : s.Ledger s.deriveFocus := ⟨rfl, rfl, rfl⟩
  ((focused.keepsFree.trans (s.deriveFocus.keepsFree_updateRelease old h)).trans (State.keepsFree_takeNext _)).trans
    ((State.ledger_engineActs 128 _).trans (State.ledger_resumeUnit _)).keepsFree

/-- R184: an event that has marked the status record leaves it in the report list. -/
theorem State.status_mem_finishEvent (s old : State) (h : .status ∈ s.req.marks) :
    .status ∈ (s.finishEvent old).req.reportList := by
  have contained : s.req.marks.contains .status = true := List.contains_iff_mem.mpr h
  simp only [State.finishEvent, State.eventMarks, contained, Bool.true_or, if_true, List.foldl_append, List.foldl_cons,
    List.foldl_nil, joinReport]
  exact List.mem_append_right _ (List.mem_singleton_self _)

/-! ### The request -/

/-- An argument of a request is the beat it was posted with. -/
theorem arg_putArgs (a : Vector Beat 6) (l : List Beat) (i : Fin 6) (h : i.val < l.length) : arg (putArgs a l) i = l[i].toNat := by
  simp [arg, putArgs, h]

/-- A post of CONFIGURE_POOL hands its three arguments to the page pool. -/
theorem State.perform_configurePool (s : State) (slot : Fin 8) (a : Vector Beat 6) (f l lp : Beat) :
    s.perform slot (kindCode 1) (putArgs a [f, l, lp]) = s.reqConfigurePool slot f.toNat l.toNat lp.toNat := by
  show s.reqConfigurePool slot (arg _ 0) (arg _ 1) (arg _ 2) = _
  have given : ∀ i : Fin 3, i.val < [f, l, lp].length := fun i => i.isLt
  rw [arg_putArgs _ _ 0 (given 0), arg_putArgs _ _ 1 (given 1), arg_putArgs _ _ 2 (given 2)]
  rfl

/-- R3 test 1. -/
theorem State.poolBusy_iff (s : State) :
    s.poolBusy = true ↔ (∃ i, (s.record i).isSome = true) ∨ s.intake.frame.isSome = true := by
  simp [State.poolBusy]

/-- R3 tests 2 to 4. -/
theorem State.poolBad_iff (s : State) (f l lp : Nat) :
    s.poolBad f l lp = true ↔ f < 1 ∨ 2047 < l ∨ l < f ∨ lp < 1 ∨ 16 < lp ∨ l + 1 - f < 2 * lp + 64 ∨
      s.tables.live.enabled = true ∧ lp * 1048576 < s.tables.live.geom.frameBytes := by
  rw [show 1048576 = mib from rfl]
  simp [State.poolBad, or_assoc]

theorem State.reqConfigurePool_of_busy (s : State) (slot : Fin 8) (f l lp : Nat) (h : s.poolBusy = true) :
    s.reqConfigurePool slot f l lp = s.complete slot .busy 0 := by
  simp [State.reqConfigurePool, State.refuse, h]

theorem State.reqConfigurePool_of_bad (s : State) (slot : Fin 8) (f l lp : Nat) (hbusy : s.poolBusy = false)
    (hbad : s.poolBad f l lp = true) : s.reqConfigurePool slot f l lp = s.complete slot .badValue 0 := by
  simp [State.reqConfigurePool, State.refuse, hbusy, hbad]

/-- R8, R42, R144: an accepted CONFIGURE_POOL sets the pool up, whatever the row cache drops for it. -/
theorem State.setPool_pool (s : State) (f l lp : Nat) : (s.setPool f l lp).pool = newPool f l lp :=
  (State.ledger_dropLive _ _).pool

theorem State.setPool_shots (s : State) (f l lp : Nat) : (s.setPool f l lp).shots = s.shots := (State.ledger_dropLive _ _).shots

theorem State.setPool_req (s : State) (f l lp : Nat) : (s.setPool f l lp).req = s.req := (State.ledger_dropLive _ _).req

theorem State.reqConfigurePool_of_good (s : State) (slot : Fin 8) (f l lp : Nat) (hbusy : s.poolBusy = false)
    (hbad : s.poolBad f l lp = false) :
    s.reqConfigurePool slot f l lp =
      ((s.setPool f l lp).complete slot .done (results [l + 1 - f - 2 * lp])).settle s := by
  simp [State.reqConfigurePool, State.setPool_pool, newPool, hbusy, hbad]

/-- What an accepted CONFIGURE_POOL leaves when the develop engine has no run in progress (R4, R8, R42, R144). -/
def State.poolAtRest (s : State) (f l lp : Nat) : State :=
  { s with
    pool := newPool f l lp
    windows := { s.windows with designation := none, liveGeom := none }
    engine := s.engine.dropEntries (Source.isLive fun _ => true) }

/-- R144: with no run in progress the entries of the live slots are dropped and nothing more. -/
theorem State.setPool_of_noRun (s : State) (f l lp : Nat) (h : s.engine.run = none) : s.setPool f l lp = s.poolAtRest f l lp := by
  simp [State.setPool, State.poolAtRest, State.dropLive, State.dropEntries, Engine.runEntryOf, h]

/-- Dropping cache entries starts nothing: a calm part stays calm. -/
theorem State.calm_poolAtRest (s : State) (f l lp : Nat) (h : s.calm) : (s.poolAtRest f l lp).calm := h

end Sys2Proof.Machine
end

section
/-! SUPPORT. O43: CONFIGURE_POOL as a whole command. -/

namespace Sys2Proof.Machine

/-- An accepted CONFIGURE_POOL, when the request unit has taken it: what it has left when it completes. -/
def State.pooled (s : State) (slot : Fin 8) (tag : Word32) (f l lp : Beat) : State :=
  (s.begun slot (kindCode 1) tag [f, l, lp]).setPool f.toNat l.toNat lp.toNat

/-- Beside the pool, the accepted request ends the live designation; the input lines, tables and lens stay. -/
theorem State.pooled_steady (s : State) (slot : Fin 8) (tag : Word32) (f l lp : Beat) :
    s.backdrop (s.pooled slot tag f l lp) ∧ (s.pooled slot tag f l lp).lens = s.lens ∧
      (s.pooled slot tag f l lp).windows = { s.windows with designation := none, liveGeom := none } := by
  have dropped := State.steady_dropLive ({ s.begun slot (kindCode 1) tag [f, l, lp] with
    pool := newPool f.toNat l.toNat lp.toNat
    windows := { s.windows with designation := none, liveGeom := none } }) fun _ => true
  exact ⟨⟨dropped.time, dropped.mem, dropped.pins, dropped.tables, dropped.pending⟩, dropped.lens, dropped.windows⟩

/-- What the pool holds once it is set up and every other unit has gone on; no record is in use (R3, R4). -/
theorem State.pool_of_settled (s : State) (slot : Fin 8) (tag : Word32) (f l lp : Beat) (beat : Beat) (old : State)
    (h : ∀ i, s.record i = none) :
    let t := (((s.pooled slot tag f l lp).complete slot .done beat).settle old).finishEvent s
    .status ∈ t.req.reportList ∧ t.pool.configured = true ∧ t.pool.first = f.toNat ∧ t.pool.last = l.toNat ∧
      t.pool.livePages = lp.toNat ∧
      t.pool.free = List.range' (f.toNat + 2 * lp.toNat) (l.toNat + 1 - f.toNat - 2 * lp.toNat) := by
  intro t
  have kept : (s.pooled slot tag f l lp).shots = s.shots := State.setPool_shots _ _ _ _
  have noRecords : ∀ i, ((s.pooled slot tag f l lp).complete slot .done beat).record i = none := fun i => by
    show (s.pooled slot tag f l lp).shots.records[i] = none
    rw [kept]; exact h i
  have pool : ((s.pooled slot tag f l lp).complete slot .done beat).pool = newPool f.toNat l.toNat lp.toNat :=
    State.setPool_pool _ _ _ _
  have marked : .status ∈ ((s.pooled slot tag f l lp).complete slot .done beat).req.marks :=
    List.mem_append_right _ (List.mem_singleton_self _)
  have steady := State.steady_settle ((s.pooled slot tag f l lp).complete slot .done beat) old
  have keeps := State.keepsFree_settle ((s.pooled slot tag f l lp).complete slot .done beat) old noRecords
  refine ⟨State.status_mem_finishEvent _ s (keeps.marks marked), steady.configured.trans ?_, steady.first.trans ?_,
    steady.last.trans ?_, steady.livePages.trans ?_, keeps.free.trans ?_⟩ <;> rw [pool] <;> rfl

/-- R3: a CONFIGURE_POOL that a test refuses answers with the test's code and changes nothing. -/
theorem State.configurePool_refused (s : State) (slot : Fin 8) (tag : Word32) (f l lp : Beat) (code : ResultCode)
    (hc : s.canPost slot)
    (hp : (s.begun slot (kindCode 1) tag [f, l, lp]).reqConfigurePool slot f.toNat l.toNat lp.toNat =
      (s.begun slot (kindCode 1) tag [f, l, lp]).complete slot code 0) :
    s.answersOnly (.configurePool slot tag f l lp) slot 1 tag code 0 :=
  s.quiet_request slot 1 tag [f, l, lp] code 0 s hc s.backdrop_refl ((State.perform_configurePool _ _ _ _ _ _).trans hp)

/-- `State.pooled` but for the request unit. -/
def State.pooledBeside (s : State) (slot : Fin 8) (tag : Word32) (f l lp : Beat) : State :=
  { s.pooled slot tag f l lp with req := s.req }

/-- Setting the pool up leaves the request unit as the taking left it. -/
theorem State.pooledBeside_with_req (s : State) (slot : Fin 8) (tag : Word32) (f l lp : Beat) :
    ({ s.pooledBeside slot tag f l lp with req := (s.begun slot (kindCode 1) tag [f, l, lp]).req } : State) =
      s.pooled slot tag f l lp := by
  have req : (s.pooled slot tag f l lp).req = (s.begun slot (kindCode 1) tag [f, l, lp]).req := State.setPool_req _ _ _ _
  rw [← req]
  rfl

theorem State.pooledBeside_of_noRun (s : State) (slot : Fin 8) (tag : Word32) (f l lp : Beat) (h : s.engine.run = none) :
    s.pooledBeside slot tag f l lp = s.poolAtRest f.toNat l.toNat lp.toNat :=
  congrArg (fun u : State => { u with req := s.req })
    (State.setPool_of_noRun (s.begun slot (kindCode 1) tag [f, l, lp]) f.toNat l.toNat lp.toNat h)

section Accepted

variable (s : State) (slot : Fin 8) (tag : Word32) (f l lp : Beat) (hbusy : s.poolBusy = false)
  (hbad : s.poolBad f.toNat l.toNat lp.toNat = false)

include hbusy hbad

/-- R3, R4: what the page pool does with a request that passes the tests. -/
theorem State.perform_configurePool_of_good :
    (s.begun slot (kindCode 1) tag [f, l, lp]).perform slot (kindCode 1) (putArgs s.req.slots[slot].args [f, l, lp]) =
      ((s.pooled slot tag f l lp).complete slot .done (results [l.toNat + 1 - f.toNat - 2 * lp.toNat])).settle
        (s.begun slot (kindCode 1) tag [f, l, lp]) :=
  (State.perform_configurePool _ _ _ _ _ _).trans (State.reqConfigurePool_of_good _ _ _ _ _ hbusy hbad)

/-- The whole command, its end included (R184). -/
theorem State.command_configurePool_of_good (hc : s.canPost slot) :
    s.command slot (kindCode 1) tag [f, l, lp] =
      (((s.pooled slot tag f l lp).complete slot .done (results [l.toNat + 1 - f.toNat - 2 * lp.toNat])).settle
        (s.begun slot (kindCode 1) tag [f, l, lp])).finishEvent s := by
  rw [← s.perform_configurePool_of_good slot tag f l lp hbusy hbad, ← s.request_of_canPost slot _ tag _ hc]
  rfl

/-- R4, R8, R42, R144: a CONFIGURE_POOL that passes R3's tests. -/
theorem State.configurePool_accepted (hc : s.canPost slot) (hrec : ∀ i, s.record i = none) :
    ∃ t, exec (.configurePool slot tag f l lp) s = .next t ∧
      s.served t slot 1 tag .done (results [l.toNat + 1 - f.toNat - 2 * lp.toNat]) ∧ .status ∈ t.req.reportList ∧
      t.pool.configured = true ∧ t.pool.first = f.toNat ∧ t.pool.last = l.toNat ∧ t.pool.livePages = lp.toNat ∧
      t.pool.free = List.range' (f.toNat + 2 * lp.toNat) (l.toNat + 1 - f.toNat - 2 * lp.toNat) ∧
      t.windows = { s.windows with designation := none, liveGeom := none } ∧ t.lens = s.lens ∧
      (s.calm → s.became t (s.poolAtRest f.toNat l.toNat lp.toNat) Cause.requestDone.bit) := by
  obtain ⟨backdrop, lens, windows⟩ := s.pooled_steady slot tag f l lp
  have performed := s.perform_configurePool_of_good slot tag f l lp hbusy hbad
  rw [← s.pooledBeside_with_req slot tag f l lp] at performed
  obtain ⟨t, ht, served, twindows, tlens, became⟩ :=
    s.settled_request slot 1 tag [f, l, lp] .done _ (s.pooledBeside slot tag f l lp) _ hc backdrop performed
  have final : s.command slot (kindCode 1) tag [f, l, lp] = t := by injection ht
  rw [s.command_configurePool_of_good slot tag f l lp hbusy hbad hc] at final
  obtain ⟨status, configured, first, last, livePages, free⟩ := final ▸ s.pool_of_settled slot tag f l lp _ _ hrec
  refine ⟨t, ht, served, status, configured, first, last, livePages, free, twindows.trans windows, tlens.trans lens,
    fun calm => ?_⟩
  have restCalm := s.calm_poolAtRest f.toNat l.toNat lp.toNat calm
  obtain ⟨-, -, ⟨noRun, -, -⟩, -⟩ := calm
  rw [s.pooledBeside_of_noRun slot tag f l lp noRun] at became
  exact became restCalm

end Accepted

/-- Settles O43: each outcome by the first of R3's tests that applies. -/
theorem configurePoolSetsUpThePool : Obligations.ConfigurePoolSetsUpThePool := by
  unfold Obligations.ConfigurePoolSetsUpThePool
  intro s slot tag f l lp hc
  have notBusy : (∀ i, s.record i = none) → s.intake.frame = none → s.poolBusy = false := fun hrec hframe => by
    simp [State.poolBusy, hrec, hframe]
  refine ⟨fun hbusy => ?_, fun hrec hframe hbad => ?_, fun hrec hframe hf hl hfl hlp hlp16 hsize hlive => ?_⟩
  · exact s.configurePool_refused slot tag f l lp .busy hc
      (State.reqConfigurePool_of_busy _ _ _ _ _ (s.poolBusy_iff.mpr hbusy))
  · exact s.configurePool_refused slot tag f l lp .badValue hc
      (State.reqConfigurePool_of_bad _ _ _ _ _ (notBusy hrec hframe) ((s.poolBad_iff _ _ _).mpr hbad))
  · have good : s.poolBad f.toNat l.toNat lp.toNat = false := by
      rw [Bool.eq_false_iff, Ne, State.poolBad_iff]
      rintro (h | h | h | h | h | h | ⟨enabled, h⟩)
      case inr.inr.inr.inr.inr.inr => exact absurd h (Nat.not_lt.mpr (hlive enabled))
      all_goals omega
    exact s.configurePool_accepted slot tag f l lp (notBusy hrec hframe) good hc hrec

end Sys2Proof.Machine
end

section
/-! SUPPORT. O34: the least sum and the order of ties (R88), the sub-site offset (R89), the disparity (R90), the confidence (R91),
and the result of an active zone by its cases. -/

namespace Sys2Proof.Machine

/-! ### The least sum and the best shift (R88) -/

theorem leastSum_spec (sums : List Nat) (h : sums ≠ []) : leastSum sums ∈ sums ∧ ∀ x ∈ sums, leastSum sums ≤ x := by
  cases sums with
  | nil => exact absurd rfl h
  | cons x xs => exact List.min?_eq_some_iff.mp (List.min?_cons'.trans (by simp [leastSum]))

/-- R88: shift index `i` is taken before `j`, or is `j`: the smaller size, then the negative one. -/
def TieOrder (i j : Nat) : Prop :=
  ((i : Int) - 8).natAbs ≤ ((j : Int) - 8).natAbs ∧ (((i : Int) - 8).natAbs = ((j : Int) - 8).natAbs → i ≤ j)

theorem TieOrder.refl (i : Nat) : TieOrder i i := ⟨le_rfl, fun _ => le_rfl⟩

theorem mem_shiftOrder (j : Nat) : j ∈ shiftOrder ↔ j ≤ 16 := by
  simp only [shiftOrder, List.mem_cons, List.not_mem_nil, or_false]
  omega

theorem shiftOrder_pairwise : shiftOrder.Pairwise TieOrder := by
  unfold TieOrder
  decide

/-- What `find?` finds in a list in order comes before everything else there that meets the test. -/
theorem find?_first_of_pairwise {α : Type} {R : α → α → Prop} {l : List α} {p : α → Bool} {b j : α} (hl : l.Pairwise R)
    (refl : R b b) (hb : l.find? p = some b) (hj : j ∈ l) (hp : p j = true) : R b j := by
  obtain ⟨-, before, after, rfl, failed⟩ := List.find?_eq_some_iff_append.mp hb
  obtain ⟨-, tail, -⟩ := List.pairwise_append.mp hl
  rcases List.mem_append.mp hj with early | late
  · exact absurd hp (by simpa using failed j early)
  · rcases List.mem_cons.mp late with rfl | later
    · exact refl
    · exact List.rel_of_pairwise_cons tail later

theorem bestShift_found (sums : List Nat) (h : sums.length = 17) :
    shiftOrder.find? (fun t => sums.getD t 0 == leastSum sums) = some (bestShift sums) := by
  obtain ⟨j, hj, attained⟩ := List.getElem_of_mem (leastSum_spec sums (List.ne_nil_of_length_pos (by omega))).1
  have found : (shiftOrder.find? fun t => sums.getD t 0 == leastSum sums).isSome := by
    rw [List.find?_isSome]
    exact ⟨j, (mem_shiftOrder j).mpr (by omega), by simp [hj, attained]⟩
  obtain ⟨t, ht⟩ := Option.isSome_iff_exists.mp found
  rw [bestShift, ht, Option.getD_some]

theorem bestShift_le (sums : List Nat) (h : sums.length = 17) : bestShift sums ≤ 16 :=
  (mem_shiftOrder _).mp (List.mem_of_find?_eq_some (bestShift_found sums h))

theorem getD_bestShift (sums : List Nat) (h : sums.length = 17) : sums.getD (bestShift sums) 0 = leastSum sums := by
  simpa using List.find?_some (bestShift_found sums h)

theorem bestShift_first (sums : List Nat) (h : sums.length = 17) (j : Nat) (hj : j ≤ 16)
    (least : sums.getD j 0 = leastSum sums) : TieOrder (bestShift sums) j :=
  find?_first_of_pairwise shiftOrder_pairwise (TieOrder.refl _) (bestShift_found sums h) ((mem_shiftOrder j).mpr hj)
    (by simpa using least)

theorem leastSum_le (sums : List Nat) (h : sums.length = 17) : ∀ x ∈ sums, leastSum sums ≤ x :=
  (leastSum_spec sums (List.ne_nil_of_length_pos (by omega))).2

theorem getD_mem_sums (sums : List Nat) (h : sums.length = 17) (j : Nat) (hj : j ≤ 16) : sums.getD j 0 ∈ sums := by
  have inRange : j < sums.length := by omega
  rw [← List.getElem_eq_getD (h := inRange) 0]
  exact List.getElem_mem inRange

/-- R91: "It is never below b, because b is the least of them". -/
theorem leastSum_le_mean (sums : List Nat) (h : sums.length = 17) : leastSum sums ≤ sums.sum / 17 := by
  have total := List.card_nsmul_le_sum sums (leastSum sums) (leastSum_le sums h)
  rw [h, smul_eq_mul] at total
  omega

/-! ### A flat subject (R91) -/

theorem bestShift_of_flat (sums : List Nat) (h : sums.length = 17) (flat : ∀ x ∈ sums, x = leastSum sums) :
    bestShift sums = 8 := by
  obtain ⟨size, -⟩ := bestShift_first sums h 8 (by decide) (flat _ (getD_mem_sums sums h 8 (by decide)))
  omega

theorem mean_of_flat (sums : List Nat) (h : sums.length = 17) (flat : ∀ x ∈ sums, x = leastSum sums) :
    sums.sum / 17 = leastSum sums := by
  rw [List.sum_eq_card_nsmul sums _ flat, h, smul_eq_mul, Nat.mul_div_cancel_left _ (by decide)]

/-! ### The sub-site offset (R89) and the confidence (R91) -/

theorem natAbs_roundHalfAway (a : Int) (b : Nat) : (roundHalfAway a b).natAbs = (2 * a.natAbs + b) / (2 * b) := by
  have quotient : ((2 * (a.natAbs : Int) + b) / (2 * b)).natAbs = (2 * a.natAbs + b) / (2 * b) := by norm_cast
  unfold roundHalfAway
  split <;> simpa only [Int.natAbs_neg] using quotient

/-- A quotient within `-k..k` is rounded to a number within `-k..k`. -/
theorem natAbs_roundHalfAway_le (a : Int) (b k : Nat) (hb : 0 < b) (h : a.natAbs ≤ k * b) : (roundHalfAway a b).natAbs ≤ k := by
  rw [natAbs_roundHalfAway, ← Nat.lt_succ_iff, Nat.div_lt_iff_lt_mul (by omega)]
  calc 2 * a.natAbs + b ≤ 2 * (k * b) + b := by omega
    _ < 2 * (k * b) + 2 * b := by omega
    _ = k.succ * (2 * b) := by rw [Nat.succ_eq_add_one]; ring

/-- R89: "The exact quotient therefore lies within −2..+2". -/
theorem natAbs_quotient_le (a b c : Nat) (ha : b ≤ a) (hc : b ≤ c) (bent : a + c - 2 * b ≠ 0) :
    (roundHalfAway (2 * ((a : Int) - c)) (a + c - 2 * b)).natAbs ≤ 2 :=
  natAbs_roundHalfAway_le _ _ 2 (Nat.pos_of_ne_zero bent) (by omega)

theorem clamp_of_mem (lo hi x : Int) (hlo : lo ≤ x) (hhi : x ≤ hi) : clamp lo hi x = x := by
  simp [clamp, not_lt.mpr hlo, not_lt.mpr hhi]

/-- R89: "the clamp leaves q unchanged". -/
theorem subSite_of_least (a b c : Nat) (ha : b ≤ a) (hc : b ≤ c) :
    subSite a b c = if a + c - 2 * b = 0 then 0 else roundHalfAway (2 * ((a : Int) - c)) (a + c - 2 * b) := by
  by_cases bent : a + c - 2 * b = 0
  · simp [subSite, bent]
  · have bound := natAbs_quotient_le a b c ha hc bent
    have unclamped := clamp_of_mem (-2) 2 (roundHalfAway (2 * ((a : Int) - c)) (a + c - 2 * b)) (by omega) (by omega)
    simp [subSite, bent, unclamped]

theorem natAbs_subSite_le (a b c : Nat) (ha : b ≤ a) (hc : b ≤ c) : (subSite a b c).natAbs ≤ 2 := by
  rw [subSite_of_least a b c ha hc]
  split
  · decide
  · next bent => exact natAbs_quotient_le a b c ha hc bent

theorem subSite_self (b : Nat) : subSite b b b = 0 := by simp [subSite, two_mul]

theorem cap_eq_min (b x : Nat) : cap b x = min b x := by
  unfold cap
  split <;> omega

/-! ### The result of an active zone, by its cases -/

/-- R87. -/
theorem evalActive_of_fewRows (zs : Zones) (z : Zone) (a : ZoneSums) (few : a.rowsUsed < 2) :
    evalActive zs z a = { ZoneResult.blank .fewRows with rowsUsed := a.rowsUsed, terms := z.terms } :=
  if_pos few

/-- R88: the best shift at +8 or −8. -/
theorem evalActive_of_edge (zs : Zones) (z : Zone) (a : ZoneSums) (rows : 2 ≤ a.rowsUsed)
    (edge : bestShift a.sums = 16 ∨ bestShift a.sums = 0) :
    evalActive zs z a =
      { ZoneResult.blank .edge with
        rowsUsed := a.rowsUsed, terms := z.terms, shift := (bestShift a.sums : Int) - 8, least := leastSum a.sums
        total := a.sums.sum, edge := if bestShift a.sums = 16 then .near else .far } := by
  rw [evalActive, if_neg (not_lt.mpr rows)]
  rcases edge with near | far
  · simp [ZoneResult.blank, near]
  · simp [ZoneResult.blank, far]

/-- The sub-site offset at the best shift (R89). -/
def ZoneSums.offset (a : ZoneSums) : Int :=
  subSite (a.sums.getD (bestShift a.sums - 1) 0) (leastSum a.sums) (a.sums.getD (bestShift a.sums + 1) 0)

/-- The confidence in the best shift (R91). -/
def ZoneSums.depth (a : ZoneSums) (z : Zone) : Nat := confidence a.sums.sum (leastSum a.sums) a.rowsUsed z.terms

/-- R89 to R91: the best shift within −7..+7. -/
theorem evalActive_of_within (zs : Zones) (z : Zone) (a : ZoneSums) (rows : 2 ≤ a.rowsUsed) (low : 0 < bestShift a.sums)
    (high : bestShift a.sums < 16) :
    evalActive zs z a =
      { rowsUsed := a.rowsUsed, terms := z.terms, shift := (bestShift a.sums : Int) - 8, least := leastSum a.sums
        total := a.sums.sum, edge := .none, subSite := a.offset
        disparity := 4 * ((bestShift a.sums : Int) - 8) + a.offset - zs.zero, confidence := a.depth z
        status := if zs.confMin ≤ a.depth z then .valid else .lowConfidence } :=
  (if_neg (not_lt.mpr rows)).trans ((if_neg high.ne).trans (if_neg low.ne'))

/-- What R88 gives whatever the best shift is. -/
theorem evalActive_found (zs : Zones) (z : Zone) (a : ZoneSums) (rows : 2 ≤ a.rowsUsed) (len : a.sums.length = 17) :
    (evalActive zs z a).rowsUsed = a.rowsUsed ∧ (evalActive zs z a).terms = z.terms ∧
      (evalActive zs z a).shift = (bestShift a.sums : Int) - 8 ∧ (evalActive zs z a).least = leastSum a.sums ∧
      (evalActive zs z a).total = a.sums.sum := by
  by_cases edge : bestShift a.sums = 16 ∨ bestShift a.sums = 0
  · simp [evalActive_of_edge zs z a rows edge]
  · have range := bestShift_le a.sums len
    simp [evalActive_of_within zs z a rows (by omega) (by omega)]

/-- R89 at the best shift: both neighbours lie at or above the least sum. -/
theorem leastSum_le_neighbours (a : ZoneSums) (len : a.sums.length = 17) (high : bestShift a.sums < 16) :
    leastSum a.sums ≤ a.sums.getD (bestShift a.sums - 1) 0 ∧ leastSum a.sums ≤ a.sums.getD (bestShift a.sums + 1) 0 :=
  ⟨leastSum_le _ len _ (getD_mem_sums _ len _ (by omega)), leastSum_le _ len _ (getD_mem_sums _ len _ (by omega))⟩

theorem ZoneSums.offset_eq (a : ZoneSums) (len : a.sums.length = 17) (high : bestShift a.sums < 16) :
    let lower := a.sums.getD (bestShift a.sums - 1) 0
    let upper := a.sums.getD (bestShift a.sums + 1) 0
    let bend := lower + upper - 2 * leastSum a.sums
    a.offset = if bend = 0 then 0 else roundHalfAway (2 * ((lower : Int) - upper)) bend :=
  have ⟨aboveLower, aboveUpper⟩ := leastSum_le_neighbours a len high
  subSite_of_least _ _ _ aboveLower aboveUpper

theorem ZoneSums.offset_range (a : ZoneSums) (len : a.sums.length = 17) (high : bestShift a.sums < 16) :
    -2 ≤ a.offset ∧ a.offset ≤ 2 := by
  obtain ⟨aboveLower, aboveUpper⟩ := leastSum_le_neighbours a len high
  have size : a.offset.natAbs ≤ 2 := natAbs_subSite_le _ _ _ aboveLower aboveUpper
  omega

/-- R90: "4 × s* + q lies within −30..+30 … so d lies within −46..+46". -/
theorem natAbs_disparity_le (best : Nat) (q zero : Int) (low : 0 < best) (high : best < 16) (hlow : -2 ≤ q) (hhigh : q ≤ 2)
    (hzero : zero.natAbs ≤ 16) : (4 * ((best : Int) - 8) + q - zero).natAbs ≤ 46 := by
  omega

/-- R91's flat subject: the tie order gives s* = 0, and neither neighbour nor mean differs from the least sum. -/
theorem evalActive_of_flat (zs : Zones) (z : Zone) (a : ZoneSums) (rows : 2 ≤ a.rowsUsed) (len : a.sums.length = 17)
    (flat : ∀ x ∈ a.sums, x = leastSum a.sums) :
    (evalActive zs z a).shift = 0 ∧ (evalActive zs z a).subSite = 0 ∧ (evalActive zs z a).confidence = 0 := by
  have best := bestShift_of_flat a.sums len flat
  have neighbour (j : Nat) (hj : j ≤ 16) : a.sums.getD j 0 = leastSum a.sums := flat _ (getD_mem_sums _ len j hj)
  rw [evalActive_of_within zs z a rows (by omega) (by omega)]
  refine ⟨by simp [best], ?_, ?_⟩
  · simp only [ZoneSums.offset, best]
    rw [neighbour _ (by decide), neighbour _ (by decide), subSite_self]
  · simp [ZoneSums.depth, confidence, cap, mean_of_flat a.sums len flat]

/-- Settles O34: R87's zone, then R88's best shift with its two edges, R89 to R91 between them, and the flat subject. -/
theorem zoneResultsStayInRange : Obligations.ZoneResultsStayInRange := by
  unfold Obligations.ZoneResultsStayInRange
  refine ⟨fun zs z a r few hr => ?_, fun zs z a r best lower upper bend rows len hr hbest hlower hupper hbend => ?_⟩
  · subst hr
    simp [evalActive_of_fewRows zs z a few, ZoneResult.blank]
  · obtain ⟨rowsUsed, terms, shift, least, total⟩ := evalActive_found zs z a rows len
    subst hr
    obtain rfl : best = bestShift a.sums := by omega
    rw [least] at hbend ⊢
    rw [total, rowsUsed, terms]
    refine ⟨rfl, rfl, bestShift_le _ len, getD_bestShift _ len, leastSum_le _ len, rfl, bestShift_first _ len,
      fun edge => ?_, fun low high => ?_, evalActive_of_flat zs z a rows len⟩
    · simp [evalActive_of_edge zs z a rows edge, ZoneResult.blank]
    · obtain ⟨aboveLower, aboveUpper⟩ := leastSum_le_neighbours a len high
      obtain ⟨offsetLow, offsetHigh⟩ := a.offset_range len high
      subst hlower hupper hbend
      rw [evalActive_of_within zs z a rows low high]
      exact ⟨rfl, by omega, a.offset_eq len high, offsetLow, offsetHigh, rfl,
        natAbs_disparity_le _ _ _ low high offsetLow offsetHigh, leastSum_le_mean _ len, cap_eq_min _ _, rfl⟩

end Sys2Proof.Machine
end

section
/-! SUPPORT. The attention line and the mask (R186, R188, R189), and what CLEAR_BUFFER keeps of the causes (R190). -/

namespace Sys2Proof.Machine

/-! ### Causes by their codes -/

theorem Cause.code_lt (c : Cause) : c.code < 20 := by cases c <;> decide

/-- R186: every code below 20 is the code of a cause. -/
theorem Cause.exists_code (i : Fin 20) : ∃ c : Cause, c.code = i.val := by
  fin_cases i
  exacts [⟨.frameDone, rfl⟩, ⟨.shotKept, rfl⟩, ⟨.preEvicted, rfl⟩, ⟨.bufferWait, rfl⟩, ⟨.missedTrigger, rfl⟩,
    ⟨.strayWrite, rfl⟩, ⟨.overlength, rfl⟩, ⟨.readoutTimeout, rfl⟩, ⟨.focusLocked, rfl⟩, ⟨.lensHomed, rfl⟩,
    ⟨.lensFault, rfl⟩, ⟨.lensLost, rfl⟩, ⟨.tetherSent, rfl⟩, ⟨.tetherFailed, rfl⟩, ⟨.tetherHalted, rfl⟩,
    ⟨.underrun, rfl⟩, ⟨.requestDone, rfl⟩, ⟨.requestCollision, rfl⟩, ⟨.voidAccess, rfl⟩, ⟨.viewWriteDropped, rfl⟩]

@[simp] theorem Cause.getLsbD_bit (c : Cause) : c.bit.getLsbD c.code = true := by cases c <;> rfl

/-- A set of causes is not empty exactly when it holds some cause. -/
theorem causeSet_ne_zero_iff (x : BitVec 20) : x ≠ 0 ↔ ∃ c : Cause, x.getLsbD c.code = true := by
  constructor
  · intro hx
    by_contra none
    refine hx (BitVec.eq_of_getLsbD_eq fun i hi => ?_)
    obtain ⟨c, hc⟩ := Cause.exists_code ⟨i, hi⟩
    obtain rfl : c.code = i := hc
    simpa using fun h => none ⟨c, h⟩
  · rintro ⟨c, hc⟩ rfl
    simp at hc

/-- R189: what it takes for ATTN to be active. -/
theorem State.attn_iff (s : State) : s.attn = true ↔
    ∃ c : Cause, s.pendingCause c = true ∧ s.req.mask.getLsbD c.code = false ∧ s.req.shown.getLsbD c.code = true := by
  rw [State.attn, bne_iff_ne, causeSet_ne_zero_iff]
  simp [State.pendingCause, Cause.code_lt, and_assoc]

/-- R186, R188: after RESET_N no cause is pending and every cause is masked. -/
theorem State.afterReset_causes (s : State) : s.afterReset.req.causes = 0 := rfl

theorem State.afterReset_mask (s : State) : s.afterReset.req.mask = BitVec.allOnes 20 := rfl

/-- Settles O12: the line is the inverse of `State.attn`, and after RESET_N no cause is pending. -/
theorem attentionShowsCauses : Obligations.AttentionShowsCauses := by
  unfold Obligations.AttentionShowsCauses
  refine ⟨fun s => ?_, fun s t h => ?_⟩
  · rw [← s.attn_iff]
    simp [State.attnLine]
  · obtain rfl : s.afterReset = t := by injection h
    simp [State.attnLine, State.attn, State.afterReset_causes]

/-! ### What keeps the mask and every pending cause -/

/-- The mask of `t` is that of `s`, and every cause pending in `s` is pending in `t`. -/
structure State.KeepsCauses (s t : State) : Prop where
  mask : t.req.mask = s.req.mask
  causes : ∀ c, s.pendingCause c = true → t.pendingCause c = true

theorem State.Within.keepsCauses {s t : State} (h : s.Within t) : s.KeepsCauses t := ⟨h.mask, h.causes⟩

theorem State.Steady.keepsCauses {s t : State} (h : s.Steady t) : s.KeepsCauses t := h.within.keepsCauses

theorem State.KeepsCauses.refl (s : State) : s.KeepsCauses s := ⟨rfl, fun _ hc => hc⟩

theorem State.KeepsCauses.trans {s t u : State} (h : s.KeepsCauses t) (k : t.KeepsCauses u) : s.KeepsCauses u :=
  ⟨k.mask.trans h.mask, fun c hc => k.causes c (h.causes c hc)⟩

theorem State.keepsCauses_setSlot (s : State) (i : Fin 8) (x : Slot) : s.KeepsCauses (s.setSlot i x) := ⟨rfl, fun _ hc => hc⟩

theorem State.keepsCauses_begun (s : State) (slot : Fin 8) (kind : Byte) (tag : Word32) (args : List Beat) :
    s.KeepsCauses (s.begun slot kind tag args) := ⟨rfl, fun _ hc => hc⟩

theorem State.keepsCauses_complete (s : State) (slot : Fin 8) (code : ResultCode) (beat : Beat) :
    s.KeepsCauses (s.complete slot code beat) := ⟨rfl, fun c hc => pending_or _ _ c hc⟩

theorem State.keepsCauses_finishEvent (s old : State) : s.KeepsCauses (s.finishEvent old) := ⟨rfl, fun _ hc => hc⟩

/-! The cut of the item on the port (R165, R177) -/

theorem State.keepsCauses_answerCut (s : State) (c : CutBy) : s.KeepsCauses (s.answerCut c) := by
  cases c with
  | disable slot => exact s.keepsCauses_complete _ _ _
  | clearBuffer slot freed => exact s.keepsCauses_complete _ _ _
  | discard => exact .refl s
  | dropTether => exact .refl s

theorem State.keepsCauses_answerCuts (l : List CutBy) (s : State) : s.KeepsCauses (l.foldl State.answerCut s) := by
  induction l generalizing s with
  | nil => exact .refl s
  | cons c l ih => exact (s.keepsCauses_answerCut c).trans (ih _)

/-- A choice between steady outcomes is steady. -/
theorem State.Steady.ite {s t u : State} (p : Prop) [Decidable p] (ht : s.Steady t) (hu : s.Steady u) :
    s.Steady (if p then t else u) := by
  split
  · exact ht
  · exact hu

theorem State.keepsCauses_endCut (s : State) (it : Item) (stalled : Bool) : s.KeepsCauses (s.endCut it stalled) := by
  have returned : s.Steady (s.endItem.returnShot it true) := s.steady_endItem.trans (State.steady_returnShot _ _ _)
  have moved := returned.trans (.ite (it.cut.any CutBy.isDisable = true) (State.steady_setPort _ .disabled)
    (.ite (stalled = true) (State.steady_setPort _ .halted) (State.steady_portIdle _)))
  have halted := moved.trans (.ite (stalled = true) (.raise _ .tetherHalted) (.refl _))
  have ended := halted.trans (.ite ((it.underran && !stalled && !it.cut.any CutBy.isClear) = true) (.raise _ .underrun) (.refl _))
  exact ended.keepsCauses.trans (State.keepsCauses_answerCuts it.cut _)

theorem State.keepsCauses_askCut (s : State) (c : CutBy) : s.KeepsCauses (s.askCut c) := by
  have asked := fun it : Item => s.steady_modifyItem fun _ => it
  unfold State.askCut
  split
  · exact .refl s
  · dsimp only
    split
    · exact (asked _).keepsCauses.trans (State.keepsCauses_endCut _ _ _)
    · split
      · exact (asked _).keepsCauses
      · refine State.KeepsCauses.trans ?_ (State.Steady.ite _ (State.steady_beginUnit _ _) (.refl _)).keepsCauses
        exact ((asked _).trans (State.steady_modifyItem _ Item.turnToTrailer)).keepsCauses

/-! CLEAR_BUFFER (R190) -/

theorem State.steady_clearQueue (s : State) : s.Steady s.clearQueue := (s.steady_modifyItem _).trans (.queue _ _)

theorem State.within_clearViews (s : State) : s.Within s.clearViews := .of_req s.backdrop_refl rfl

theorem State.steady_clearFrame (s : State) : s.Steady s.clearFrame :=
  ((State.Steady.phase s _).trans (.intake _ _)).trans (State.steady_releaseReservation _)

theorem State.steady_clearRelease (s : State) : s.Steady s.clearRelease := .release s _

theorem State.steady_clearEngine (s : State) : s.Steady s.clearEngine :=
  ((State.Steady.engine s _).trans (State.steady_endRun _)).trans (.engine _ _)

theorem State.steady_clearRecords (s : State) : s.Steady s.clearRecords :=
  (State.Steady.foldl _ State.steady_freeShot _ s).trans (.shots _ _)

/-- The at-once effects of CLEAR_BUFFER leave alone what no request changes, the causes among it. -/
theorem State.within_clearAll (s : State) : s.Within s.clearAll :=
  have emptied := s.steady_clearQueue.within.trans (State.within_clearViews _)
  have stopped := (State.steady_clearFrame _).trans ((State.steady_clearRelease _).trans (State.steady_clearEngine _))
  emptied.trans (stopped.trans (State.steady_clearRecords _)).within

theorem State.keepsCauses_reqClearBuffer (s : State) (slot : Fin 8) : s.KeepsCauses (s.reqClearBuffer slot) := by
  have cleared := s.within_clearAll.keepsCauses
  have settled := fun u old : State => (State.steady_settle u old).keepsCauses
  unfold State.reqClearBuffer
  dsimp only
  split
  · exact (cleared.trans (State.keepsCauses_complete _ _ _ _)).trans (settled _ _)
  · exact (cleared.trans (State.keepsCauses_askCut _ _)).trans (settled _ _)

theorem State.perform_clearBuffer (s : State) (slot : Fin 8) (a : Vector Beat 6) :
    s.perform slot (kindCode 18) a = s.reqClearBuffer slot := rfl

/-- R182: a post to a slot whose request is TAKEN is ignored but for its slot copy and REQUEST_COLLISION. -/
theorem State.request_of_taken (s : State) (slot : Fin 8) (kind : Byte) (tag : Word32) (args : List Beat) (h : ¬ s.canPost slot) :
    s.request slot kind tag args =
      (s.setSlot slot (s.req.slots[slot].load kind tag args)).raise .requestCollision := by
  have taken : (s.setSlot slot (s.req.slots[slot].load kind tag args)).req.slots[slot].state = .taken := by
    simpa [Slot.load] using h
  rw [State.request, State.post, if_pos taken]

/-- R190: CLEAR_BUFFER keeps the mask and every pending cause, whether its post is taken or not. -/
theorem State.keepsCauses_clearBuffer (s : State) (slot : Fin 8) (tag : Word32) :
    s.KeepsCauses (s.command slot (kindCode 18) tag []) := by
  refine State.KeepsCauses.trans (t := s.request slot (kindCode 18) tag []) ?_ (State.keepsCauses_finishEvent _ _)
  by_cases hc : s.canPost slot
  · rw [State.request_of_canPost _ _ _ _ _ hc, State.perform_clearBuffer]
    exact (s.keepsCauses_begun _ _ _ _).trans (State.keepsCauses_reqClearBuffer _ _)
  · rw [State.request_of_taken _ _ _ _ _ hc]
    exact (s.keepsCauses_setSlot _ _).trans (State.Steady.raise _ _).keepsCauses

end Sys2Proof.Machine
end

section
/-! SUPPORT. O60: CLEAR_CAUSES and SET_MASK as whole commands (R187, R188), and the showing of a masked cause (R186). -/

namespace Sys2Proof.Machine

/-! ### The showing of a cause (R50, R186) -/

/-- R50: with no PASSAGE waiting and REPORT next in the cycle, a grant performs the report write in flight. -/
theorem State.grant_report (s : State) (q : ReportRequest) (hw : s.passageWaits = false) (hn : s.nextInternal = some .report)
    (hq : s.port.report = some q) :
    s.grant = ({ s with port := { s.port with passageRun := 0, lastServed := .report } } : State).performReport q := by
  simp [State.grant, hw, hn, State.grantInternal, State.performInternal, hq]

/-- R186: the performance of a status write sets the shown marks of the causes it shows that are still pending. -/
theorem State.performReport_status_req (s : State) (q : ReportRequest) (h : q.record = .status) :
    (s.performReport q).req = { s.req with shown := s.req.shown ||| (q.shows &&& s.req.causes) } := by
  simp [State.performReport, State.reportPerformed, h, State.showCauses]

/-- R186, R188: a pending cause that a status write shows gets its shown mark whatever the mask. -/
theorem State.memoryGrant_shows (s : State) (q : ReportRequest) (c : Cause) (hs : s.link.started = true)
    (hw : s.passageWaits = false) (hn : s.nextInternal = some .report) (hq : s.port.report = some q) (hr : q.record = .status)
    (shows : q.shows.getLsbD c.code = true) (pending : s.pendingCause c = true) :
    ∃ t, exec .memoryGrant s = .next t ∧ t.req.shown.getLsbD c.code = true ∧ t.req.mask = s.req.mask := by
  have granted : exec .memoryGrant s = .next (s.grant.finishEvent s) := congrArg Host.Outcome.next (if_pos hs)
  refine ⟨_, granted, ?_, ?_⟩
  · rw [State.finishEvent_shown, s.grant_report q hw hn hq, State.performReport_status_req _ q hr]
    have both : (q.shows &&& s.req.causes).getLsbD c.code = true := by
      rw [BitVec.getLsbD_and, shows, show s.req.causes.getLsbD c.code = true from pending, Bool.and_self]
    simp [both]
  · rw [State.finishEvent_mask, s.grant_report q hw hn hq, State.performReport_status_req _ q hr]

/-- R185: the pending set stands in the status record. -/
theorem State.causes_mem_statusFields (s : State) : (96, 4, s.req.causes.toNat) ∈ s.statusFields :=
  List.mem_append_right _ (by simp)

/-- R186: a cause that is raised is pending. -/
theorem State.pendingCause_raise (s : State) (c : Cause) : (s.raise c).pendingCause c = true := by
  simp [State.pendingCause]

/-! ### What the two requests write -/

section Writes

variable (s : State) (set : BitVec 20)

@[simp] theorem State.clearCauseSet_causes : (s.clearCauseSet set).req.causes = s.req.causes &&& ~~~set := rfl
@[simp] theorem State.clearCauseSet_shown : (s.clearCauseSet set).req.shown = s.req.shown &&& ~~~set := rfl
@[simp] theorem State.clearCauseSet_mask : (s.clearCauseSet set).req.mask = s.req.mask := rfl
@[simp] theorem State.replaceMask_causes : (s.replaceMask set).req.causes = s.req.causes := rfl
@[simp] theorem State.replaceMask_shown : (s.replaceMask set).req.shown = s.req.shown := rfl
@[simp] theorem State.replaceMask_mask : (s.replaceMask set).req.mask = set := rfl

theorem State.replaceMask_with_req (r : RequestUnit) : { s.replaceMask set with req := r } = { s with req := r } := rfl

/-- R187, log 20: beside the request unit only the status write in flight is touched. -/
theorem State.clearCauseSet_with_req (r : RequestUnit) : { s.clearCauseSet set with req := r } =
    { s with req := r, port := { s.port with report := s.port.report.map fun q => { q with shows := q.shows &&& ~~~set } } } := rfl

end Writes

@[simp] theorem State.complete_shown (s : State) (i : Fin 8) (c : ResultCode) (b : Beat) :
    (s.complete i c b).req.shown = s.req.shown := rfl

section Taking

variable (s : State) (slot : Fin 8) (kind : Byte) (tag : Word32) (args : List Beat)

@[simp] theorem State.begun_causes : (s.begun slot kind tag args).req.causes = s.req.causes := rfl
@[simp] theorem State.begun_shown : (s.begun slot kind tag args).req.shown = s.req.shown := rfl
@[simp] theorem State.begun_mask : (s.begun slot kind tag args).req.mask = s.req.mask := rfl

end Taking

/-! ### The two requests -/

/-- The whole command of a post that is taken: its request performed, and its marks. -/
theorem State.command_of_canPost (s : State) (slot : Fin 8) (kind : Byte) (tag : Word32) (args : List Beat) (h : s.canPost slot) :
    s.command slot kind tag args =
      ((s.begun slot kind tag args).perform slot kind (putArgs s.req.slots[slot].args args)).finishEvent s :=
  congrArg (State.finishEvent · s) (s.request_of_canPost slot kind tag args h)

theorem State.perform_clearCauses (s : State) (slot : Fin 8) (a : Vector Beat 6) (v : Beat) :
    s.perform slot (kindCode 19) (putArgs a [v]) = s.reqClearCauses slot v.toNat :=
  congrArg (s.reqClearCauses slot) (arg_putArgs_zero a v [])

theorem State.perform_setMask (s : State) (slot : Fin 8) (a : Vector Beat 6) (v : Beat) :
    s.perform slot (kindCode 20) (putArgs a [v]) = s.reqSetMask slot v.toNat :=
  congrArg (s.reqSetMask slot) (arg_putArgs_zero a v [])

theorem causeBad_iff (v : Nat) : causeBad v = true ↔ 2 ^ 20 ≤ v := decide_eq_true_iff

/-- R187: CLEAR_CAUSES of a value with a bit from 20 on is refused. -/
theorem State.reqClearCauses_of_bad (s : State) (slot : Fin 8) (v : Nat) (h : 2 ^ 20 ≤ v) :
    s.reqClearCauses slot v = s.complete slot .badValue 0 := if_pos ((causeBad_iff v).mpr h)

theorem State.reqClearCauses_of_good (s : State) (slot : Fin 8) (v : Nat) (h : v < 2 ^ 20) :
    s.reqClearCauses slot v = (s.clearCauseSet (BitVec.ofNat 20 v)).complete slot .done
      (BitVec.ofNat 64 (s.req.causes &&& ~~~BitVec.ofNat 20 v).toNat) :=
  if_neg fun bad => absurd ((causeBad_iff v).mp bad) (Nat.not_le.mpr h)

/-- R188: SET_MASK of a value with a bit from 20 on is refused. -/
theorem State.reqSetMask_of_bad (s : State) (slot : Fin 8) (v : Nat) (h : 2 ^ 20 ≤ v) :
    s.reqSetMask slot v = s.complete slot .badValue 0 := if_pos ((causeBad_iff v).mpr h)

theorem State.reqSetMask_of_good (s : State) (slot : Fin 8) (v : Nat) (h : v < 2 ^ 20) :
    s.reqSetMask slot v = (s.replaceMask (BitVec.ofNat 20 v)).complete slot .done (BitVec.ofNat 64 v) :=
  if_neg fun bad => absurd ((causeBad_iff v).mp bad) (Nat.not_le.mpr h)

/-- R183, R184: completion and the end of the event touch the request unit only. -/
theorem State.completed_with_req (E old : State) (slot : Fin 8) (code : ResultCode) (beat : Beat) (r : RequestUnit) :
    { (E.complete slot code beat).finishEvent old with req := r } = { E with req := r } :=
  (State.finishEvent_became _ old r).trans (E.complete_with_req slot code beat r)

/-- R183, R184: a request that completes after effects `E` on anything but the slot copies is answered, the other slots stand,
and the status record is marked. -/
theorem State.answered_of_complete (s : State) (slot : Fin 8) (kind : Nat) (tag : Word32) (args : List Beat) (code : ResultCode)
    (beat : Beat) (E : State) (hE : E.req.slots = (s.begun slot (kindCode kind) tag args).req.slots) :
    ((E.complete slot code beat).finishEvent s).answered slot kind tag code beat ∧
      (∀ j, j ≠ slot → ((E.complete slot code beat).finishEvent s).req.slots[j] = s.req.slots[j]) ∧
      .status ∈ ((E.complete slot code beat).finishEvent s).req.reportList := by
  have own : ((E.complete slot code beat).finishEvent s).req.slots[slot] =
      (s.req.slots[slot].begun (kindCode kind) tag args).withResult code beat := by
    simp only [State.finishEvent_slots, State.complete_slots, Fin.getElem_fin, Vector.getElem_set_self]
    exact congrArg (Slot.withResult · code beat)
      ((congrArg (·[slot]) hE).trans (s.begun_slot slot (kindCode kind) tag args))
  refine ⟨⟨by rw [own]; rfl, by rw [own]; rfl, ?_⟩, fun j hj => ?_, State.status_mem_finishEvent _ s ?_⟩
  · exact State.pendingCause_raise ((E.setSlot slot (E.req.slots[slot].withResult code beat)).mark (.slot slot)) .requestDone
  · have other : slot.val ≠ j.val := fun e => hj (Fin.ext e.symm)
    obtain ⟨-, ⟨begun_other, -⟩, -⟩ := s.begun_served slot (kindCode kind) tag args
    rw [State.finishEvent_slots, State.complete_slots, ← begun_other j hj, hE]
    simp [other]
  · exact List.mem_append_right _ (List.mem_singleton_self _)

section Requests

variable (s : State) (slot : Fin 8) (tag : Word32) (v : Beat) (hc : s.canPost slot)

include hc

/-- R187, R188: what either request does with a value that has a bit from 20 on. -/
theorem State.causes_refused (h : 2 ^ 20 ≤ v.toNat) :
    s.answersOnly (.clearCauses slot tag v) slot 19 tag .badValue 0 ∧
      s.answersOnly (.setMask slot tag v) slot 20 tag .badValue 0 :=
  ⟨s.quiet_request slot 19 tag [v] .badValue 0 s hc s.backdrop_refl
      ((State.perform_clearCauses _ _ _ _).trans (State.reqClearCauses_of_bad _ _ _ h)),
    s.quiet_request slot 20 tag [v] .badValue 0 s hc s.backdrop_refl
      ((State.perform_setMask _ _ _ _).trans (State.reqSetMask_of_bad _ _ _ h))⟩

/-- R187: the whole CLEAR_CAUSES of a good value. -/
theorem State.exec_clearCauses (h : v.toNat < 2 ^ 20) :
    exec (.clearCauses slot tag v) s =
      .next ((((s.begun slot (kindCode 19) tag [v]).clearCauseSet (BitVec.ofNat 20 v.toNat)).complete slot .done
        (BitVec.ofNat 64 (s.req.causes &&& ~~~BitVec.ofNat 20 v.toNat).toNat)).finishEvent s) := by
  rw [show exec (.clearCauses slot tag v) s = .next (s.command slot (kindCode 19) tag [v]) from rfl,
    s.command_of_canPost slot _ tag _ hc, State.perform_clearCauses, State.reqClearCauses_of_good _ _ _ h]
  rfl

/-- R188: the whole SET_MASK of a good value. -/
theorem State.exec_setMask (h : v.toNat < 2 ^ 20) :
    exec (.setMask slot tag v) s =
      .next ((((s.begun slot (kindCode 20) tag [v]).replaceMask (BitVec.ofNat 20 v.toNat)).complete slot .done v).finishEvent s) := by
  have whole : BitVec.ofNat 64 v.toNat = v := by simp
  rw [show exec (.setMask slot tag v) s = .next (s.command slot (kindCode 20) tag [v]) from rfl,
    s.command_of_canPost slot _ tag _ hc, State.perform_setMask, State.reqSetMask_of_good _ _ _ h, whole]

/-- R187: the causes named are no longer pending nor shown, nor shown by a status write in flight (log 20). -/
theorem State.clearCauses_accepted (h : v.toNat < 2 ^ 20) :
    ∃ t keep, keep = ~~~(BitVec.ofNat 20 v.toNat) ∧ exec (.clearCauses slot tag v) s = .next t ∧
      t.answered slot 19 tag .done (BitVec.ofNat 64 (s.req.causes &&& keep).toNat) ∧
      { t with req := s.req, port := s.port } = s ∧
      { t.port with report := s.port.report } = s.port ∧ .status ∈ t.req.reportList ∧
      t.port.report.map (fun q => (q.record, q.chunks, q.serial)) = s.port.report.map (fun q => (q.record, q.chunks, q.serial)) ∧
      t.req.causes = (s.req.causes &&& keep ||| Cause.requestDone.bit) ∧ t.req.shown = s.req.shown &&& keep ∧
      t.req.mask = s.req.mask ∧ ∀ j, j ≠ slot → t.req.slots[j] = s.req.slots[j] := by
  refine ⟨_, _, rfl, s.exec_clearCauses slot tag v hc h, ?_⟩
  generalize BitVec.ofNat 20 v.toNat = set
  generalize BitVec.ofNat 64 (s.req.causes &&& ~~~set).toNat = beat
  obtain ⟨answered, others, marked⟩ := s.answered_of_complete slot 19 tag [v] .done beat
    ((s.begun slot (kindCode 19) tag [v]).clearCauseSet set) rfl
  have beside := (State.completed_with_req _ s slot .done beat s.req).trans
    ((s.begun slot (kindCode 19) tag [v]).clearCauseSet_with_req set s.req)
  refine ⟨answered, congrArg (fun u : State => { u with port := s.port }) beside,
    congrArg (fun u : State => { u.port with report := s.port.report }) beside, marked, ?_, ?_, ?_, ?_, others⟩
  · exact (congrArg (fun u : State => u.port.report.map fun q => (q.record, q.chunks, q.serial)) beside).trans
      (Option.map_map _ _ s.port.report)
  all_goals simp

/-- R188: the mask is replaced, and nothing else of the causes. -/
theorem State.setMask_accepted (h : v.toNat < 2 ^ 20) :
    ∃ t, exec (.setMask slot tag v) s = .next t ∧ t.answered slot 20 tag .done v ∧ { t with req := s.req } = s ∧
      .status ∈ t.req.reportList ∧ t.req.causes = s.req.causes ||| Cause.requestDone.bit ∧ t.req.shown = s.req.shown ∧
      t.req.mask = BitVec.ofNat 20 v.toNat ∧ ∀ j, j ≠ slot → t.req.slots[j] = s.req.slots[j] := by
  refine ⟨_, s.exec_setMask slot tag v hc h, ?_⟩
  obtain ⟨answered, others, marked⟩ := s.answered_of_complete slot 20 tag [v] .done v
    ((s.begun slot (kindCode 20) tag [v]).replaceMask (BitVec.ofNat 20 v.toNat)) rfl
  have beside := (State.completed_with_req _ s slot .done v s.req).trans
    ((s.begun slot (kindCode 20) tag [v]).replaceMask_with_req (BitVec.ofNat 20 v.toNat) s.req)
  refine ⟨answered, beside, marked, ?_, ?_, ?_, others⟩
  all_goals simp

end Requests

/-- Settles O60: RESET_N, CLEAR_BUFFER, a masked cause, and the two requests by R187's and R188's test. -/
theorem causesAreClearedAndMasked : Obligations.CausesAreClearedAndMasked := by
  unfold Obligations.CausesAreClearedAndMasked
  refine ⟨fun s t h => ?_, fun s t slot tag h => ?_, fun s u m c hu => ?_, fun s slot tag v hc => ?_⟩
  · obtain rfl : s.afterReset = t := by injection h
    exact s.afterReset_mask
  · obtain rfl : s.command slot (kindCode 18) tag [] = t := by injection h
    obtain ⟨mask, causes⟩ := s.keepsCauses_clearBuffer slot tag
    exact ⟨mask, causes⟩
  · subst hu
    refine ⟨rfl, State.pendingCause_raise _ c, State.causes_mem_statusFields _, fun q hs hw hn hq hr shows pending => ?_⟩
    exact State.memoryGrant_shows _ q c hs hw hn hq hr shows pending
  · exact ⟨s.causes_refused slot tag v hc,
      fun h => ⟨s.clearCauses_accepted slot tag v hc h, s.setMask_accepted slot tag v hc h⟩⟩

end Sys2Proof.Machine
end

section
/-! SUPPORT. The laws every step keeps (R5, R11, R31, R151, log 1), in forms that the operations are measured by: the transfers
stored, the pages of the pool, the shot numbers held, and the item on the port. -/

namespace Sys2Proof.Machine

/-! ### The laws in the form the operations keep -/

/-- R31: the credits held and the transfers stored. -/
def State.stored (s : State) : Nat := s.link.credits + s.link.ordinary.length + s.link.develop.length

theorem State.creditLaw_iff (s : State) : s.creditLaw ↔ s.stored = if s.link.started then 32 else 0 := by
  unfold State.creditLaw State.stored
  split
  · rfl
  · simp only [Nat.add_eq_zero_iff, List.length_eq_zero_iff, and_assoc]

/-- The pages that a record holds. -/
def pagesOf (r : Option Shot) : List Nat := (r.map (·.pages)).getD []

/-- R5: the pages the pool and the records hold together, each as often as it stands somewhere. -/
def State.pageBag (s : State) : Multiset Nat := ↑s.pool.free + ↑s.recordPages

theorem State.pageLaw_iff (s : State) :
    s.pageLaw ↔ if s.pool.configured then s.pageBag = ↑s.pool.shotPages else s.pageBag = 0 ∧ s.pool.livePages = 0 := by
  unfold State.pageLaw State.pageBag
  rw [Multiset.coe_add]
  split
  · exact Multiset.coe_eq_coe.symm
  · rw [Multiset.coe_eq_zero, List.append_eq_nil_iff, and_assoc]

/-- The number that a record holds. -/
def numberOf (r : Option Shot) : Option Nat := r.map (·.number)

theorem State.heldNumbers_eq (s : State) : s.heldNumbers = (List.finRange 48).filterMap fun i => numberOf (s.record i) := rfl

/-! ### Lists gathered over the records -/

theorem filterMap_sublist_filterMap {α β : Type} {f g : α → Option β} (h : ∀ a, f a = none ∨ f a = g a) (l : List α) :
    (l.filterMap f).Sublist (l.filterMap g) := by
  induction l with
  | nil => exact .refl _
  | cons a l ih =>
    rcases h a with e | e
    · rw [List.filterMap_cons_none e]
      exact ih.trans (List.Sublist.filterMap g (List.sublist_cons_self a l))
    · rw [List.filterMap_cons, List.filterMap_cons, e]
      split
      · exact ih
      · exact ih.cons_cons _

/-- Where two families differ at one index of a list without repetition, what they gather differs by what stands there. -/
theorem coe_flatMap_add {ι α : Type} {f g : ι → List α} {i : ι} {l : List ι} (hl : l.Nodup) (hi : i ∈ l)
    (h : ∀ j, j ≠ i → f j = g j) : (l.flatMap f : Multiset α) + g i = l.flatMap g + f i := by
  induction l with
  | nil => cases hi
  | cons j l ih =>
    obtain ⟨notin, nodup⟩ := List.nodup_cons.mp hl
    simp only [List.flatMap_cons, ← Multiset.coe_add]
    rcases List.mem_cons.mp hi with rfl | later
    · have rest : l.flatMap f = l.flatMap g := List.flatMap_congr fun k hk => h k fun e => notin (e ▸ hk)
      rw [rest]
      exact (add_right_comm _ _ _).trans ((congrArg (· + _) (add_comm _ _)).trans (add_right_comm _ _ _))
    · rw [add_assoc, ih nodup later, h j fun e => notin (e ▸ later), ← add_assoc]

/-- The shot numbers held, gathered as lists. -/
theorem State.heldNumbers_flatMap (s : State) :
    s.heldNumbers = (List.finRange 48).flatMap fun i => (numberOf (s.record i)).toList :=
  List.filterMap_eq_flatMap_toList _ _

/-- A replaced record gives up its pages and brings its own. -/
theorem State.recordPages_add (s t : State) (i : Fin 48) (h : ∀ j, j ≠ i → t.record j = s.record j) :
    (t.recordPages : Multiset Nat) + pagesOf (s.record i) = s.recordPages + pagesOf (t.record i) :=
  coe_flatMap_add (f := fun j => pagesOf (t.record j)) (g := fun j => pagesOf (s.record j)) (List.nodup_finRange 48)
    (List.mem_finRange i) fun j hj => by rw [h j hj]

theorem State.recordPages_congr (s t : State) (h : ∀ i, pagesOf (t.record i) = pagesOf (s.record i)) :
    t.recordPages = s.recordPages := List.flatMap_congr fun i _ => h i

/-! ### Numbers (R11) -/

theorem State.numberLaw_of_sublist {s t : State} (h : ∀ i, numberOf (t.record i) = none ∨ numberOf (t.record i) = numberOf (s.record i))
    (hc : t.shots.counter = s.shots.counter) (law : s.numberLaw) : t.numberLaw := by
  obtain ⟨nodup, range, counter⟩ := law
  have sub : t.heldNumbers.Sublist s.heldNumbers := filterMap_sublist_filterMap h _
  exact ⟨nodup.sublist sub, fun n hn => range n (sub.subset hn), hc ▸ counter⟩

theorem nextNumber_range {n : Nat} (h : 1 ≤ n ∧ n ≤ 65535) : 1 ≤ nextNumber n ∧ nextNumber n ≤ 65535 := by
  unfold nextNumber
  split <;> omega

theorem searchNumber_range (held : List Nat) (k : Nat) {n : Nat} (h : 1 ≤ n ∧ n ≤ 65535) :
    1 ≤ searchNumber held k n ∧ searchNumber held k n ≤ 65535 := by
  induction k generalizing n with
  | zero => exact h
  | succ k ih =>
    unfold searchNumber
    split
    · exact ih (nextNumber_range h)
    · exact h

/-- The number that comes `j` after `n` in the cycle of 1 to 65535 (R11). -/
theorem iterate_nextNumber {n : Nat} (h : 1 ≤ n ∧ n ≤ 65535) (j : Nat) : nextNumber^[j] n = (n - 1 + j) % 65535 + 1 := by
  induction j with
  | zero => simp only [Function.iterate_zero, id]; omega
  | succ j ih =>
    rw [Function.iterate_succ_apply', ih]
    unfold nextNumber
    split <;> omega

/-- A search that ends at a number held has met only held numbers on its way. -/
theorem searchNumber_all_held {held : List Nat} {k n : Nat} (h : searchNumber held k n ∈ held) :
    ∀ j, j < k → nextNumber^[j] n ∈ held := by
  induction k generalizing n with
  | zero => intro j hj; omega
  | succ k ih =>
    unfold searchNumber at h
    split at h
    · rename_i here
      intro j hj
      cases j with
      | zero => exact List.contains_iff_mem.mp here
      | succ j => exact ih h j (by omega)
    · rename_i free
      exact absurd (List.contains_iff_mem.mpr h) free

/-- R11: a search over more steps than numbers are held finds a number that is not held. -/
theorem searchNumber_not_mem {held : List Nat} {k n : Nat} (hn : 1 ≤ n ∧ n ≤ 65535) (hk : held.length < k) (hmax : k ≤ 65535) :
    searchNumber held k n ∉ held := by
  intro h
  have met : (List.range k).map (fun j => nextNumber^[j] n) ⊆ held := fun x hx => by
    obtain ⟨j, hj, rfl⟩ := List.mem_map.mp hx
    exact searchNumber_all_held h j (List.mem_range.mp hj)
  have distinct : ((List.range k).map fun j => nextNumber^[j] n).Nodup := by
    refine (List.nodup_map_iff_inj_on List.nodup_range).mpr fun a ha b hb e => ?_
    rw [List.mem_range] at ha hb
    rw [iterate_nextNumber hn, iterate_nextNumber hn] at e
    omega
  have := (distinct.subperm met).length_le
  simp at this
  omega

theorem State.heldNumbers_length_lt (s : State) (i : Fin 48) (h : s.record i = none) : s.heldNumbers.length < 48 := by
  have unheld : numberOf (s.record i) = none := by rw [h]; rfl
  have shorter := (List.length_filterMap_lt_length_iff_exists (f := fun j => numberOf (s.record j))).mpr
    ⟨i, List.mem_finRange i, unheld⟩
  rwa [List.length_finRange] at shorter

/-- R11: a record opened with a number in range that is not held keeps the law, with any counter in range. -/
theorem State.numberLaw_of_new {s t : State} {i : Fin 48} {n : Nat} (free : s.record i = none) (new : numberOf (t.record i) = some n)
    (other : ∀ j, j ≠ i → t.record j = s.record j) (hn : 1 ≤ n ∧ n ≤ 65535) (unheld : n ∉ s.heldNumbers)
    (hc : 1 ≤ t.shots.counter ∧ t.shots.counter ≤ 65535) (law : s.numberLaw) : t.numberLaw := by
  obtain ⟨nodup, range, -⟩ := law
  have gathered := coe_flatMap_add (f := fun j => (numberOf (t.record j)).toList) (g := fun j => (numberOf (s.record j)).toList)
    (List.nodup_finRange 48) (List.mem_finRange i) fun j hj => by rw [other j hj]
  rw [← State.heldNumbers_flatMap, ← State.heldNumbers_flatMap, new, free] at gathered
  have perm : t.heldNumbers.Perm (n :: s.heldNumbers) := by
    refine Multiset.coe_eq_coe.mp ((add_zero _).symm.trans (gathered.trans ?_))
    exact (add_comm _ _).trans (Multiset.singleton_add _ _)
  refine ⟨perm.nodup_iff.mpr (List.nodup_cons.mpr ⟨unheld, nodup⟩), fun m hm => ?_, hc⟩
  rcases List.mem_cons.mp (perm.subset hm) with rfl | old
  · exact hn
  · exact range m old

/-- R11: the number the next shot takes, while a record is FREE. -/
theorem State.newNumber_spec (s : State) (i : Fin 48) (free : s.record i = none) (law : s.numberLaw) :
    (1 ≤ s.newNumber ∧ s.newNumber ≤ 65535) ∧ s.newNumber ∉ s.heldNumbers := by
  obtain ⟨-, -, counter⟩ := law
  exact ⟨searchNumber_range _ _ counter, searchNumber_not_mem counter (s.heldNumbers_length_lt i free) (by decide)⟩

end Sys2Proof.Machine
end

section
/-! SUPPORT. What the operations of the blocks keep: the queue of commands, the tables, the DRAM, the mask and the pending causes,
and the laws of credits, pages, numbers and port. -/

namespace Sys2Proof.Machine

/-- R50: what the arbiter goes by: its count of PASSAGE grants, and the internal requester served last. -/
def State.turn (s : State) : Nat × Requester := (s.port.passageRun, s.port.lastServed)

/-- What no operation but the loads, the mask and cause requests and the writers of DRAM changes, and the laws of R5, R11 and R31. -/
structure State.Keeps (s t : State) : Prop where
  pending : t.pending = s.pending
  tables : t.tables = s.tables
  mem : t.mem = s.mem
  turn : t.turn = s.turn
  mask : t.req.mask = s.req.mask
  causes : ∀ c, s.pendingCause c = true → t.pendingCause c = true
  credit : s.creditLaw → t.creditLaw
  pages : s.pageLaw → t.pageLaw
  numbers : s.numberLaw → t.numberLaw

/-- An operation away from the port: the port's state stays, and whether it has an item. -/
structure State.OffPort (s t : State) : Prop extends s.Keeps t where
  portState : t.tport.state = s.tport.state
  item : t.tport.item.isSome = s.tport.item.isSome

/-- An operation that keeps R151's law too. -/
structure State.Sound (s t : State) : Prop extends s.Keeps t where
  port : s.portLaw → t.portLaw

theorem State.Steady.turn {s t : State} (h : s.Steady t) : t.turn = s.turn := by rw [State.turn, h.passageRun, h.lastServed]; rfl

theorem State.Keeps.refl (s : State) : s.Keeps s := ⟨rfl, rfl, rfl, rfl, rfl, fun _ h => h, id, id, id⟩

theorem State.Keeps.trans {s t u : State} (h : s.Keeps t) (k : t.Keeps u) : s.Keeps u :=
  ⟨k.pending.trans h.pending, k.tables.trans h.tables, k.mem.trans h.mem, k.turn.trans h.turn, k.mask.trans h.mask, fun c hc => k.causes c (h.causes c hc),
    k.credit ∘ h.credit, k.pages ∘ h.pages, k.numbers ∘ h.numbers⟩

theorem State.OffPort.refl (s : State) : s.OffPort s := ⟨.refl s, rfl, rfl⟩

theorem State.OffPort.trans {s t u : State} (h : s.OffPort t) (k : t.OffPort u) : s.OffPort u :=
  ⟨h.toKeeps.trans k.toKeeps, k.portState.trans h.portState, k.item.trans h.item⟩

theorem State.OffPort.sound {s t : State} (h : s.OffPort t) : s.Sound t :=
  ⟨h.toKeeps, fun law => by rw [State.portLaw, h.portState, h.item]; exact law⟩

theorem State.Sound.refl (s : State) : s.Sound s := (State.OffPort.refl s).sound

theorem State.Sound.trans {s t u : State} (h : s.Sound t) (k : t.Sound u) : s.Sound u :=
  ⟨h.toKeeps.trans k.toKeeps, k.port ∘ h.port⟩

theorem State.OffPort.foldl {α : Type} {f : State → α → State} (hf : ∀ (s : State) (a : α), s.OffPort (f s a)) (l : List α) (s : State) :
    s.OffPort (l.foldl f s) := by
  induction l generalizing s with
  | nil => exact .refl s
  | cons a l ih => exact (hf s a).trans (ih _)

theorem State.Sound.foldl {α : Type} {f : State → α → State} (hf : ∀ (s : State) (a : α), s.Sound (f s a)) (l : List α) (s : State) :
    s.Sound (l.foldl f s) := by
  induction l generalizing s with
  | nil => exact .refl s
  | cons a l ih => exact (hf s a).trans (ih _)

theorem State.OffPort.ite {s t u : State} (p : Prop) [Decidable p] (ht : s.OffPort t) (hu : s.OffPort u) :
    s.OffPort (if p then t else u) := by
  split
  · exact ht
  · exact hu

theorem State.Sound.ite {s t u : State} (p : Prop) [Decidable p] (ht : s.Sound t) (hu : s.Sound u) :
    s.Sound (if p then t else u) := by
  split
  · exact ht
  · exact hu

/-! ### Updates of one block -/

section Blocks

variable (s : State)

theorem State.offPort_time (x : TimeBase) : s.OffPort { s with time := x } :=
  ⟨⟨rfl, rfl, rfl, rfl, rfl, fun _ h => h, id, id, id⟩, rfl, rfl⟩
theorem State.offPort_pins (x : Pins) : s.OffPort { s with pins := x } :=
  ⟨⟨rfl, rfl, rfl, rfl, rfl, fun _ h => h, id, id, id⟩, rfl, rfl⟩
theorem State.offPort_windows (x : Windows) : s.OffPort { s with windows := x } :=
  ⟨⟨rfl, rfl, rfl, rfl, rfl, fun _ h => h, id, id, id⟩, rfl, rfl⟩
theorem State.offPort_port (x : MemoryPort) (turn : (x.passageRun, x.lastServed) = s.turn := by rfl) : s.OffPort { s with port := x } :=
  ⟨⟨rfl, rfl, rfl, turn, rfl, fun _ h => h, id, id, id⟩, rfl, rfl⟩
theorem State.offPort_release (x : ReleaseUnit) : s.OffPort { s with release := x } :=
  ⟨⟨rfl, rfl, rfl, rfl, rfl, fun _ h => h, id, id, id⟩, rfl, rfl⟩
theorem State.offPort_intake (x : FrameIntake) : s.OffPort { s with intake := x } :=
  ⟨⟨rfl, rfl, rfl, rfl, rfl, fun _ h => h, id, id, id⟩, rfl, rfl⟩
theorem State.offPort_phase (x : PhaseUnit) : s.OffPort { s with phase := x } :=
  ⟨⟨rfl, rfl, rfl, rfl, rfl, fun _ h => h, id, id, id⟩, rfl, rfl⟩
theorem State.offPort_focus (x : Focus) : s.OffPort { s with focus := x } :=
  ⟨⟨rfl, rfl, rfl, rfl, rfl, fun _ h => h, id, id, id⟩, rfl, rfl⟩
theorem State.offPort_lens (x : LensDrive) : s.OffPort { s with lens := x } :=
  ⟨⟨rfl, rfl, rfl, rfl, rfl, fun _ h => h, id, id, id⟩, rfl, rfl⟩
theorem State.offPort_engine (x : Engine) : s.OffPort { s with engine := x } :=
  ⟨⟨rfl, rfl, rfl, rfl, rfl, fun _ h => h, id, id, id⟩, rfl, rfl⟩
theorem State.offPort_queue (x : TetherQueue) : s.OffPort { s with queue := x } :=
  ⟨⟨rfl, rfl, rfl, rfl, rfl, fun _ h => h, id, id, id⟩, rfl, rfl⟩
theorem State.offPort_preList (x : List (Fin 48)) : s.OffPort { s with shots := { s.shots with preList := x } } :=
  ⟨⟨rfl, rfl, rfl, rfl, rfl, fun _ h => h, id, id, id⟩, rfl, rfl⟩
theorem State.offPort_reservation (x : Nat) : s.OffPort { s with pool := { s.pool with reservation := x } } :=
  ⟨⟨rfl, rfl, rfl, rfl, rfl, fun _ h => h, id, id, id⟩, rfl, rfl⟩

/-- A change of the request unit that keeps the mask and takes no cause back. -/
theorem State.offPort_req (x : RequestUnit) (mask : x.mask = s.req.mask)
    (causes : ∀ c : Cause, s.req.causes.getLsbD c.code = true → x.causes.getLsbD c.code = true) : s.OffPort { s with req := x } :=
  ⟨⟨rfl, rfl, rfl, rfl, mask, causes, id, id, id⟩, rfl, rfl⟩

/-- A change of the port that leaves its state and keeps or changes its item. -/
theorem State.offPort_tport (x : TetherPort) (st : x.state = s.tport.state) (item : x.item.isSome = s.tport.item.isSome) :
    s.OffPort { s with tport := x } :=
  ⟨⟨rfl, rfl, rfl, rfl, rfl, fun _ h => h, id, id, id⟩, st, item⟩

/-- A change of the port alone. -/
theorem State.keeps_tport (x : TetherPort) : s.Keeps { s with tport := x } := ⟨rfl, rfl, rfl, rfl, rfl, fun _ h => h, id, id, id⟩

/-- A change of the link that keeps R31's balance. -/
theorem State.offPort_link (x : LinkPort) (started : x.started = s.link.started)
    (stored : x.credits + x.ordinary.length + x.develop.length = s.stored) : s.OffPort { s with link := x } :=
  ⟨⟨rfl, rfl, rfl, rfl, rfl, fun _ h => h, fun law => (State.creditLaw_iff _).mpr
    (stored.trans (((State.creditLaw_iff s).mp law).trans (by rw [started]))), id, id⟩, rfl, rfl⟩

theorem State.offPort_raise (c : Cause) : s.OffPort (s.raise c) := s.offPort_req _ rfl fun d h => pending_or _ _ d h
theorem State.offPort_mark (r : ReportRecord) : s.OffPort (s.mark r) := s.offPort_req _ rfl fun _ h => h
theorem State.offPort_setSlot (i : Fin 8) (x : Slot) : s.OffPort (s.setSlot i x) := s.offPort_req _ rfl fun _ h => h
theorem State.offPort_complete (i : Fin 8) (c : ResultCode) (b : Beat) : s.OffPort (s.complete i c b) :=
  ((s.offPort_setSlot _ _).trans (State.offPort_mark _ _)).trans (State.offPort_raise _ _)
theorem State.offPort_finishEvent (old : State) : s.OffPort (s.finishEvent old) := s.offPort_req _ rfl fun _ h => h
theorem State.offPort_setDebouncer (l : Line) (d : Debouncer) : s.OffPort (s.setDebouncer l d) := by
  cases l <;> exact s.offPort_release _
theorem State.offPort_setGroup (g : Group) (d : GroupDrive) : s.OffPort (s.setGroup g d) := by
  cases g <;> exact s.offPort_lens _

end Blocks

/-! ### Records and pages (R5, R11) -/

/-- A steady operation that moves pages between the pool and the records. -/
theorem State.Steady.pageLaw {s t : State} (h : s.Steady t) (bag : t.pageBag = s.pageBag) (law : s.pageLaw) : t.pageLaw := by
  rw [State.pageLaw_iff] at law ⊢
  rw [h.configured, bag, Pool.shotPages, h.first, h.last, h.livePages]
  exact law

theorem State.Steady.creditLaw {s t : State} (h : s.Steady t) (stored : t.stored = s.stored) (law : s.creditLaw) : t.creditLaw := by
  rw [State.creditLaw_iff] at law ⊢
  rw [stored, h.started]
  exact law

theorem State.Steady.keeps {s t : State} (h : s.Steady t) (stored : t.stored = s.stored) (bag : t.pageBag = s.pageBag)
    (numbers : s.numberLaw → t.numberLaw) : s.Keeps t :=
  ⟨h.pending, h.tables, h.mem, h.turn, h.mask, h.causes, h.creditLaw stored, h.pageLaw bag, numbers⟩

theorem State.pageBag_congr {s t : State} (free : t.pool.free = s.pool.free) (h : ∀ i, pagesOf (t.record i) = pagesOf (s.record i)) :
    t.pageBag = s.pageBag := by
  rw [State.pageBag, State.pageBag, free, State.recordPages_congr s t h]

/-- A record changed without its number or its pages. -/
theorem State.offPort_modifyShot (s : State) (i : Fin 48) (f : Shot → Shot) (number : ∀ x, (f x).number = x.number := by intro; rfl)
    (pages : ∀ x, (f x).pages = x.pages := by intro; rfl) : s.OffPort (s.modifyShot i f) := by
  have same : ∀ j, numberOf ((s.modifyShot i f).record j) = numberOf (s.record j) ∧
      pagesOf ((s.modifyShot i f).record j) = pagesOf (s.record j) := fun j => by
    by_cases e : j = i
    · subst e
      rw [State.modifyShot_same]
      cases s.record j with
      | none => exact ⟨rfl, rfl⟩
      | some x => exact ⟨congrArg some (number x), pages x⟩
    · rw [State.modifyShot_other s i j f e]
      exact ⟨rfl, rfl⟩
  exact ⟨(s.steady_modifyShot i f).keeps rfl (State.pageBag_congr rfl fun j => (same j).2)
    (State.numberLaw_of_sublist (fun j => .inr (same j).1) rfl), rfl, rfl⟩

/-! ### The lanes and the engine (R31, R35, R143) -/

section Engine

variable (s : State)

theorem State.offPort_answerLane (f : LaneRead → List Byte) : s.OffPort (s.answerLane f) := by
  unfold State.answerLane
  split
  · exact .refl s
  · rename_i r rest h
    refine s.offPort_link _ rfl ?_
    simp only [State.stored, h, List.length_cons]
    omega

theorem State.offPort_endRun : s.OffPort s.endRun := by
  unfold State.endRun
  split
  · exact .refl s
  · split
    · exact (s.offPort_engine _).trans (State.offPort_answerLane _ _)
    · exact s.offPort_engine _

theorem State.offPort_dropFreedShot (i : Fin 48) (n : Nat) : s.OffPort (s.dropFreedShot i n) :=
  .ite _ ((s.offPort_engine _).trans (State.offPort_endRun _)) (s.offPort_engine _)

theorem State.offPort_dropLive (f : Fin 2 → Bool) : s.OffPort (s.dropLive f) :=
  .ite _ ((s.offPort_engine _).trans (State.offPort_endRun _)) (s.offPort_engine _)

theorem State.offPort_startFill (p : Fin 4) (k : Key) (g : Geometry) : s.OffPort (s.startFill p k g) :=
  ⟨⟨rfl, rfl, rfl, rfl, rfl, fun _ h => h, id, id, id⟩, rfl, rfl⟩

theorem State.offPort_prefetch (k : Key) (g : Geometry) : s.OffPort (s.prefetch k g) := by
  unfold State.prefetch State.tryFill
  split
  · split
    · exact (s.offPort_engine _).trans (State.offPort_startFill _ _ _ _)
    · exact .refl s
  · exact .refl s

theorem State.offPort_completeRun (r : Run) (p : Fin 4) (d : List Byte) : s.OffPort (s.completeRun r p d) := by
  unfold State.completeRun
  dsimp only
  split
  · have answered := (s.offPort_engine { s.engine with run := none, recency := p :: dropElem p s.engine.recency }).trans
      (State.offPort_answerLane _ fun q => q.fromRun (developRun r.geom r.profile d r.run))
    exact .ite _ (answered.trans (State.offPort_prefetch _ _ _)) answered
  · exact s.offPort_engine _

theorem State.offPort_takeStreamRun (t : Stream) : s.OffPort (s.takeStreamRun t) :=
  .ite _ ((s.offPort_engine _).trans (State.offPort_prefetch _ _ _)) (s.offPort_engine _)

theorem State.offPort_pickRun (t : State) (h : s.pickRun = some t) : s.OffPort t := by
  unfold State.pickRun at h
  split at h
  · split at h
    · cases h; exact s.offPort_engine _
    · cases h; exact s.offPort_answerLane _
  · split at h
    · cases h; exact s.offPort_takeStreamRun _
    · cases h

theorem State.offPort_engineAct (t : State) (h : s.engineAct = some t) : s.OffPort t := by
  unfold State.engineAct at h
  split at h
  · exact s.offPort_pickRun t h
  · split at h
    · split at h
      · cases h; exact s.offPort_completeRun _ _ _
      · cases h
    · split at h
      · cases h; exact (s.offPort_engine _).trans (State.offPort_startFill _ _ _ _)
      · cases h

end Engine

theorem State.offPort_engineActs (n : Nat) (s : State) : s.OffPort (s.engineActs n) := by
  induction n generalizing s with
  | zero => exact .refl s
  | succ n ih =>
    unfold State.engineActs
    split
    · exact (s.offPort_engineAct _ (by assumption)).trans (ih _)
    · exact .refl s

/-! ### Freeing (R15, R16) -/

theorem State.offPort_abandonRaw (s : State) : s.OffPort s.abandonRaw :=
  ⟨⟨rfl, rfl, rfl, rfl, rfl, fun _ h => h, id, id, id⟩, rfl, rfl⟩

theorem State.offPort_dropItemPages (s : State) (r : ShotRef) : s.OffPort (s.dropItemPages r) := by
  unfold State.dropItemPages
  split
  · exact .ite _ s.offPort_abandonRaw (.refl s)
  · exact .refl s

theorem State.ledger_dropFreedShot (s : State) (i : Fin 48) (n : Nat) : s.Ledger (s.dropFreedShot i n) := by
  unfold State.dropFreedShot
  dsimp only
  split
  · exact (s.ledger_engine _).trans (State.ledger_endRun _)
  · exact s.ledger_engine _

theorem State.ledger_dropItemPages (s : State) (r : ShotRef) : s.Ledger (s.dropItemPages r) := by
  unfold State.dropItemPages State.abandonRaw
  split
  · split <;> exact ⟨rfl, rfl, rfl⟩
  · exact .refl s

/-- A freed shot as the units that knew it leave it, before its record becomes FREE (R15 steps 1 to 3). -/
def State.disowned (s : State) (i : Fin 48) (x : Shot) : State :=
  (({ s with pool := { s.pool with free := s.pool.free ++ x.pages } } : State).dropFreedShot i x.number).dropItemPages
    { index := i, number := x.number }

theorem State.disowned_ledger (s : State) (i : Fin 48) (x : Shot) :
    ({ s with pool := { s.pool with free := s.pool.free ++ x.pages } } : State).Ledger (s.disowned i x) :=
  (State.ledger_dropFreedShot _ _ _).trans (State.ledger_dropItemPages _ _)

theorem State.disowned_offPort (s : State) (i : Fin 48) (x : Shot) :
    ({ s with pool := { s.pool with free := s.pool.free ++ x.pages } } : State).OffPort (s.disowned i x) :=
  (State.offPort_dropFreedShot _ _ _).trans (State.offPort_dropItemPages _ _)

theorem State.freeShot_of_free (s : State) (i : Fin 48) (h : s.record i = none) : s.freeShot i = s := by
  rw [State.freeShot, h]

/-- R15: a record in use is freed. -/
theorem State.freeShot_of_used (s : State) (i : Fin 48) (x : Shot) (h : s.record i = some x) :
    s.freeShot i = { s.disowned i x with shots := { s.shots with
      records := s.shots.records.set i none, preList := dropElem i s.shots.preList } } := by
  have shots : (s.disowned i x).shots = s.shots := (s.disowned_ledger i x).shots
  rw [← shots, State.freeShot, h]
  rfl

theorem State.freeShot_record (s : State) (i j : Fin 48) : (s.freeShot i).record j = if j = i then none else s.record j := by
  cases h : s.record i with
  | none =>
    rw [s.freeShot_of_free i h]
    split
    · next e => exact e ▸ h
    · rfl
  | some x =>
    rw [s.freeShot_of_used i x h]
    split
    · next e => exact e ▸ s.setRecord_same i none
    · next e => exact s.setRecord_other i j none e

theorem State.freeShot_pool (s : State) (i : Fin 48) :
    (s.freeShot i).pool = { s.pool with free := s.pool.free ++ pagesOf (s.record i) } := by
  cases h : s.record i with
  | none => rw [s.freeShot_of_free i h, pagesOf, Option.map_none, Option.getD_none, List.append_nil]
  | some x =>
    rw [s.freeShot_of_used i x h]
    exact (s.disowned_ledger i x).pool

theorem State.freeShot_counter (s : State) (i : Fin 48) : (s.freeShot i).shots.counter = s.shots.counter := by
  cases h : s.record i with
  | none => rw [s.freeShot_of_free i h]
  | some x => rw [s.freeShot_of_used i x h]

theorem State.freeShot_req (s : State) (i : Fin 48) : (s.freeShot i).req = s.req := by
  cases h : s.record i with
  | none => rw [s.freeShot_of_free i h]
  | some x =>
    rw [s.freeShot_of_used i x h]
    exact (s.disowned_ledger i x).req

/-- R15: the pages of the freed record are in the pool. -/
theorem State.freeShot_pageBag (s : State) (i : Fin 48) : (s.freeShot i).pageBag = s.pageBag := by
  have moved := State.recordPages_add s (s.freeShot i) i fun j hj => by rw [s.freeShot_record i j, if_neg hj]
  rw [s.freeShot_record i i, if_pos rfl] at moved
  rw [State.pageBag, State.pageBag, s.freeShot_pool i, ← Multiset.coe_add, add_right_comm, add_assoc, moved]
  exact congrArg _ (add_zero _)

theorem State.offPort_freeShot (s : State) (i : Fin 48) : s.OffPort (s.freeShot i) := by
  have numbers : s.numberLaw → (s.freeShot i).numberLaw :=
    State.numberLaw_of_sublist (fun j => by
      rw [s.freeShot_record i j]
      split
      · exact .inl rfl
      · exact .inr rfl) (s.freeShot_counter i)
  have steady := s.steady_freeShot i
  have bag := s.freeShot_pageBag i
  cases h : s.record i with
  | none => rw [s.freeShot_of_free i h]; exact .refl s
  | some x =>
    rw [s.freeShot_of_used i x h] at *
    have off := s.disowned_offPort i x
    exact ⟨⟨steady.pending, steady.tables, steady.mem, steady.turn, steady.mask, steady.causes, off.credit, steady.pageLaw bag, numbers⟩,
      off.portState, off.item⟩

theorem State.offPort_evict (s : State) (i : Fin 48) : s.OffPort (s.evict i) := (s.offPort_freeShot i).trans (State.offPort_raise _ _)

theorem State.offPort_depthCheck (s : State) : s.OffPort s.depthCheck := .foldl State.offPort_evict _ s

theorem State.offPort_freeingCheck (s : State) (i : Fin 48) : s.OffPort (s.freeingCheck i) := by
  unfold State.freeingCheck
  split
  · exact .refl s
  · split
    · exact .ite _ (s.offPort_freeShot i) (.refl s)
    · exact .ite _ (s.offPort_freeShot i) (.refl s)
    · exact .ite _ s.offPort_depthCheck (.refl s)
    · exact .refl s

theorem State.offPort_makeRoom (n : Nat) (l : List (Fin 48)) (s : State) : s.OffPort (s.makeRoom n l) := by
  induction l generalizing s with
  | nil => exact .refl s
  | cons i l ih => exact .ite _ (.refl s) ((s.offPort_evict i).trans (ih _))

/-! ### Shots (R6, R10 to R14, R25, R26) -/

section Shots

variable (s : State)

theorem State.offPort_enqueue (i : Fin 48) (b : Bool) : s.OffPort (s.enqueue i b) := by
  unfold State.enqueue
  split
  · split
    · exact ((s.offPort_queue _).trans (State.offPort_modifyShot _ i _)).trans (State.offPort_mark _ _)
    · exact .refl s
  · exact .refl s

theorem State.offPort_becomeKept (i : Fin 48) : s.OffPort (s.becomeKept i) := by
  have kept : s.OffPort (((s.modifyShot i Shot.kept).enqueue i false).raise .shotKept) :=
    ((s.offPort_modifyShot i _).trans (State.offPort_enqueue _ i false)).trans (State.offPort_raise _ _)
  unfold State.becomeKept
  dsimp only
  split
  · exact .ite _ (kept.trans (State.offPort_freeShot _ i)) kept
  · exact kept

theorem State.offPort_modifyFilling (f : Shot → Shot) (number : ∀ x, (f x).number = x.number) (pages : ∀ x, (f x).pages = x.pages) :
    s.OffPort (s.modifyFilling f) := by
  unfold State.modifyFilling
  split
  · exact s.offPort_modifyShot _ f number pages
  · exact .refl s

theorem State.offPort_promote : s.OffPort s.promote :=
  ((State.OffPort.foldl State.offPort_becomeKept _ s).trans (State.offPort_preList _ _)).trans
    (State.offPort_modifyFilling _ _ (fun x => by split <;> rfl) fun x => by split <;> rfl)

theorem State.offPort_lapseShot (i : Fin 48) : s.OffPort (s.lapseShot i) :=
  .ite _ (s.offPort_freeShot i) (s.offPort_modifyShot i _)

theorem State.offPort_lapse : s.OffPort s.lapse :=
  ((State.OffPort.foldl State.offPort_lapseShot _ s).trans (State.offPort_preList _ _)).trans
    (State.offPort_modifyFilling _ _ (fun x => by split <;> rfl) fun x => by split <;> rfl)

/-- A record that opens with no page and a number in range that no other holds, at a counter in range. -/
theorem State.offPort_openRecord (i : Fin 48) (x : Shot) (n m : Nat) (h : s.record i = none) (empty : x.pages = [])
    (numbers : s.numberLaw → ((1 ≤ x.number ∧ x.number ≤ 65535) ∧ x.number ∉ s.heldNumbers) ∧ 1 ≤ n ∧ n ≤ 65535) :
    s.OffPort { s.setRecord i (some x) with
      shots := { (s.setRecord i (some x)).shots with counter := n }
      pool := { (s.setRecord i (some x)).pool with reservation := m } } := by
  have bag : (s.setRecord i (some x)).pageBag = s.pageBag := State.pageBag_congr rfl fun j => by
    by_cases e : j = i
    · rw [e, s.setRecord_same, h]; exact empty
    · rw [s.setRecord_other i j _ e]
  have steady := s.steady_openRecord i (some x) n m
  refine ⟨⟨rfl, rfl, rfl, rfl, rfl, fun _ h => h, id, steady.pageLaw bag, fun law => ?_⟩, rfl, rfl⟩
  obtain ⟨⟨range, unheld⟩, counter⟩ := numbers law
  exact State.numberLaw_of_new h (congrArg numberOf (s.setRecord_same i (some x))) (fun j hj => s.setRecord_other i j _ hj) range
    unheld counter law

/-- R7, R10, R11: a shot opens in a FREE record. -/
theorem State.offPort_openShot (i : Fin 48) (c : Fin 4) (p : Capture) (d : Destiny) (h : s.record i = none) :
    s.OffPort (s.openShot i c p d) :=
  s.offPort_openRecord i _ _ _ h rfl fun law =>
    have new := s.newNumber_spec i h law
    ⟨new, nextNumber_range new.1⟩

/-- R6: pages go from the head of the free list to the tail of a page list. -/
theorem State.offPort_assignPages (i : Fin 48) (k : Nat) : s.OffPort (s.assignPages i k) := by
  have steady := s.steady_assignPages i k
  unfold State.assignPages at *
  split
  · exact .refl s
  · rename_i x h
    rw [h] at steady
    dsimp only at *
    generalize hg : s.pool.free.take (k + 1 - x.pages.length) = got at *
    have rest : s.pool.free = got ++ s.pool.free.drop got.length := by
      rw [← hg, List.length_take]
      rcases Nat.le_total (k + 1 - x.pages.length) s.pool.free.length with le | le
      · rw [Nat.min_eq_left le, List.take_append_drop]
      · rw [Nat.min_eq_right le, List.take_of_length_le le, List.drop_length, List.append_nil]
    generalize ht : State.setRecord { s with pool := { s.pool with
      free := s.pool.free.drop got.length, reservation := s.pool.reservation - got.length } } i
        (some { x with pages := x.pages ++ got }) = t at *
    have own : t.record i = some { x with pages := x.pages ++ got } := by rw [← ht]; exact State.setRecord_same _ i _
    have other : ∀ j, j ≠ i → t.record j = s.record j := fun j hj => by rw [← ht]; exact State.setRecord_other _ i j _ hj
    have free : t.pool.free = s.pool.free.drop got.length := by rw [← ht]; rfl
    have moved := State.recordPages_add s t i other
    rw [own, h] at moved
    have bag : t.pageBag = s.pageBag := by
      rw [State.pageBag, State.pageBag, free]
      have gives : (s.pool.free : Multiset Nat) = got + (s.pool.free.drop got.length : List Nat) := by
        rw [Multiset.coe_add, ← rest]
      have adds : (pagesOf (some { x with pages := x.pages ++ got }) : Multiset Nat) = pagesOf (some x) + got :=
        (Multiset.coe_add _ _).symm
      rw [gives]
      rw [adds, ← add_assoc, add_right_comm] at moved
      rw [add_right_cancel moved]
      exact (add_left_comm _ _ _).trans ((add_comm _ _).trans (congrArg (· + _) (add_comm _ _)) |>.trans (by ac_rfl))
    refine ⟨steady.keeps (by rw [← ht]; rfl) bag (State.numberLaw_of_sublist (fun j => .inr ?_) (by rw [← ht]; rfl)),
      by rw [← ht]; rfl, by rw [← ht]; rfl⟩
    by_cases e : j = i
    · rw [e, own, h]; rfl
    · rw [other j e]

theorem State.offPort_releaseReservation : s.OffPort s.releaseReservation := s.offPort_reservation 0

theorem State.offPort_completeShot (i : Fin 48) : s.OffPort (s.completeShot i) := by
  have released := s.offPort_releaseReservation
  unfold State.completeShot
  dsimp only
  split
  · exact released
  · refine .ite _ (released.trans (State.offPort_freeShot _ i)) (.ite _ (released.trans (State.offPort_becomeKept _ i)) ?_)
    exact ((released.trans (State.offPort_modifyShot _ i _)).trans (State.offPort_preList _ _)).trans
      (State.offPort_depthCheck _)

/-- R14: the pages of an aborted frame's record go to the pool, and its record is freed with none. -/
theorem State.offPort_abortShot (i : Fin 48) : s.OffPort (s.abortShot i) := by
  unfold State.abortShot
  split
  · exact s.offPort_releaseReservation
  · rename_i x h
    refine State.OffPort.trans (t := (({ s with pool := { s.pool with free := s.pool.free ++ x.pages } } : State).releaseReservation).modifyShot
      i fun x => { x with pages := [] }) ?_ (State.offPort_freeShot _ i)
    generalize ht : (({ s with pool := { s.pool with free := s.pool.free ++ x.pages } } : State).releaseReservation).modifyShot
      i (fun x => { x with pages := [] }) = t
    have own : t.record i = some { x with pages := [] } := by
      rw [← ht, State.modifyShot_same]; exact congrArg (Option.map _) h
    have other : ∀ j, j ≠ i → t.record j = s.record j := fun j hj => by rw [← ht]; exact State.modifyShot_other _ i j _ hj
    have free : t.pool.free = s.pool.free ++ x.pages := by rw [← ht]; rfl
    have steady : s.Steady t := by
      rw [← ht]
      exact ((State.Steady.free s _ s.pool.reservation).trans (State.steady_releaseReservation _)).trans (State.steady_modifyShot _ i _)
    have moved := State.recordPages_add s t i other
    rw [own, h] at moved
    have bag : t.pageBag = s.pageBag := by
      rw [State.pageBag, State.pageBag, free, ← Multiset.coe_add, add_right_comm, add_assoc]
      exact congrArg _ (moved.trans (add_zero _))
    refine ⟨steady.keeps (by rw [← ht]; rfl) bag (State.numberLaw_of_sublist (fun j => .inr ?_) (by rw [← ht]; rfl)),
      by rw [← ht]; rfl, by rw [← ht]; rfl⟩
    by_cases e : j = i
    · rw [e, own, h]; rfl
    · rw [other j e]

end Shots

end Sys2Proof.Machine
end

section
/-! SUPPORT. What the release unit, the lens, the frame's end, the port and what follows an event keep. -/

namespace Sys2Proof.Machine

/-! ### Release unit and frames (R52 to R69, R73, R74) -/

section Release

variable (s : State)

theorem State.offPort_openFrame (k : FrameKind) (g : Geometry) : s.OffPort (s.openFrame k g) :=
  ⟨⟨rfl, rfl, rfl, rfl, rfl, fun _ h => h, id, id, id⟩, rfl, rfl⟩

theorem State.offPort_liveFallsDue (due : Nat) : s.OffPort (s.liveFallsDue due) :=
  .ite _ (((s.offPort_release _).trans (State.offPort_dropLive _ _)).trans (State.offPort_openFrame _ _ _)) (s.offPort_release _)

theorem State.offPort_syncLive (old : State) : s.OffPort (s.syncLive old) :=
  .ite _ (s.offPort_liveFallsDue _) (.ite _ (.refl s) (s.offPort_release _))

theorem State.offPort_deriveRelease (old : State) : s.OffPort (s.deriveRelease old) :=
  ((s.offPort_release { s.release with state := s.releaseStateNow }).trans (.ite _ (State.offPort_release _ _) (.refl _))).trans
    (State.offPort_syncLive _ _)

theorem State.lowestFree_spec (i : Fin 48) (h : s.lowestFree = some i) : s.record i = none := by
  simpa using List.find?_some h

theorem State.offPort_fireShot (k : TriggerKind) : s.OffPort (s.fireShot k) := by
  unfold State.fireShot
  split
  · rename_i c p i _ _ free
    exact ((s.offPort_openShot i c p k.destiny (s.lowestFree_spec i free)).trans (State.offPort_release _ _)).trans
      (State.offPort_openFrame _ _ _)
  · exact .refl s

theorem State.offPort_waitFor (r : WaitReason) : s.OffPort (s.waitFor r) :=
  .ite _ ((s.offPort_release _).trans (State.offPort_raise _ _)) (s.offPort_release _)

theorem State.offPort_roomFor (k : TriggerKind) : s.OffPort (s.roomFor k) := .ite _ (State.offPort_makeRoom _ _ s) (.refl s)

theorem State.offPort_testTrigger (k : TriggerKind) : s.OffPort (s.testTrigger k) := by
  have room := s.offPort_roomFor k
  unfold State.testTrigger
  dsimp only
  split
  · exact (room.trans (State.offPort_fireShot _ _)).trans (State.offPort_deriveRelease _ _)
  · exact (room.trans (State.offPort_waitFor _ _)).trans (State.offPort_syncLive _ _)

theorem State.offPort_updateRelease (old : State) : s.OffPort (s.updateRelease old) := by
  have derived := s.offPort_deriveRelease old
  have tested := fun k => derived.trans (State.offPort_testTrigger _ k)
  unfold State.updateRelease
  dsimp only
  split
  · exact derived
  · exact .ite _ (.ite _ (tested _) derived) (.ite _ (tested _) derived)

theorem State.offPort_requestBurst : s.OffPort s.requestBurst :=
  .ite _ (s.offPort_raise _) (.ite _ (.refl s) (.ite _ (s.offPort_raise _) (s.offPort_release _)))

theorem State.offPort_dropBurst (old : State) : s.OffPort (s.dropBurst old) := .ite _ (s.offPort_release _) (.refl s)

theorem State.offPort_pressEvents (old : State) : s.OffPort (s.pressEvents old) := by
  have pressed : s.OffPort (if !old.fullPress && s.fullPress then s.promote.requestBurst else s) :=
    .ite _ (s.offPort_promote.trans (State.offPort_requestBurst _)) (.refl s)
  have released := pressed.trans (.ite (old.fullPress && !s.fullPress) (State.offPort_dropBurst _ old) (.refl _))
  exact .ite _ (released.trans (State.offPort_lapse _)) released

end Release

/-! ### Lens (R105, R113 to R119) -/

section Lens

variable (s : State)

theorem State.offPort_homingStep (g : Group) (at_ : Nat) : s.OffPort (s.homingStep g at_) := by
  unfold State.homingStep
  split
  · exact .refl s
  · exact .ite _ ((s.offPort_setGroup _ _).trans (State.offPort_raise _ _)) (s.offPort_setGroup _ _)

theorem State.offPort_homingEnd : s.OffPort s.homingEnd := by
  unfold State.homingEnd
  split
  · exact .refl s
  · refine .ite _ (.refl s) (.ite _ ?_ ?_)
    · exact ((s.offPort_lens _).trans (State.offPort_raise _ _)).trans (State.offPort_complete _ _ _ _)
    · exact (s.offPort_lens _).trans (State.offPort_complete _ _ _ _)

theorem State.offPort_loseLens : s.OffPort s.loseLens := by
  unfold State.loseLens
  dsimp only
  split
  · exact (s.offPort_lens _).trans (State.offPort_raise _ _)
  · exact ((s.offPort_lens _).trans (State.offPort_raise _ _)).trans (State.offPort_complete _ _ _ _)

theorem State.offPort_handTargets (t : TargetPair) : s.OffPort (s.handTargets t) := by
  unfold State.handTargets
  split
  · exact .refl s
  · exact s.offPort_lens _

end Lens

/-! ### The end of a frame, and counted changes (R51, R73, R74, R98) -/

section Frame

variable (s : State)

/-- R105: the targets a frame issues are handed on. -/
def State.handFound (f : Finding) : State :=
  match f.target with
  | some p => s.handTargets p
  | none => s

/-- R101: a frame that locks focus. -/
def State.lockFound (f : Finding) : State :=
  if f.locks then ({ s with focus := { s.focus with state := .locked } }).raise .focusLocked else s

/-- R107: the focus record of a SHOT frame, made of what focus control was in `now` before the frame. -/
def State.recordFound (now : State) (f : Finding) (r : ResultSet) (kind : FrameKind) (t : Latch) : State :=
  match kind with
  | .shot i => if r.anyEnabled then s.modifyShot i fun x => { x with focus := some (now.focusRecordOf f t) } else s
  | .live _ => s

/-- R98: what focus control keeps of a frame. -/
def State.noteFound (f : Finding) (r : ResultSet) : State :=
  { s with focus := { s.focus with
      lastZone := f.zone, lastDisparity := f.disparity, lastInFocus := f.inFocus, lastSerial := r.serial
      lastTarget := f.target.or s.focus.lastTarget } }

/-- R98 in its steps. -/
theorem State.actOnFrame_eq (r : ResultSet) (kind : FrameKind) (t : Latch) :
    s.actOnFrame r kind t = (((s.handFound (s.finding r t)).lockFound (s.finding r t)).recordFound s (s.finding r t) r kind t).noteFound
      (s.finding r t) r := by
  cases kind <;> rfl

theorem State.offPort_handFound (f : Finding) : s.OffPort (s.handFound f) := by
  unfold State.handFound
  split
  · exact s.offPort_handTargets _
  · exact .refl s

theorem State.offPort_lockFound (f : Finding) : s.OffPort (s.lockFound f) :=
  .ite _ ((s.offPort_focus _).trans (State.offPort_raise _ _)) (.refl s)

theorem State.offPort_recordFound (now : State) (f : Finding) (r : ResultSet) (kind : FrameKind) (t : Latch) :
    s.OffPort (s.recordFound now f r kind t) := by
  cases kind with
  | shot i => exact .ite _ (s.offPort_modifyShot i fun x => { x with focus := some (now.focusRecordOf f t) }) (.refl s)
  | live slot => exact .refl s

theorem State.offPort_actOnFrame (r : ResultSet) (kind : FrameKind) (t : Latch) : s.OffPort (s.actOnFrame r kind t) := by
  rw [s.actOnFrame_eq]
  exact (((s.offPort_handFound _).trans (State.offPort_lockFound _ _)).trans (State.offPort_recordFound _ _ _ _ _ _)).trans
    (State.offPort_focus _ _)

theorem State.offPort_evaluateFrame (f : Frame) : s.OffPort (s.evaluateFrame f) := by
  unfold State.evaluateFrame
  split
  · exact .refl s
  · refine .ite _ (.refl s) (.trans ?_ (State.offPort_actOnFrame _ _ _ _))
    exact ((s.offPort_phase _).trans (State.offPort_mark _ _)).trans (State.offPort_mark _ _)

theorem State.offPort_completeFrame (f : Frame) : s.OffPort (s.completeFrame f) := by
  have closed := (s.offPort_evaluateFrame f).trans (State.offPort_phase _ (s.evaluateFrame f).closePhase.phase)
  unfold State.completeFrame
  dsimp only
  split
  · exact ((closed.trans (State.offPort_windows _ _)).trans (State.offPort_raise _ _)).trans (State.offPort_intake _ _)
  · exact ((closed.trans (State.offPort_completeShot _ _)).trans (State.offPort_raise _ _)).trans (State.offPort_intake _ _)

theorem State.offPort_timeoutFrame (f : Frame) : s.OffPort (s.timeoutFrame f) := by
  have closed := s.offPort_phase s.closePhase.phase
  unfold State.timeoutFrame
  dsimp only
  split
  · exact (closed.trans (State.offPort_raise _ _)).trans (State.offPort_intake _ _)
  · exact ((closed.trans (State.offPort_abortShot _ _)).trans (State.offPort_raise _ _)).trans (State.offPort_intake _ _)

theorem State.offPort_countChange (l : Line) : s.OffPort (s.countChange l) := by
  have counted := s.offPort_setDebouncer l { active := !(s.debouncer l).active, since := none }
  cases l with
  | lready => exact .ite _ counted (counted.trans (State.offPort_loseLens _))
  | s1 => exact counted.trans (State.offPort_pressEvents _ _)
  | s2 => exact counted.trans (State.offPort_pressEvents _ _)
  | remote => exact counted.trans (State.offPort_pressEvents _ _)

theorem State.offPort_readLine (l : Line) : s.OffPort (s.readLine l) := s.offPort_setDebouncer l _

end Frame

/-! ### The tether port with its item (R153 to R160) -/

section Port

variable (s : State)

theorem State.offPort_modifyItem (f : Item → Item) : s.OffPort (s.modifyItem f) := s.offPort_tport _ rfl (by simp)

theorem State.offPort_tstb (b : Bool) : s.OffPort { s with tport := { s.tport with tstb := b } } := s.offPort_tport _ rfl rfl

theorem State.offPort_feedPlace (i : Fin 2) : s.OffPort (s.feedPlace i) := by
  unfold State.feedPlace
  split
  · exact .refl s
  · refine .ite _ ?_ (.refl s)
    have moved := s.offPort_modifyItem fun it => { it with nextBlock := it.nextBlock + 1 }
    dsimp only
    split
    · exact moved.trans ⟨⟨rfl, rfl, rfl, rfl, rfl, fun _ h => h, id, id, id⟩, rfl, rfl⟩
    · exact moved.trans (State.offPort_tport _ _ rfl rfl)

theorem State.offPort_feedRaw : s.OffPort s.feedRaw := (s.offPort_feedPlace 0).trans (State.offPort_feedPlace _ 1)

theorem State.offPort_freeBlock (it : Item) (b : Nat) : s.OffPort (s.freeBlock it b) := by
  unfold State.freeBlock
  split
  · exact s.offPort_tport _ rfl rfl
  · exact s.offPort_engine _

theorem State.offPort_driveUnit (it : Item) (w : Word16) (n : Nat) : s.OffPort (s.driveUnit it w n) :=
  (s.offPort_tport { s.tport with td := unitData s.tables.tether.wide it.highByte w, tstb := false } rfl rfl).trans
    (State.offPort_modifyItem _ _)

theorem State.offPort_setStep (h : Handshake) : s.OffPort (s.setStep h) := s.offPort_modifyItem _

theorem State.offPort_beginUnit (n : Nat) : s.OffPort (s.beginUnit n) := by
  unfold State.beginUnit
  split
  · exact .refl s
  · split
    · exact .ite _ (s.offPort_setStep _) (s.offPort_driveUnit _ _ _)
    · exact .ite _ ((s.offPort_modifyItem _).trans (State.offPort_driveUnit _ _ _ _)) (s.offPort_setStep _)

theorem State.offPort_resumeUnit : s.OffPort s.resumeUnit := by
  unfold State.resumeUnit
  split
  · exact .refl s
  · exact .ite _ (s.offPort_beginUnit _) (.refl s)

theorem State.offPort_handBack (it : Item) : s.OffPort (s.handBack it) := .ite _ (s.offPort_freeBlock _ _) (.refl s)

theorem State.offPort_followUnit (n : Nat) : s.OffPort (s.followUnit n) := by
  unfold State.followUnit
  split
  · exact s.offPort_beginUnit n
  · exact s.offPort_beginUnit n
  · exact .ite _ (s.offPort_beginUnit n) (s.offPort_setStep _)

theorem State.offPort_returnShot (it : Item) (b : Bool) : s.OffPort (s.returnShot it b) :=
  .ite _ (s.offPort_enqueue _ _) (.refl s)

theorem State.offPort_countAttempt (it : Item) (b : Bool) : s.OffPort (s.countAttempt it b) := by
  have counted := s.offPort_modifyShot it.source.index fun x => x.mapTether fun t => { t with attempts := t.attempts + 1 }
  refine .ite _ (.ite _ ?_ (counted.trans (State.offPort_enqueue _ _ _))) (.refl s)
  exact (counted.trans (State.offPort_modifyShot _ _ _)).trans (State.offPort_raise _ _)

theorem State.offPort_answerCut (c : CutBy) : s.OffPort (s.answerCut c) := by
  cases c with
  | disable slot => exact s.offPort_complete _ _ _
  | clearBuffer slot freed => exact s.offPort_complete _ _ _
  | discard => exact .refl s
  | dropTether => exact .refl s

end Port

/-! ### Items begun and ended (R151 to R153, R162 to R165) -/

/-- R151, R153: a port with no item, and in no state that has one. -/
structure State.AtRest (s : State) : Prop where
  item : s.tport.item = none
  sending : s.tport.state ≠ .sending
  awaiting : s.tport.state ≠ .awaitVerdict

theorem State.AtRest.portLaw {s : State} (h : s.AtRest) : s.portLaw := by
  simp [State.portLaw, h.item, h.sending, h.awaiting]

theorem State.OffPort.noItem {s t : State} (h : s.OffPort t) (e : s.tport.item = none) : t.tport.item = none := by
  simpa [e] using h.item

theorem State.OffPort.atRest {s t : State} (h : s.OffPort t) (r : s.AtRest) : t.AtRest :=
  ⟨h.noItem r.item, h.portState ▸ r.sending, h.portState ▸ r.awaiting⟩

theorem State.atRest_setPort (s : State) (p : PortState) (h : s.tport.item = none) (hs : p ≠ .sending) (ha : p ≠ .awaitVerdict) :
    (s.setPort p).AtRest := ⟨h, hs, ha⟩

theorem State.atRest_portIdle (s : State) (h : s.tport.item = none) : s.portIdle.AtRest := by
  unfold State.portIdle
  split
  · exact s.atRest_setPort _ h (by decide) (by decide)
  · exact s.atRest_setPort _ h (by decide) (by decide)

/-- R151: the states of a port that has no item. -/
theorem State.noItem_of_portLaw {s : State} (law : s.portLaw) (hs : s.tport.state ≠ .sending) (ha : s.tport.state ≠ .awaitVerdict) :
    s.tport.item = none := by
  simpa [State.portLaw, hs, ha] using law

section Items

variable (s : State)

theorem State.keeps_setPort (p : PortState) : s.Keeps (s.setPort p) := s.keeps_tport _

theorem State.keeps_portIdle : s.Keeps s.portIdle := s.keeps_tport _

theorem State.keeps_endItem : s.Keeps s.endItem :=
  ((s.offPort_engine s.streamEnd.engine).trans (State.offPort_abandonRaw _)).toKeeps.trans (State.keeps_tport _ _)

@[simp] theorem State.endItem_item : s.endItem.tport.item = none := rfl

/-- A chain that keeps what every command keeps and ends with the port at rest. -/
theorem State.Keeps.sound_of_atRest {s t : State} (h : s.Keeps t) (r : t.AtRest) : s.Sound t := ⟨h, fun _ => r.portLaw⟩

/-- An item ends, the shot tables follow, and the port goes to a state without an item. -/
theorem State.endItem_then {t : State} (h : s.endItem.OffPort t) : s.Keeps t ∧ t.tport.item = none :=
  ⟨s.keeps_endItem.trans h.toKeeps, h.noItem rfl⟩

theorem State.sound_endCut (it : Item) (stalled : Bool) : s.Sound (s.endCut it stalled) := by
  obtain ⟨keeps, none⟩ := s.endItem_then (State.offPort_returnShot s.endItem it true)
  unfold State.endCut
  dsimp only
  generalize s.endItem.returnShot it true = s1 at keeps none
  have moved : s1.Keeps (if it.cut.any CutBy.isDisable then s1.setPort .disabled else if stalled then s1.setPort .halted else s1.portIdle) ∧
      (if it.cut.any CutBy.isDisable then s1.setPort .disabled else if stalled then s1.setPort .halted else s1.portIdle).AtRest := by
    split
    · exact ⟨s1.keeps_setPort _, s1.atRest_setPort _ none (by decide) (by decide)⟩
    · split
      · exact ⟨s1.keeps_setPort _, s1.atRest_setPort _ none (by decide) (by decide)⟩
      · exact ⟨s1.keeps_portIdle, s1.atRest_portIdle none⟩
  generalize (if it.cut.any CutBy.isDisable then s1.setPort .disabled else if stalled then s1.setPort .halted else s1.portIdle) = s2 at moved
  obtain ⟨keeps2, rest⟩ := moved
  have halted : s2.OffPort (if stalled then s2.raise .tetherHalted else s2) := .ite _ (s2.offPort_raise _) (.refl s2)
  have underrun := halted.trans (.ite ((it.underran && !stalled && !it.cut.any CutBy.isClear) = true)
    (State.offPort_raise _ .underrun) (.refl _))
  have answered := underrun.trans (State.OffPort.foldl State.offPort_answerCut it.cut _)
  exact ((keeps.trans keeps2).trans answered.toKeeps).sound_of_atRest (answered.atRest rest)

theorem State.sound_endUnderrun (it : Item) : s.Sound (s.endUnderrun it) := by
  obtain ⟨keeps, none⟩ := s.endItem_then ((State.offPort_countAttempt s.endItem it true).trans (State.offPort_raise _ .underrun))
  exact (keeps.trans (State.keeps_portIdle _)).sound_of_atRest (State.atRest_portIdle _ none)

/-- R163: the verdict window opens on an item. -/
theorem State.sound_openVerdict (n : Nat) (h : s.tport.item.isSome = true) : s.Sound (s.openVerdict n) := by
  refine ⟨((s.keeps_tport _).trans (State.keeps_setPort _ .awaitVerdict)).trans (State.offPort_setStep _ _).toKeeps, fun _ => ?_⟩
  have still : (s.openVerdict n).tport.item.isSome = true := Option.isSome_map.trans h
  exact iff_of_true still (.inr rfl)

theorem State.sound_endTrailer (it : Item) (n : Nat) (h : s.tport.item.isSome = true) : s.Sound (s.endTrailer it n) :=
  .ite _ (s.sound_endCut _ _) (.ite _ (s.sound_openVerdict n h) (s.sound_endUnderrun it))

theorem State.sound_endUnit (n : Nat) : s.Sound (s.endUnit n) := by
  unfold State.endUnit
  split
  · exact .refl s
  · rename_i it hit
    have low := s.offPort_tstb false
    refine .ite _ ?_ (.ite _ ?_ ?_)
    · exact (low.trans ((State.offPort_modifyItem _ _).trans (State.offPort_followUnit _ _))).sound
    · exact ((low.trans (State.offPort_modifyItem _ _)).sound).trans (State.sound_endTrailer _ _ _ (by simp [State.modifyItem, hit]))
    · exact (low.trans ((((State.offPort_handBack _ _).trans (State.offPort_modifyItem _ _)).trans (State.offPort_feedRaw _)).trans
        (State.offPort_followUnit _ _))).sound

theorem State.sound_takeItem (r : ShotRef) (x : Shot) (t : TetherPart) : s.Sound (s.takeItem r x t) := by
  have sent := (s.offPort_queue (s.queue.leave r)).trans (State.offPort_modifyShot _ r.index fun x => x.withTetherState .sending)
  unfold State.takeItem
  dsimp only
  generalize ({ s with queue := s.queue.leave r }).modifyShot r.index (fun x => x.withTetherState .sending) = s1 at sent
  have opened : s1.Sound (({ s1 with tport := { s1.tport with
      item := some (newItem r x t s.now), raw := Vector.replicate 2 .empty } }).setPort .sending) :=
    ⟨(s1.keeps_tport _).trans (State.keeps_setPort _ _), fun _ => iff_of_true rfl (.inl rfl)⟩
  refine (sent.sound.trans opened).trans (State.Sound.trans ?_ (State.offPort_beginUnit _ _).sound)
  split
  · exact (State.offPort_engine _ _).sound
  · exact (State.offPort_feedRaw _).sound

theorem State.sound_takeNext : s.Sound s.takeNext := by
  unfold State.takeNext
  refine .ite _ ?_ (.refl s)
  split
  · exact .refl s
  · split
    · split
      · exact s.sound_takeItem _ _ _
      · exact .refl s
    · exact .refl s

theorem State.sound_askCut (c : CutBy) : s.Sound (s.askCut c) := by
  unfold State.askCut
  split
  · exact .refl s
  · have asked := fun it : Item => s.offPort_modifyItem fun _ => it
    refine .ite _ ((asked _).sound.trans (State.sound_endCut _ _ _)) (.ite _ (asked _).sound ?_)
    exact (((asked _).trans (State.offPort_modifyItem _ _)).trans (.ite _ (State.offPort_beginUnit _ _) (.refl _))).sound

theorem State.sound_withdraw (r : ShotRef) (c : CutBy) : s.Sound (s.withdraw r c) := by
  have left := s.offPort_queue (s.queue.leave r)
  exact .ite _ ((left.trans (State.offPort_modifyItem _ _)).sound.trans (State.sound_askCut _ _)) left.sound

theorem State.sound_trdyAdvance : s.Sound s.trdyAdvance := by
  unfold State.trdyAdvance
  split
  · exact .refl s
  · split
    · exact .ite _ (s.offPort_beginUnit _).sound (.refl s)
    · exact .ite _ (.refl s) (s.sound_endUnit _)
    · exact .ite _ (s.offPort_beginUnit _).sound (.refl s)
    all_goals exact .refl s

theorem State.sound_settleOver (n : Nat) : s.Sound (s.settleOver n) := by
  have high := s.offPort_tstb true
  unfold State.settleOver
  dsimp only
  split
  · exact .ite _ (high.trans (State.offPort_setStep _ _)).sound (high.sound.trans (State.sound_endUnit _ _))
  all_goals exact (high.trans (State.offPort_setStep _ _)).sound

theorem State.sound_strobeOver (n : Nat) : s.Sound (s.strobeOver n) := by
  unfold State.strobeOver
  split
  · exact ((s.offPort_tstb false).trans (State.offPort_setStep _ _)).sound
  all_goals exact s.sound_endUnit n

theorem State.sound_stallPort (it : Item) : s.Sound (s.stallPort it) := by
  obtain ⟨keeps, none⟩ := s.endItem_then (State.offPort_returnShot s.endItem it true)
  have halted := State.offPort_raise ((s.endItem.returnShot it true).setPort .halted) .tetherHalted
  exact .ite _ (s.sound_endCut _ _) (((keeps.trans (State.keeps_setPort _ _)).trans halted.toKeeps).sound_of_atRest
    (halted.atRest (State.atRest_setPort _ _ none (by decide) (by decide))))

theorem State.sound_verdictLost (it : Item) : s.Sound (s.verdictLost it) := by
  obtain ⟨keeps, none⟩ := s.endItem_then (State.offPort_returnShot s.endItem it true)
  have halted := State.offPort_raise ((s.endItem.returnShot it true).setPort .halted) .tetherHalted
  exact ((keeps.trans (State.keeps_setPort _ _)).trans halted.toKeeps).sound_of_atRest
    (halted.atRest (State.atRest_setPort _ _ none (by decide) (by decide)))

theorem State.sound_acceptItem (it : Item) : s.Sound (s.acceptItem it) := by
  obtain ⟨keeps, none⟩ := s.endItem_then (((State.offPort_modifyShot s.endItem it.source.index fun x =>
    { x.withTetherState .sent with holds := { x.holds with tether := false } }).trans (State.offPort_freeingCheck _ it.source.index)).trans
      (State.offPort_raise _ .tetherSent))
  exact (keeps.trans (State.keeps_portIdle _)).sound_of_atRest (State.atRest_portIdle _ none)

theorem State.sound_refuseItem (it : Item) : s.Sound (s.refuseItem it) := by
  obtain ⟨keeps, none⟩ := s.endItem_then (State.offPort_countAttempt s.endItem it false)
  exact (keeps.trans (State.keeps_portIdle _)).sound_of_atRest (State.atRest_portIdle _ none)

/-- R151: a port without an item goes to a state that has none. -/
theorem State.sound_portIdle (hs : s.tport.state ≠ .sending) (ha : s.tport.state ≠ .awaitVerdict) : s.Sound s.portIdle :=
  ⟨s.keeps_portIdle, fun law => (s.atRest_portIdle (State.noItem_of_portLaw law hs ha)).portLaw⟩

theorem State.sound_disable (hs : s.tport.state ≠ .sending) (ha : s.tport.state ≠ .awaitVerdict) : s.Sound (s.setPort .disabled) :=
  ⟨s.keeps_setPort _, fun law =>
    (s.atRest_setPort _ (State.noItem_of_portLaw law hs ha) (by decide) (by decide)).portLaw⟩

/-- What follows an event by itself keeps every law. -/
theorem State.sound_settle (old : State) : s.Sound (s.settle old) :=
  ((((s.offPort_focus _).trans (State.offPort_updateRelease _ old)).sound.trans (State.sound_takeNext _)).trans
    (State.offPort_engineActs 128 _).sound).trans (State.offPort_resumeUnit _).sound

theorem State.sound_event (f : State → State) (h : s.Sound (f s)) : s.Sound (s.event f) :=
  (h.trans (State.sound_settle _ s)).trans (State.offPort_finishEvent _ s).sound

theorem State.sound_quietEvent (f : State → State) (h : s.Sound (f s)) : s.Sound (s.quietEvent f) :=
  h.trans (State.offPort_finishEvent _ s).sound

end Items

end Sys2Proof.Machine
end

section
/-! SUPPORT. What the requests and the commands keep, and the statements that rest on nothing else. -/

namespace Sys2Proof.Machine

/-- An operation that keeps the laws, the tables and the DRAM, whatever it does to the causes and the mask. -/
structure State.Orderly (s t : State) : Prop where
  pending : t.pending = s.pending
  tables : t.tables = s.tables
  mem : t.mem = s.mem
  turn : t.turn = s.turn
  credit : s.creditLaw → t.creditLaw
  pages : s.pageLaw → t.pageLaw
  numbers : s.numberLaw → t.numberLaw
  port : s.portLaw → t.portLaw

/-- An operation that keeps the queue of commands and every law. -/
structure State.Lawful (s t : State) : Prop where
  pending : t.pending = s.pending
  memory : s.memoryLaw → t.memoryLaw
  credit : s.creditLaw → t.creditLaw
  pages : s.pageLaw → t.pageLaw
  numbers : s.numberLaw → t.numberLaw
  port : s.portLaw → t.portLaw

/-- A lawful operation that leaves the arbiter's count and cycle alone. -/
structure State.OffTurn (s t : State) : Prop extends s.Lawful t where
  turn : t.turn = s.turn

theorem State.Sound.orderly {s t : State} (h : s.Sound t) : s.Orderly t :=
  ⟨h.pending, h.tables, h.mem, h.turn, h.credit, h.pages, h.numbers, h.port⟩

theorem State.Orderly.offTurn {s t : State} (h : s.Orderly t) : s.OffTurn t :=
  ⟨⟨h.pending, fun law => by rw [State.memoryLaw, h.mem]; exact law, h.credit, h.pages, h.numbers, h.port⟩, h.turn⟩

theorem State.Orderly.lawful {s t : State} (h : s.Orderly t) : s.Lawful t := h.offTurn.toLawful

theorem State.Orderly.trans {s t u : State} (h : s.Orderly t) (k : t.Orderly u) : s.Orderly u :=
  ⟨k.pending.trans h.pending, k.tables.trans h.tables, k.mem.trans h.mem, k.turn.trans h.turn, k.credit ∘ h.credit, k.pages ∘ h.pages,
    k.numbers ∘ h.numbers, k.port ∘ h.port⟩

theorem State.Lawful.refl (s : State) : s.Lawful s := ⟨rfl, id, id, id, id, id⟩

theorem State.Lawful.trans {s t u : State} (h : s.Lawful t) (k : t.Lawful u) : s.Lawful u :=
  ⟨k.pending.trans h.pending, k.memory ∘ h.memory, k.credit ∘ h.credit, k.pages ∘ h.pages, k.numbers ∘ h.numbers, k.port ∘ h.port⟩

theorem State.OffPort.lawful {s t : State} (h : s.OffPort t) : s.Lawful t := h.sound.orderly.lawful

theorem State.Sound.lawful {s t : State} (h : s.Sound t) : s.Lawful t := h.orderly.lawful

theorem State.Lawful.ite {s t u : State} (p : Prop) [Decidable p] (ht : s.Lawful t) (hu : s.Lawful u) :
    s.Lawful (if p then t else u) := by
  split
  · exact ht
  · exact hu

theorem State.Lawful.foldl {α : Type} {f : State → α → State} (hf : ∀ (s : State) (a : α), s.Lawful (f s a)) (l : List α) (s : State) :
    s.Lawful (l.foldl f s) := by
  induction l generalizing s with
  | nil => exact .refl s
  | cons a l ih => exact (hf s a).trans (ih _)

theorem State.OffPort.offTurn {s t : State} (h : s.OffPort t) : s.OffTurn t := h.sound.orderly.offTurn

theorem State.Sound.offTurn {s t : State} (h : s.Sound t) : s.OffTurn t := h.orderly.offTurn

theorem State.OffTurn.refl (s : State) : s.OffTurn s := ⟨.refl s, rfl⟩

theorem State.OffTurn.trans {s t u : State} (h : s.OffTurn t) (k : t.OffTurn u) : s.OffTurn u :=
  ⟨h.toLawful.trans k.toLawful, k.turn.trans h.turn⟩

theorem State.OffTurn.ite {s t u : State} (p : Prop) [Decidable p] (ht : s.OffTurn t) (hu : s.OffTurn u) :
    s.OffTurn (if p then t else u) := by
  split
  · exact ht
  · exact hu

theorem State.OffTurn.foldl {α : Type} {f : State → α → State} (hf : ∀ (s : State) (a : α), s.OffTurn (f s a)) (l : List α)
    (s : State) : s.OffTurn (l.foldl f s) := by
  induction l generalizing s with
  | nil => exact .refl s
  | cons a l ih => exact (hf s a).trans (ih _)

theorem State.offTurn_tables (s : State) (x : Tables) : s.OffTurn { s with tables := x } := ⟨⟨rfl, id, id, id, id, id⟩, rfl⟩

theorem State.offTurn_mem (s : State) (m : Memory) (h : s.mem.wf = true → m.wf = true) : s.OffTurn { s with mem := m } :=
  ⟨⟨rfl, h, id, id, id, id⟩, rfl⟩

/-! ### Requests (R17 to R20, R46, R47, R55, R62, R96, R112, R118, R164 to R175, R190) -/

section Requests

variable (s : State) (slot : Fin 8)

theorem State.sound_refuse (code : ResultCode) : s.Sound (s.refuse slot code) := (s.offPort_complete _ _ _).sound

theorem State.OffPort.answered {t : State} {s : State} (h : s.OffPort t) (slot : Fin 8) (code : ResultCode) (beat : Beat) (old : State) :
    s.Sound ((t.complete slot code beat).settle old) :=
  (h.trans (State.offPort_complete _ _ _ _)).sound.trans (State.sound_settle _ _)

theorem State.Sound.answered {t : State} {s : State} (h : s.Sound t) (slot : Fin 8) (code : ResultCode) (beat : Beat) (old : State) :
    s.Sound ((t.complete slot code beat).settle old) :=
  (h.trans (State.offPort_complete _ _ _ _).sound).trans (State.sound_settle _ _)

/-- R4: the pages of a new pool stand on its free list, once each. -/
theorem newPool_pageLaw (s : State) (f l lp : Nat) (hp : s.pool = newPool f l lp) (hr : ∀ i, s.record i = none) : s.pageLaw := by
  have noPages : s.recordPages = [] := List.flatMap_eq_nil_iff.mpr fun i _ => by rw [hr i]; rfl
  rw [State.pageLaw, hp, noPages, List.append_nil]
  exact List.Perm.refl _

theorem State.sound_reqConfigurePool (f l lp : Nat) : s.Sound (s.reqConfigurePool slot f l lp) := by
  unfold State.reqConfigurePool
  split
  · exact s.sound_refuse _ _
  · rename_i idle
    have noRecords : ∀ i, s.record i = none := fun i => by
      simp only [State.poolBusy_iff, not_or, not_exists, Bool.not_eq_true, Option.isSome_eq_false_iff, Option.isNone_iff_eq_none] at idle
      exact idle.1 i
    refine .ite _ (s.sound_refuse _ _) (.answered ?_ _ _ _ _)
    have emptied : s.OffPort ({ s with
        pool := newPool f l lp, windows := { s.windows with designation := none, liveGeom := none } } : State) :=
      ⟨⟨rfl, rfl, rfl, rfl, rfl, fun _ h => h, id, fun _ => newPool_pageLaw _ f l lp rfl noRecords, id⟩, rfl, rfl⟩
    exact (emptied.trans (State.offPort_dropLive _ _)).sound

theorem State.sound_reqLoadSettings (table index : Nat) : s.Sound (s.reqLoadSettings slot table index) := by
  unfold State.reqLoadSettings
  split
  · exact s.sound_refuse _ _
  · exact .ite _ (s.sound_refuse _ _) (s.offPort_port _).sound

theorem State.sound_reqSelectCapture (c : Nat) : s.Sound (s.reqSelectCapture slot c) := by
  unfold State.reqSelectCapture
  split
  · exact s.sound_refuse _ _
  · exact ((s.offPort_release _).trans (.ite _ (State.offPort_depthCheck _) (.refl _))).answered _ _ _ _

theorem State.sound_reqFire (n : Nat) : s.Sound (s.reqFire slot n) :=
  .ite _ (s.sound_refuse _ _) (.ite _ (s.sound_refuse _ _) ((s.offPort_release _).answered _ _ _ _))

theorem State.sound_reqSetFocus (mode sel zone policy : Nat) : s.Sound (s.reqSetFocus slot mode sel zone policy) := by
  unfold State.reqSetFocus
  split
  · split
    · refine .ite _ (.answered ?_ _ _ _ _) (s.sound_refuse _ _)
      exact .ite _ (s.offPort_focus _).sound ((s.offPort_focus _).trans (State.offPort_focus _ _)).sound
    · exact s.sound_refuse _ _
  · exact s.sound_refuse _ _

theorem State.offPort_firstHoming (old : State) (g : Group) : s.OffPort (s.firstHoming old g) :=
  .ite _ (.refl s) (s.offPort_homingStep _ _)

theorem State.sound_reqHomeLens : s.Sound (s.reqHomeLens slot) := by
  refine .ite _ (s.sound_refuse _ _) (.ite _ (s.sound_refuse _ _) (.ite _ (s.sound_refuse _ _) ?_))
  have started := ((s.offPort_lens _).trans (State.offPort_focus _ _)).sound.trans (State.sound_settle (s.startHoming slot) s)
  exact (started.trans (((State.offPort_firstHoming _ s .g0).trans (State.offPort_firstHoming _ s .g1)).trans
    (State.offPort_homingEnd _)).sound).trans (State.sound_settle _ _)

theorem State.sound_reqMoveLens (target : Nat) : s.Sound (s.reqMoveLens slot target) := by
  unfold State.reqMoveLens
  refine .ite _ (s.sound_refuse _ _) ?_
  split
  · exact s.sound_refuse _ _
  · refine .ite _ (s.sound_refuse _ _) (.ite _ (s.sound_refuse _ _) (.answered ?_ _ _ _ _))
    exact ((s.offPort_handTargets _).trans (State.offPort_focus _ _)).sound

theorem State.offPort_setView (v : Fin 4) (x : Option View) : s.OffPort (s.setView v x) := s.offPort_windows _

theorem State.sound_reqMapView (view source shot mode profile stream : Nat) :
    s.Sound (s.reqMapView slot view source shot mode profile stream) := by
  refine .ite _ (s.sound_refuse _ _) (.ite _ (s.sound_refuse _ _) (.ite _ ?_ ?_))
  · unfold State.mapShot
    split
    · exact s.sound_refuse _ _
    · split
      · exact s.sound_refuse _ _
      · refine .ite _ (State.OffPort.sound ?_) (s.sound_refuse _ _)
        exact ((s.offPort_setView _ _).trans (State.offPort_modifyShot _ _ fun x => { x with views := x.views + 1 })).trans
          (State.offPort_complete _ _ _ _)
  · exact ((s.offPort_setView _ _).trans (State.offPort_complete _ _ _ _)).sound

theorem State.sound_reqUnmapView (view : Nat) : s.Sound (s.reqUnmapView slot view) := by
  unfold State.reqUnmapView
  refine .ite _ (s.sound_refuse _ _) ?_
  dsimp only
  split
  · exact s.sound_refuse _ _
  · split
    · exact ((s.offPort_setView _ _).trans (State.offPort_complete _ _ _ _)).sound
    · refine State.OffPort.answered ?_ _ _ _ _
      exact ((s.offPort_setView _ _).trans (State.offPort_modifyShot _ _ fun x => { x with views := x.views - 1 })).trans
        (State.offPort_freeingCheck _ _)

theorem State.offPort_holdDone (code : ResultCode) (r : ShotRef) : s.OffPort (s.holdDone slot code r) := s.offPort_complete _ _ _

theorem State.offPort_queueDone (code : ResultCode) (r : ShotRef) : s.OffPort (s.queueDone slot code r) := s.offPort_complete _ _ _

theorem State.sound_reqReleaseCard (n : Nat) : s.Sound (s.reqReleaseCard slot n) := by
  unfold State.reqReleaseCard
  split
  · exact s.sound_refuse _ _
  · refine .ite _ (State.OffPort.answered ?_ _ _ _ _) (s.offPort_holdDone _ _ _).sound
    exact (s.offPort_modifyShot _ fun x => { x with holds := { x.holds with card := false } }).trans (State.offPort_freeingCheck _ _)

theorem State.sound_reqProtect (n : Nat) : s.Sound (s.reqProtect slot n) := by
  unfold State.reqProtect
  split
  · exact s.sound_refuse _ _
  · refine .ite _ (State.OffPort.sound ?_) (s.offPort_holdDone _ _ _).sound
    exact (s.offPort_modifyShot _ fun x => { x with holds := { x.holds with protect := true } }).trans (State.offPort_holdDone _ _ _ _)

theorem State.sound_reqUnprotect (n : Nat) : s.Sound (s.reqUnprotect slot n) := by
  unfold State.reqUnprotect
  split
  · exact s.sound_refuse _ _
  · refine .ite _ (.ite _ (State.OffPort.answered ?_ _ _ _ _) (s.offPort_holdDone _ _ _).sound) (s.offPort_holdDone _ _ _).sound
    exact (s.offPort_modifyShot _ fun x => { x with holds := { x.holds with protect := false } }).trans (State.offPort_freeingCheck _ _)

theorem State.offPort_leaveBuffer (i : Fin 48) (x : Shot) : s.OffPort (s.leaveBuffer i x) :=
  .ite _ (s.offPort_freeShot i) (s.offPort_modifyShot i fun x => { x with state := .discarded, holds := Holds.empty })

theorem State.sound_discardShot (r : ShotRef) (x : Shot) : s.Sound (s.discardShot r x) := by
  unfold State.discardShot
  split
  · exact (s.offPort_modifyShot _ fun x => { x with lapsed := true }).sound
  · exact ((s.offPort_preList _).trans (State.offPort_leaveBuffer _ _ _)).sound
  · exact (s.sound_withdraw _ _).trans (State.offPort_leaveBuffer _ _ _).sound
  · exact .refl s

theorem State.sound_reqDiscard (n : Nat) : s.Sound (s.reqDiscard slot n) := by
  unfold State.reqDiscard
  split
  · exact s.sound_refuse _ _
  · exact (s.sound_discardShot _ _).answered _ _ _ _

theorem State.offPort_makeUrgent (i : Fin 48) : s.OffPort (s.makeUrgent i) := s.offPort_modifyShot i _

theorem State.offPort_prioritiseShot (r : ShotRef) (x : Shot) (t : TetherPart) : s.OffPort (s.prioritiseShot r x t) := by
  unfold State.prioritiseShot
  refine .ite _ ?_ (.refl s)
  split
  · exact ((s.offPort_queue _).trans (State.offPort_makeUrgent _ _)).trans (State.offPort_mark _ _)
  · exact s.offPort_makeUrgent _
  · exact s.offPort_makeUrgent _
  · exact .refl s

theorem State.sound_reqPrioritise (n : Nat) : s.Sound (s.reqPrioritise slot n) := by
  unfold State.reqPrioritise
  split
  · exact s.sound_refuse _ _
  · split
    · exact ((s.offPort_prioritiseShot _ _ _).trans (State.offPort_queueDone _ _ _ _)).sound
    · exact (s.offPort_queueDone _ _ _).sound

theorem State.sound_reqRequeue (n : Nat) : s.Sound (s.reqRequeue slot n) := by
  unfold State.reqRequeue
  split
  · exact s.sound_refuse _ _
  · refine .ite _ (State.OffPort.answered ?_ _ _ _ _) (s.offPort_queueDone _ _ _).sound
    exact (s.offPort_modifyShot _ fun x => x.mapTether fun t => { t with attempts := 0 }).trans (State.offPort_enqueue _ _ _)

theorem State.sound_dropTether (r : ShotRef) : s.Sound (s.dropTether r) :=
  (s.sound_withdraw r .dropTether).trans ((State.offPort_modifyShot _ r.index fun x =>
    { x with holds := { x.holds with tether := false }, tether := none }).trans (State.offPort_freeingCheck _ _)).sound

theorem State.sound_reqDropTether (n : Nat) : s.Sound (s.reqDropTether slot n) := by
  unfold State.reqDropTether
  split
  · exact s.sound_refuse _ _
  · exact .ite _ ((s.sound_dropTether _).answered _ _ _ _) (s.offPort_queueDone _ _ _).sound

theorem State.offPort_portDone (code : ResultCode) : s.OffPort (s.portDone slot code) := s.offPort_complete _ _ _

theorem State.sound_reqEnable : s.Sound (s.reqEnable slot) := by
  unfold State.reqEnable
  split
  · rename_i h
    exact (s.sound_portIdle (by simp [h]) (by simp [h])).answered _ _ _ _
  · exact (s.offPort_portDone _ _).sound

theorem State.sound_reqResume : s.Sound (s.reqResume slot) := by
  unfold State.reqResume
  split
  · rename_i h
    exact (s.sound_portIdle (by simp [h]) (by simp [h])).answered _ _ _ _
  · exact (s.offPort_portDone _ _).sound

theorem State.sound_reqDisable : s.Sound (s.reqDisable slot) := by
  have cut := (s.sound_askCut (.disable slot)).trans (State.sound_settle _ s)
  unfold State.reqDisable
  split
  case h_5 => exact cut
  case h_6 => exact cut
  all_goals
    rename_i h
    exact (s.sound_disable (by simp [h]) (by simp [h])).trans (State.offPort_portDone _ _ _).sound

theorem State.sound_reqTetherControl (action : Nat) : s.Sound (s.reqTetherControl slot action) := by
  unfold State.reqTetherControl
  split
  · exact s.sound_reqEnable slot
  · exact s.sound_reqDisable slot
  · exact s.sound_reqResume slot
  · exact (s.offPort_portDone _ _).sound

/-- R28 step 1: views unmapped take no page and no number. -/
theorem State.offPort_clearViews : s.OffPort s.clearViews := by
  have records : ∀ i, s.clearViews.record i = (s.record i).map fun x => { x with views := 0 } := fun i =>
    Vector.getElem_map _ _
  refine ⟨⟨rfl, rfl, rfl, rfl, rfl, fun _ h => h, id, fun law => ?_, State.numberLaw_of_sublist (fun i => .inr ?_) rfl⟩, rfl, rfl⟩
  · have bag : s.clearViews.pageBag = s.pageBag := State.pageBag_congr rfl fun i => by
      rw [records i]
      cases s.record i <;> rfl
    rw [State.pageLaw_iff] at law ⊢
    rw [bag]
    exact law
  · rw [records i]
    cases s.record i <;> rfl

theorem State.offPort_clearAll : s.OffPort s.clearAll := by
  have emptied : s.OffPort s.clearQueue := (s.offPort_modifyItem _).trans (State.offPort_queue _ _)
  have stopped := (emptied.trans (State.offPort_clearViews _)).trans (((State.offPort_phase _ s.clearQueue.clearViews.closePhase.phase).trans
    (State.offPort_intake _ { s.clearQueue.clearViews.closePhase.intake with frame := none })).trans (State.offPort_reservation _ 0))
  have released := stopped.trans (State.offPort_release _ s.clearQueue.clearViews.clearFrame.clearRelease.release)
  have idle : s.clearQueue.clearViews.clearFrame.clearRelease.OffPort s.clearQueue.clearViews.clearFrame.clearRelease.clearEngine :=
    ((State.offPort_engine _ _).trans (State.offPort_endRun _)).trans (State.offPort_engine _ _)
  exact (released.trans idle).trans ((State.OffPort.foldl State.offPort_freeShot _ _).trans (State.offPort_preList _ _))

theorem State.sound_reqClearBuffer : s.Sound (s.reqClearBuffer slot) := by
  have cleared := s.offPort_clearAll
  unfold State.reqClearBuffer
  dsimp only
  split
  · exact cleared.answered _ _ _ _
  · exact (cleared.sound.trans (State.sound_askCut _ _)).trans (State.sound_settle _ s)

theorem State.orderly_reqClearCauses (v : Nat) : s.Orderly (s.reqClearCauses slot v) := by
  unfold State.reqClearCauses
  split
  · exact (s.sound_refuse _ _).orderly
  · have cleared : s.Orderly (s.clearCauseSet (BitVec.ofNat 20 v)) := ⟨rfl, rfl, rfl, rfl, id, id, id, id⟩
    exact cleared.trans (State.offPort_complete _ _ _ _).sound.orderly

theorem State.orderly_reqSetMask (v : Nat) : s.Orderly (s.reqSetMask slot v) := by
  unfold State.reqSetMask
  split
  · exact (s.sound_refuse _ _).orderly
  · have masked : s.Orderly (s.replaceMask (BitVec.ofNat 20 v)) := ⟨rfl, rfl, rfl, rfl, id, id, id, id⟩
    exact masked.trans (State.offPort_complete _ _ _ _).sound.orderly

/-- Every request but CLEAR_CAUSES and SET_MASK. -/
theorem State.sound_perform (kind : Byte) (a : Vector Beat 6) (h19 : kind.toNat ≠ 19) (h20 : kind.toNat ≠ 20) :
    s.Sound (s.perform slot kind a) := by
  unfold State.perform
  split
  case h_1 => exact s.sound_reqConfigurePool _ _ _ _
  case h_2 => exact s.sound_reqLoadSettings _ _ _
  case h_3 => exact s.sound_reqSelectCapture _ _
  case h_4 => exact s.sound_reqSetFocus _ _ _ _ _
  case h_5 => exact s.sound_reqHomeLens _
  case h_6 => exact s.sound_reqMoveLens _ _
  case h_7 => exact s.sound_reqFire _ _
  case h_8 => exact s.sound_reqMapView _ _ _ _ _ _ _
  case h_9 => exact s.sound_reqUnmapView _ _
  case h_10 => exact s.sound_reqReleaseCard _ _
  case h_11 => exact s.sound_reqProtect _ _
  case h_12 => exact s.sound_reqUnprotect _ _
  case h_13 => exact s.sound_reqDiscard _ _
  case h_14 => exact s.sound_reqPrioritise _ _
  case h_15 => exact s.sound_reqRequeue _ _
  case h_16 => exact s.sound_reqDropTether _ _
  case h_17 => exact s.sound_reqTetherControl _ _
  case h_18 => exact s.sound_reqClearBuffer _
  case h_19 => contradiction
  case h_20 => contradiction
  case h_21 => exact s.sound_refuse _ _

theorem State.orderly_perform (kind : Byte) (a : Vector Beat 6) : s.Orderly (s.perform slot kind a) := by
  by_cases h19 : kind.toNat = 19
  · have e : s.perform slot kind a = s.reqClearCauses slot (arg a 0) := by simp only [State.perform, h19]
    exact e ▸ s.orderly_reqClearCauses _ _
  · by_cases h20 : kind.toNat = 20
    · have e : s.perform slot kind a = s.reqSetMask slot (arg a 0) := by simp only [State.perform, h20]
      exact e ▸ s.orderly_reqSetMask _ _
    · exact (s.sound_perform slot kind a h19 h20).orderly

theorem State.offPort_take : s.OffPort (s.take slot) := (s.offPort_setSlot _ _).trans (State.offPort_mark _ _)

theorem State.orderly_post : s.Orderly (s.post slot) := by
  unfold State.post
  split
  · exact (s.offPort_raise _).sound.orderly
  · exact (s.offPort_take slot).sound.orderly.trans (State.orderly_perform _ _ _ _)

theorem State.orderly_command (kind : Byte) (tag : Word32) (args : List Beat) : s.Orderly (s.command slot kind tag args) :=
  ((s.offPort_setSlot _ _).sound.orderly.trans (State.orderly_post _ _)).trans (State.offPort_finishEvent _ _).sound.orderly

theorem State.sound_command (kind : Byte) (tag : Word32) (args : List Beat) (h19 : kind.toNat ≠ 19) (h20 : kind.toNat ≠ 20) :
    s.Sound (s.command slot kind tag args) := by
  refine State.Sound.trans (t := s.request slot kind tag args) ?_ (State.offPort_finishEvent _ _).sound
  by_cases hc : s.canPost slot
  · rw [s.request_of_canPost slot kind tag args hc]
    have begun : s.OffPort (s.begun slot kind tag args) := (s.offPort_setSlot _ _).trans (State.offPort_mark _ _)
    exact begun.sound.trans (State.sound_perform _ _ _ _ h19 h20)
  · rw [s.request_of_taken slot kind tag args hc]
    exact ((s.offPort_setSlot _ _).trans (State.offPort_raise _ _)).sound

end Requests

end Sys2Proof.Machine
end

section
/-! SUPPORT. What every command keeps: the requests, the events of the units, and the grants of the memory port. -/

namespace Sys2Proof.Machine

/-- R181: a request command is the post of its kind, tag and arguments in its slot. -/
theorem exec_posted (c : Instr) (s : State) (slot : Fin 8) (kind : Byte) (tag : Word32) (args : List Beat)
    (h : posted c = some (slot, kind, tag, args)) : exec c s = .next (s.command slot kind tag args) := by
  cases c <;> cases h <;> rfl

/-- R33: the link takes a transfer: a credit is spent and the store holds one transfer more (R31). -/
theorem State.sound_joinOrdinary (s : State) (t : Transfer) (h : s.link.credits ≠ 0) : s.Sound ((s.spendCredit).joinOrdinary t) := by
  refine (s.offPort_link ((s.spendCredit).joinOrdinary t).link rfl ?_).sound
  simp only [State.spendCredit, State.joinOrdinary, State.setOrdinary, State.stored, List.length_append, List.length_singleton]
  omega

theorem State.sound_joinDevelop (s : State) (r : LaneRead) (h : s.link.credits ≠ 0) : s.Sound ((s.spendCredit).joinDevelop r) := by
  refine (s.offPort_link ((s.spendCredit).joinDevelop r).link rfl ?_).sound
  simp only [State.spendCredit, State.joinDevelop, State.stored, List.length_append, List.length_singleton]
  omega

/-! ### The ordinary lane (R31, R34, R36) -/

theorem flushReads_length (l : List LaneEntry) : (flushReads l).1.length + (flushReads l).2.length = l.length := by
  induction l with
  | nil => rfl
  | cons e es ih =>
    unfold flushReads
    split <;> simp only [List.length_cons, List.length_nil] <;> omega

section Lane

variable (s : State)

theorem State.sound_flush : s.Sound s.flush := by
  refine (s.offPort_link s.flush.link rfl ?_).sound
  have := flushReads_length s.link.ordinary
  simp only [State.flush, State.stored]
  omega

theorem State.sound_setService (k : Nat) (x : Service) : s.Sound (s.setOrdinary (setService s.link.ordinary k x)) :=
  (s.offPort_link (s.setOrdinary (setService s.link.ordinary k x)).link rfl (by simp [State.setOrdinary, State.stored, setService])).sound

/-- R31: an entry of the store leaves it, and its credit returns. -/
theorem State.sound_leaveStore (k : Nat) (h : k < s.link.ordinary.length) : s.Sound (s.leaveStore k) := by
  refine (s.offPort_link (s.leaveStore k).link rfl ?_).sound
  simp only [State.leaveStore, State.returnCredit, State.setOrdinary, State.stored, List.length_eraseIdx_of_lt h]
  omega

theorem State.sound_captureWrite (o : Nat) : s.Sound (s.captureWrite o).1 := by
  unfold State.captureWrite
  split
  · exact (s.offPort_raise _).sound
  · split
    · split
      · exact .refl s
      · exact ((s.offPort_intake _).trans (State.offPort_raise _ _)).sound
    · split
      · exact (s.offPort_assignPages _ _).sound
      · exact .refl s

theorem State.sound_writeTarget (a : Nat) : s.Sound (s.writeTarget a).1 := by
  unfold State.writeTarget
  split
  · exact .refl s
  · exact s.sound_captureWrite _
  · split
    · exact .refl s
    · exact (s.offPort_raise _).sound
  · exact (s.offPort_raise _).sound

theorem State.sound_readTarget (a : Nat) : s.Sound (s.readTarget a).1 := by
  unfold State.readTarget
  split
  · exact .refl s
  · exact .refl s
  · exact .refl s
  · exact (s.offPort_raise _).sound

theorem State.sound_lookUp (t : Transfer) : s.Sound (s.lookUp t).1 := by
  unfold State.lookUp
  split
  · exact (s.offPort_raise _).sound
  · split
    · exact s.sound_writeTarget _
    · exact s.sound_readTarget _

/-- A look-up leaves the lanes alone. -/
theorem State.lookUp_link (t : Transfer) : (s.lookUp t).1.link = s.link := by
  have assigned : ∀ i k, (s.assignPages i k).link = s.link := fun i k => by
    unfold State.assignPages
    split <;> rfl
  have capture : ∀ o, (s.captureWrite o).1.link = s.link := fun o => by
    unfold State.captureWrite
    split
    · rfl
    · split
      · split <;> rfl
      · split
        · exact assigned _ _
        · rfl
  unfold State.lookUp
  split
  · rfl
  · split
    · unfold State.writeTarget
      split
      · rfl
      · exact capture _
      · split <;> rfl
      · rfl
    · unfold State.readTarget
      split <;> rfl

theorem State.sound_outcome (k : Nat) (t : Transfer) (x : Option Target) (h : k < s.link.ordinary.length) :
    s.Sound (s.outcome k t x) := by
  unfold State.outcome
  split
  · exact s.sound_setService _ _
  · exact .ite _ (s.sound_leaveStore k h) ((s.sound_setService _ _).trans (State.sound_flush _))

theorem State.sound_serve : s.Sound s.serve := by
  unfold State.serve
  split
  · exact .refl s
  · split
    · exact .refl s
    · rename_i e he
      refine (s.sound_lookUp _).trans (State.sound_outcome _ _ _ _ ?_)
      rw [s.lookUp_link]
      exact (List.getElem?_eq_some_iff.mp he).1

end Lane

/-! ### Loads (R53, R54, R57, R193) -/

section Loads

variable (s : State)

theorem State.offTurn_settle (old : State) : s.OffTurn (s.settle old) := (s.sound_settle old).offTurn

theorem State.offTurn_countAndSettle (l : Line) : s.OffTurn (s.countAndSettle l) :=
  (s.offPort_countChange l).offTurn.trans (State.offTurn_settle _ _)

theorem State.offTurn_recheckLine (l : Line) : s.OffTurn (s.recheckLine l) :=
  .ite _ ((s.offPort_readLine l).offTurn.trans (State.offTurn_countAndSettle _ l)) (s.offPort_readLine l).offTurn

theorem State.offTurn_reperiod (old new : Nat) : s.OffTurn (s.reperiod old new) := by
  unfold State.reperiod
  split
  · exact .refl s
  · exact .ite _ ((s.offPort_release _).trans (State.offPort_liveFallsDue _ _)).offTurn (s.offPort_release _).offTurn

theorem State.offTurn_loadTiming (t : Timing) : s.OffTurn (s.loadTiming t) := by
  have loaded : s.OffTurn { s with
      tables := { s.tables with timing := t }, time := s.time.redivide s.tables.timing.tickDivider t.tickDivider } :=
    ⟨⟨rfl, id, id, id, id, id⟩, rfl⟩
  have pressed := (loaded.trans (State.offTurn_reperiod _ s.tables.timing.livePeriod t.livePeriod)).trans
    (State.offPort_pressEvents _ s).offTurn
  exact ((((pressed.trans (State.offTurn_settle _ s)).trans (State.offTurn_recheckLine _ .s1)).trans
    (State.offTurn_recheckLine _ .s2)).trans (State.offTurn_recheckLine _ .remote)).trans (State.offTurn_recheckLine _ .lready)

theorem State.offTurn_replaceTable (b : List Byte) (r : TableRef) : s.OffTurn (s.replaceTable b r) := by
  cases r with
  | capture i => exact (s.offTurn_tables _).trans (.ite _ (State.offPort_depthCheck _).offTurn (.refl _))
  | timing => exact s.offTurn_loadTiming _
  | live | develop _ | zones | lens | tether => exact s.offTurn_tables _

theorem State.offTurn_endLoad (q : SettingsRequest) : s.OffTurn (s.endLoad q) := by
  unfold State.endLoad
  refine .ite _ (s.offPort_complete _ _ _).offTurn ?_
  split
  · exact (s.offPort_complete _ _ _).offTurn
  · have loaded := (s.offTurn_replaceTable (s.mem.readBytes q.table.base q.table.size) q.table).trans
      (State.offPort_complete _ q.slot .done (loadResults q.table (s.req.slots[q.slot].loadIndex)
        (s.mem.readBytes q.table.base q.table.size))).offTurn
    exact .ite _ loaded (loaded.trans (State.offTurn_settle _ _))

end Loads

/-! ### Grants (R38, R43, R49, R72, R141, R156) -/

section Grants

variable (s : State)

theorem State.offTurn_postIn (slot : Fin 8) : s.OffTurn (s.postIn slot) :=
  (s.orderly_post slot).offTurn.trans ((s.post slot).offPort_req ((s.post slot).markMirrors s).req rfl fun _ h => h).offTurn

theorem State.offTurn_handOver (off : Nat) (bytes : List (Option Byte)) : s.OffTurn (s.handOver off bytes) :=
  (s.offPort_req (s.copyBytes off bytes).req rfl fun _ h => h).offTurn.trans
    (State.OffTurn.foldl (fun u i => .ite _ (u.offTurn_postIn i) (.refl u)) _ (s.copyBytes off bytes))

theorem State.sound_captureNotice (serial : Word32) (o : Nat) (bytes : List (Option Byte)) :
    s.Sound (s.captureNotice serial o bytes) := by
  unfold State.captureNotice
  split
  · exact .refl s
  · have noticed : ∀ f : Frame, s.Sound { s with intake := { s.intake with frame := some f }, phase := s.phase.notice o bytes } :=
      fun f => ((s.offPort_intake { s.intake with frame := some f }).trans (State.offPort_phase _ _)).sound
    exact .ite _ (.ite _ (((noticed _).trans (State.offPort_completeFrame _ _).sound).trans (State.sound_settle _ s)) (noticed _)) (.refl s)

theorem State.offTurn_tell (off : Nat) (bytes : List (Option Byte)) (n : Notice) : s.OffTurn (s.tell off bytes n) := by
  cases n with
  | none => exact .refl s
  | slots => exact .ite _ (s.offTurn_handOver _ _) (.refl s)
  | capture serial o => exact (s.sound_captureNotice _ _ _).offTurn
  | rawView i n => exact (s.offPort_engine _).offTurn.trans (State.offTurn_settle _ s)

theorem State.offTurn_performPassage (k : Nat) (e : LaneEntry) (h : k < s.link.ordinary.length) : s.OffTurn (s.performPassage k e) := by
  unfold State.performPassage
  split
  · rename_i bytes off n _ _
    have written := s.offTurn_mem (s.mem.writeMasked off bytes) (s.mem.wf_writeMasked off bytes)
    exact (written.trans (State.sound_leaveStore ({ s with mem := s.mem.writeMasked off bytes } : State) k h).offTurn).trans (State.offTurn_tell _ _ _ _)
  · exact ((s.sound_setService _ _).trans (State.sound_flush _)).offTurn
  · exact .refl s

theorem State.offPort_reportPerformed (q : ReportRequest) : s.OffPort (s.reportPerformed q) := by
  unfold State.reportPerformed
  split
  · exact s.offPort_req (s.showCauses q.shows).req rfl fun _ h => h
  · exact s.offPort_req { s.req with zoneSerial := q.serial } rfl fun _ h => h
  all_goals exact .refl s

theorem State.offTurn_performReport (q : ReportRequest) : s.OffTurn (s.performReport q) := by
  have written : s.OffTurn { s with mem := s.mem.writeChunks q.chunks, port := { s.port with report := none } } :=
    (s.offTurn_mem _ (s.mem.wf_writeChunks _)).trans (State.offPort_port _ _).offTurn
  exact written.trans (State.offPort_reportPerformed _ q).offTurn

theorem State.offPort_performFill (q : FillRequest) : s.OffPort (s.performFill q) := s.offPort_engine _

theorem State.offPort_performRaw (q : RawRequest) : s.OffPort (s.performRaw q) := .ite _ (s.offPort_tport _ rfl rfl) (.refl s)

theorem State.offTurn_performInternal (r : Requester) : s.OffTurn (s.performInternal r) := by
  cases r with
  | develop =>
    unfold State.performInternal
    dsimp only
    split
    · exact .refl s
    · exact ((s.offPort_port _).trans (State.offPort_performFill _ _)).offTurn.trans (State.offTurn_settle _ s)
  | tether =>
    unfold State.performInternal
    dsimp only
    split
    · exact .refl s
    · exact ((s.offPort_port _).trans (State.offPort_performRaw _ _)).offTurn.trans (State.offTurn_settle _ s)
  | report =>
    unfold State.performInternal
    dsimp only
    split
    · exact .refl s
    · exact s.offTurn_performReport _
  | settings =>
    unfold State.performInternal
    dsimp only
    split
    · exact .refl s
    · exact (s.offPort_port _).offTurn.trans (State.offTurn_endLoad _ _)

theorem State.lawful_port (x : MemoryPort) : s.Lawful { s with port := x } := ⟨rfl, id, id, id, id, id⟩

theorem State.lawful_grant : s.Lawful s.grant := by
  unfold State.grant
  refine .ite _ ?_ ?_
  · unfold State.grantPassage
    split
    · exact .refl s
    · split
      · exact .refl s
      · rename_i e he
        exact (s.lawful_port _).trans (State.offTurn_performPassage s.countPassage _ e (List.getElem?_eq_some_iff.mp he).1).toLawful
  · split
    · exact (s.lawful_port _).trans (State.offTurn_performInternal _ _).toLawful
    · exact .refl s

end Grants

/-! ### Reset and link start (R32) -/

theorem State.resetWith_noRecords (p : Pins) (i : Fin 48) : (State.resetWith p).record i = none := Vector.getElem_replicate _

/-- A state with every record FREE, an empty pool and no traffic keeps the laws of R5, R11 and R31. -/
theorem State.laws_of_empty (s : State) (records : ∀ i, s.record i = none) (counter : s.shots.counter = 1)
    (pool : s.pool.configured = false ∧ s.pool.free = [] ∧ s.pool.livePages = 0)
    (link : s.link.started = false ∧ s.link.credits = 0 ∧ s.link.ordinary = [] ∧ s.link.develop = []) :
    s.creditLaw ∧ s.pageLaw ∧ s.numberLaw := by
  obtain ⟨configured, free, livePages⟩ := pool
  obtain ⟨started, credits, ordinary, develop⟩ := link
  have noPages : s.recordPages = [] := List.flatMap_eq_nil_iff.mpr fun i _ => by rw [records i]; rfl
  have noNumbers : s.heldNumbers = [] := List.filterMap_eq_nil_iff.mpr fun i _ => by rw [records i]; rfl
  refine ⟨?_, ?_, ?_⟩
  · simp [State.creditLaw, started, credits, ordinary, develop]
  · simp [State.pageLaw, configured, free, noPages, livePages]
  · simp [State.numberLaw, noNumbers, counter]

theorem State.lawful_afterReset (s : State) : s.Lawful s.afterReset := by
  obtain ⟨credit, pages, numbers⟩ := State.laws_of_empty s.afterReset (State.resetWith_noRecords s.pins) rfl ⟨rfl, rfl, rfl⟩
    ⟨rfl, rfl, rfl, rfl⟩
  exact ⟨rfl, fun _ => rfl, fun _ => credit, fun _ => pages, fun _ => numbers, fun _ => State.AtRest.portLaw ⟨rfl, PortState.noConfusion, PortState.noConfusion⟩⟩

section LinkStart

variable (s : State)

theorem State.offPort_countWrite (r : ReportRecord) : s.OffPort (s.countWrite r) := by
  cases r with
  | status | mirror i => exact s.offPort_req _ rfl fun _ h => h
  | zoneLow | zoneHigh | slot i => exact .refl s

theorem State.lawful_writeRecord (r : ReportRecord) : s.Lawful (s.writeRecord r) :=
  (s.offPort_countWrite r).lawful.trans (State.offTurn_performReport _ _).toLawful

/-- R184: a record written at once touches DRAM, the REPORT request and the request unit only. -/
theorem State.writeRecord_beside (r : ReportRecord) (m : Memory) (p : MemoryPort) (q : RequestUnit) :
    ({ s.writeRecord r with mem := m, port := p, req := q } : State) = { s with mem := m, port := p, req := q } := by
  have performed (u : State) (x : ReportRequest) :
      ({ u.performReport x with mem := m, port := p, req := q } : State) = { u with mem := m, port := p, req := q } := by
    unfold State.performReport State.reportPerformed
    split <;> rfl
  have counted : ({ s.countWrite r with mem := m, port := p, req := q } : State) = { s with mem := m, port := p, req := q } := by
    cases r <;> rfl
  rw [State.writeRecord, performed, counted]

theorem State.lawful_initialReports : s.Lawful s.initialReports := by
  unfold State.initialReports
  refine State.Lawful.trans ?_ (State.lawful_writeRecord _ .status)
  exact State.Lawful.foldl (fun u i => u.lawful_writeRecord (.mirror i)) (List.finRange 48) s

/-- R32: the initial reports touch DRAM, the REPORT request and the request unit only. -/
theorem State.initialReports_beside (m : Memory) (p : MemoryPort) (q : RequestUnit) :
    ({ s.initialReports with mem := m, port := p, req := q } : State) = { s with mem := m, port := p, req := q } := by
  have mirrors (l : List (Fin 48)) (u : State) :
      ({ l.foldl (fun u i => u.writeRecord (.mirror i)) u with mem := m, port := p, req := q } : State) =
        { u with mem := m, port := p, req := q } := by
    induction l generalizing u with
    | nil => rfl
    | cons i l ih => rw [List.foldl_cons, ih, State.writeRecord_beside]
  unfold State.initialReports
  rw [State.writeRecord_beside]
  exact mirrors (List.finRange 48) s

/-- R31, R32: the link starts with 32 credits and an empty store. -/
theorem State.lawful_startLink (h : s.link.started = false) : s.Lawful s.startLink := by
  have written := s.lawful_initialReports
  have beside := s.initialReports_beside s.mem s.port s.req
  unfold State.startLink
  generalize s.initialReports = u at written beside
  have same := congrArg State.link beside
  dsimp only at same
  refine ⟨written.pending, written.memory, fun law => ?_, written.pages, written.numbers, written.port⟩
  simp only [State.creditLaw, h, Bool.false_eq_true, if_false] at law
  obtain ⟨-, ordinary, develop⟩ := law
  simp [State.creditLaw, same, ordinary, develop]

end LinkStart

/-! ### Commands -/

theorem State.sound_followLink (s : State) : s.Sound s.followLink := by
  unfold State.followLink
  split
  case h_1 st => exact s.sound_portIdle (by simp [st]) (by simp [st])
  case h_2 st => exact s.sound_portIdle (by simp [st]) (by simp [st])
  all_goals exact .refl s

/-- Every command but the requests, MEMORY_GRANT, LINK_START and RESET_N keeps the laws, tables, DRAM, mask and causes. -/
theorem State.sound_exec (c : Instr) (s t : State) (h : exec c s = .next t) (request : posted c = none) (grant : c ≠ .memoryGrant)
    (start : c ≠ .linkStart) (reset : c ≠ .resetN) : s.Sound t := by
  cases c with
  | resetN => contradiction
  | linkStart => contradiction
  | memoryGrant => contradiction
  | timeBaseTick => cases h; exact (s.offPort_time _).sound
  | write addr beats =>
    simp only [exec, execWrite] at h
    split at h
    · cases h
      unfold State.arriveWrite
      split
      · exact .refl s
      · rename_i credit
        exact s.sound_joinOrdinary _ credit
    · cases h
  | read tag addr count =>
    simp only [exec, execRead] at h
    split at h
    · cases h
      unfold State.arriveRead
      split
      · exact .refl s
      · rename_i credit
        exact .ite _ (s.sound_event _ (s.sound_joinDevelop _ credit)) (s.sound_joinOrdinary _ credit)
    · cases h
  | ordinaryLaneService => cases h; exact s.sound_quietEvent _ s.sound_serve
  | reportIssue =>
    cases h
    refine .ite _ ?_ (.refl s)
    unfold State.issueReport
    split
    · rename_i rest _ _
      exact (((s.offPort_req { s.req with reportList := rest } rfl fun _ h => h).trans (State.offPort_countWrite _ _)).trans
        (State.offPort_port _ _)).sound
    · exact .refl s
  | lineChange line level =>
    cases line with
    | home g => cases h; exact (s.offPort_pins _).sound
    | debounced l =>
      cases h
      have read := (s.offPort_pins (s.pins.setLine l level)).trans (State.offPort_readLine _ l)
      exact s.sound_quietEvent _ (.ite _ ((read.trans (State.offPort_countChange _ l)).sound.trans (State.sound_settle _ _)) read.sound)
  | debouncedChange l =>
    cases h
    exact .ite _ (s.sound_quietEvent _ ((s.offPort_countChange l).sound.trans (State.sound_settle _ _))) (.refl s)
  | liveTrigger =>
    cases h
    unfold State.liveTimerReached
    split
    · exact .ite _ (s.sound_event _ (s.offPort_liveFallsDue _).sound) (.refl s)
    · exact .refl s
  | shotTriggerDue =>
    cases h
    unfold State.shotFallsDue
    split
    · exact .ite _ (s.sound_event _ (s.offPort_testTrigger _).sound) (.refl s)
    · exact .refl s
  | ftrigPulseBegin => cases h; exact (s.offPort_release _).sound
  | ftrigPulseEnd => cases h; exact (s.offPort_release _).sound
  | readoutTimeout =>
    cases h
    unfold State.readoutReached
    split
    · exact .ite _ (s.sound_event _ (s.offPort_timeoutFrame _).sound) (.refl s)
    · exact .refl s
  | stepBoundary group =>
    cases h
    unfold State.stepReached
    split
    · exact s.sound_event _ (s.offPort_setGroup _ _).sound
    · exact .refl s
  | stepPulseEnd group => cases h; exact .ite _ (s.offPort_setGroup _ _).sound (.refl s)
  | homingBoundary group =>
    cases h
    unfold State.homingReached
    split
    · exact s.sound_event _ ((s.offPort_homingStep _ _).trans (State.offPort_homingEnd _)).sound
    · exact .refl s
  | settleDeadline group => cases h; exact .ite _ (s.sound_event _ (s.offPort_setGroup _ _).sound) (.refl s)
  | tlinkChange level =>
    cases h
    refine s.sound_event _ ((s.offPort_pins { s.pins with tlink := level }).sound.trans ?_)
    exact State.sound_followLink _
  | trdyChange level => cases h; exact s.sound_event _ ((s.offPort_pins _).sound.trans (State.sound_trdyAdvance _))
  | settleWaitEnd =>
    cases h
    unfold State.settleWaitOver
    split
    · exact .ite _ (s.sound_event _ (s.sound_settleOver _)) (.refl s)
    · exact .refl s
  | strobeEnd =>
    cases h
    unfold State.strobeReached
    split
    · exact .ite _ (s.sound_event _ (s.sound_strobeOver _)) (.refl s)
    · exact .refl s
  | wordSlot =>
    cases h
    unfold State.slotOver
    split
    · exact .ite _ (s.sound_event _ (s.sound_endUnit _)) (.refl s)
    · exact .refl s
  | stall =>
    cases h
    unfold State.stallReached
    split
    · exact .ite _ (s.sound_event _ (s.sound_stallPort _)) (.refl s)
    · exact .refl s
  | tack level =>
    cases h
    refine s.sound_quietEvent _ ?_
    unfold State.tackReads
    dsimp only
    split
    · exact .ite _ (((s.offPort_pins _).sound.trans (State.sound_acceptItem _ _)).trans (State.sound_settle _ _)) (s.offPort_pins _).sound
    · exact (s.offPort_pins _).sound
  | tnak level =>
    cases h
    refine s.sound_quietEvent _ ?_
    unfold State.tnakReads
    dsimp only
    split
    · exact .ite _ (((s.offPort_pins _).sound.trans (State.sound_refuseItem _ _)).trans (State.sound_settle _ _)) (s.offPort_pins _).sound
    · exact (s.offPort_pins _).sound
  | verdictTimeout =>
    cases h
    unfold State.verdictReached
    split
    · exact .ite _ (s.sound_event _ (s.sound_verdictLost _)) (.refl s)
    · exact .refl s
  | _ => cases request

/-- Every command keeps every law and the queue of commands. -/
theorem State.lawful_exec (c : Instr) (s t : State) (h : exec c s = .next t) : s.Lawful t := by
  cases request : posted c with
  | some p =>
    obtain ⟨slot, kind, tag, args⟩ := p
    obtain rfl : s.command slot kind tag args = t := by rw [exec_posted c s _ _ _ _ request] at h; injection h
    exact (s.orderly_command _ _ _ _).lawful
  | none =>
    by_cases grant : c = .memoryGrant
    · subst grant
      cases h
      exact .ite _ (s.lawful_grant.trans (State.offPort_finishEvent _ _).lawful) (.refl s)
    by_cases start : c = .linkStart
    · subst start
      cases h
      split
      · exact .refl s
      · rename_i off
        exact s.lawful_startLink (by simpa using off)
    by_cases reset : c = .resetN
    · subst reset
      cases h
      exact s.lawful_afterReset
    exact (State.sound_exec c s t h request grant start reset).lawful

theorem State.lawful_clock (s : State) : s.Lawful s.clock := .ite _ (s.offPort_time _).lawful (s.offPort_time _).lawful

/-- A step keeps every law. -/
theorem State.step_laws (s t : State) (h : step s = .next t) :
    (s.memoryLaw → t.memoryLaw) ∧ (s.creditLaw → t.creditLaw) ∧ (s.pageLaw → t.pageLaw) ∧ (s.numberLaw → t.numberLaw) ∧
      (s.portLaw → t.portLaw) := by
  unfold step at h
  split at h
  · cases h
    have kept := s.lawful_clock
    exact ⟨kept.memory, kept.credit, kept.pages, kept.numbers, kept.port⟩
  · rename_i c cs _
    have kept := State.lawful_exec c { s with pending := cs } t h
    exact ⟨kept.memory, kept.credit, kept.pages, kept.numbers, kept.port⟩

end Sys2Proof.Machine
end

section
/-! SUPPORT. The statements about the machine as a whole: the queue, refusals, reset, the laws of every step, the few writers of
tables, DRAM and causes, and the reports of what changed. -/

namespace Sys2Proof.Machine

/-! ### The queue, and refusals -/

/-- Settles O1: `step` is `exec` on the queue's rest, and no command touches the queue. -/
theorem stepTakesTheFrontCommand : Obligations.StepTakesTheFrontCommand := by
  unfold Obligations.StepTakesTheFrontCommand
  refine ⟨fun s c cs h => ?_, fun c s t h => (State.lawful_exec c s t h).pending⟩
  rw [step, h]

/-- R29: only a packet whose beat count is out of range gets no next state. -/
theorem exec_next_or_refused (c : Instr) (s : State) :
    (∃ t, exec c s = .next t) ∨ (exec c s = .refused .notAPacket ∧ c.wellFormed = false) := by
  cases c with
  | write addr beats =>
    by_cases h : beatCountOk beats.length = true
    · exact .inl ⟨_, if_pos h⟩
    · exact .inr ⟨if_neg h, Bool.eq_false_iff.mpr h⟩
  | read tag addr count =>
    by_cases h : beatCountOk count = true
    · exact .inl ⟨_, if_pos h⟩
    · exact .inr ⟨if_neg h, Bool.eq_false_iff.mpr h⟩
  | lineChange line level => cases line <;> exact .inl ⟨_, rfl⟩
  | _ => exact .inl ⟨_, rfl⟩

/-- Settles O2: by the one way a command can be refused. -/
theorem onlyNonPacketsAreRefused : Obligations.OnlyNonPacketsAreRefused := by
  unfold Obligations.OnlyNonPacketsAreRefused
  refine ⟨fun c s wellFormed => ?_, exec_next_or_refused⟩
  rcases exec_next_or_refused c s with next | ⟨-, bad⟩
  · exact next
  · exact absurd wellFormed (by simp [bad])

/-! ### Reset -/

/-- Settles O4: the state after reset has no records, no pages, no traffic and no item. -/
theorem resetSatisfiesTheLaws : Obligations.ResetSatisfiesTheLaws := by
  unfold Obligations.ResetSatisfiesTheLaws
  obtain ⟨credit, pages, numbers⟩ := State.laws_of_empty State.reset (State.resetWith_noRecords Pins.reset) rfl ⟨rfl, rfl, rfl⟩
    ⟨rfl, rfl, rfl, rfl⟩
  exact ⟨rfl, credit, pages, numbers, State.AtRest.portLaw ⟨rfl, PortState.noConfusion, PortState.noConfusion⟩⟩

/-- R51: after RESET_N a line that reads active begins its difference at once. -/
theorem State.afterReset_debouncer (s : State) (l : Line) :
    s.afterReset.debouncer l = { active := false, since := if s.afterReset.reads l then some 0 else none } := by
  cases l <;> rfl

theorem neutral_tone : Profile.neutral.tone = (List.range 65).map fun i => min 255 (4 * i) := by decide

/-- Settles O3: RESET_N answers `State.afterReset`, read field by field. -/
theorem resetLeavesResetValues : Obligations.ResetLeavesResetValues := by
  unfold Obligations.ResetLeavesResetValues
  intro s
  have epoch : s.afterReset.mem.epoch ≠ s.mem.epoch := Nat.succ_ne_self s.mem.epoch
  have group : ∀ g : Group, s.afterReset.lens.group g = GroupDrive.reset := fun g => by cases g <;> rfl
  have noSamples : s.afterReset.phase.store = [] := rfl
  have zones : ∀ z : Fin 12, s.afterReset.phase.zones[z] = ZoneSums.clear .disabled := fun z => Vector.getElem_replicate _
  have profiles : ∀ p : Fin 8, s.afterReset.tables.profiles[p] = Profile.neutral := fun p => Vector.getElem_replicate _
  have slots : ∀ i : Fin 8, s.afterReset.req.slots[i] = Slot.reset := fun i => Vector.getElem_replicate _
  refine ⟨s.afterReset, rfl, rfl, rfl, rfl, rfl, epoch, ⟨rfl, rfl, rfl, rfl, rfl⟩, ⟨fun v => Vector.getElem_replicate _, rfl, rfl, rfl⟩,
    ⟨rfl, rfl, rfl, rfl, rfl, rfl⟩, ⟨rfl, rfl, rfl, rfl, rfl, rfl⟩, ⟨State.resetWith_noRecords s.pins, rfl, rfl⟩,
    ⟨s.afterReset_debouncer, rfl, rfl, rfl, rfl, rfl, rfl, rfl, rfl, rfl⟩, rfl,
    ⟨rfl, rfl, fun k x h => by simp [noSamples] at h, fun z => by rw [zones z]; exact ⟨rfl, rfl⟩⟩,
    ⟨rfl, rfl, rfl, rfl, rfl, rfl, rfl, rfl, rfl⟩, fun g => by rw [group g]; exact ⟨rfl, rfl, rfl, rfl, rfl, rfl, rfl, rfl, rfl, rfl⟩,
    rfl, rfl, rfl, rfl, ⟨rfl, fun c => Vector.getElem_replicate _, rfl⟩, fun p => ?_,
    ⟨fun p => Vector.getElem_replicate _, rfl, rfl, rfl, fun p => Vector.getElem_replicate _⟩, rfl,
    ⟨rfl, rfl, fun p => Vector.getElem_replicate _, rfl, rfl, rfl⟩,
    ⟨fun i => by rw [slots i]; exact ⟨rfl, rfl, rfl, rfl⟩, rfl, rfl, rfl, rfl, rfl, rfl, rfl, ?_⟩⟩
  · rw [profiles p, ← neutral_tone]
    rfl
  · simp [State.attn, s.afterReset_causes]

/-! ### The laws of every step -/

/-- Settles O5: only written bytes enter the list, each in its place. -/
theorem stepKeepsMemoryForm : Obligations.StepKeepsMemoryForm := by
  unfold Obligations.StepKeepsMemoryForm
  intro s t law h
  obtain ⟨memory, -⟩ := s.step_laws t h
  exact memory law

/-- Settles O6: every operation of the link returns a credit with each transfer that leaves the store. -/
theorem stepKeepsCreditBalance : Obligations.StepKeepsCreditBalance := by
  unfold Obligations.StepKeepsCreditBalance
  intro s t law h
  obtain ⟨-, credit, -⟩ := s.step_laws t h
  exact credit law

/-- Settles O7: every operation moves pages between the free list and a record, or keeps both. -/
theorem stepKeepsPageBalance : Obligations.StepKeepsPageBalance := by
  unfold Obligations.StepKeepsPageBalance
  intro s t law h
  obtain ⟨-, -, pages, -⟩ := s.step_laws t h
  exact pages law

/-- Settles O8: a record opens only with a number that the search of R11 found free. -/
theorem stepKeepsShotNumbers : Obligations.StepKeepsShotNumbers := by
  unfold Obligations.StepKeepsShotNumbers
  intro s t law h
  obtain ⟨-, -, -, numbers, -⟩ := s.step_laws t h
  exact numbers law

/-- Settles O9: an item opens and ends together with the port's state. -/
theorem stepKeepsPortItem : Obligations.StepKeepsPortItem := by
  unfold Obligations.StepKeepsPortItem
  intro s t law h
  obtain ⟨-, -, -, -, port⟩ := s.step_laws t h
  exact port law

/-! ### The initial reports and the request unit (R32, R184) -/

/-- What the initial reports leave alone in the request unit. -/
structure State.SameCauses (s t : State) : Prop where
  causes : t.req.causes = s.req.causes
  mask : t.req.mask = s.req.mask
  zoneSerial : t.req.zoneSerial = s.req.zoneSerial

theorem State.SameCauses.trans {s t u : State} (h : s.SameCauses t) (k : t.SameCauses u) : s.SameCauses u :=
  ⟨k.causes.trans h.causes, k.mask.trans h.mask, k.zoneSerial.trans h.zoneSerial⟩

theorem State.sameCauses_writeRecord (s : State) (r : ReportRecord) (h : r = .status ∨ ∃ i, r = .mirror i) :
    s.SameCauses (s.writeRecord r) := by
  have counted : s.SameCauses (s.countWrite r) := by cases r <;> exact ⟨rfl, rfl, rfl⟩
  have performed (u : State) (x : ReportRequest) (hx : x.record = .status ∨ ∃ i, x.record = .mirror i) : u.SameCauses (u.performReport x) := by
    unfold State.performReport State.reportPerformed
    rcases hx with status | ⟨i, mirror⟩
    · rw [status]; exact ⟨rfl, rfl, rfl⟩
    · rw [mirror]; exact ⟨rfl, rfl, rfl⟩
  unfold State.writeRecord
  exact counted.trans (performed (s.countWrite r) ((s.countWrite r).composeRecord r) h)

theorem State.sameCauses_initialReports (s : State) : s.SameCauses s.initialReports := by
  have mirrors (l : List (Fin 48)) (u : State) : u.SameCauses (l.foldl (fun u i => u.writeRecord (.mirror i)) u) := by
    induction l generalizing u with
    | nil => exact ⟨rfl, rfl, rfl⟩
    | cons i l ih =>
      rw [List.foldl_cons]
      exact (u.sameCauses_writeRecord (.mirror i) (.inr ⟨i, rfl⟩)).trans (ih _)
  unfold State.initialReports
  exact (mirrors (List.finRange 48) s).trans (State.sameCauses_writeRecord _ .status (.inl rfl))

/-- What LINK_START leaves alone: all but the link, DRAM, the memory port and the request unit. -/
theorem State.startLink_beside (s : State) (m : Memory) (l : LinkPort) (p : MemoryPort) (q : RequestUnit) :
    ({ s.startLink with mem := m, link := l, port := p, req := q } : State) = { s with mem := m, link := l, port := p, req := q } := by
  have beside := s.initialReports_beside m p q
  unfold State.startLink
  generalize s.initialReports = u at beside
  exact congrArg (fun u : State => { u with link := l }) beside

theorem State.sameCauses_startLink (s : State) : s.SameCauses s.startLink := by
  have same := s.sameCauses_initialReports
  unfold State.startLink
  generalize s.initialReports = u at same
  exact ⟨same.causes, same.mask, same.zoneSerial⟩

theorem State.startLink_tables (s : State) : s.startLink.tables = s.tables := by
  have beside := s.startLink_beside s.mem s.link s.port s.req
  generalize s.startLink = u at beside
  have same := congrArg State.tables beside
  exact same

/-! ### Few writers (R180, R186 to R188, R193) -/

/-- CLEAR_CAUSES keeps the mask. -/
theorem State.command_clearCauses_mask (s : State) (slot : Fin 8) (tag : Word32) (v : Beat) :
    (s.command slot 19 tag [v]).req.mask = s.req.mask := by
  show (s.request slot (kindCode 19) tag [v]).req.mask = _
  by_cases hc : s.canPost slot
  · rw [s.request_of_canPost slot _ tag _ hc, State.perform_clearCauses]
    unfold State.reqClearCauses
    split <;> rfl
  · rw [s.request_of_taken slot _ tag _ hc]
    rfl

/-- SET_MASK keeps every pending cause. -/
theorem State.command_setMask_causes (s : State) (slot : Fin 8) (tag : Word32) (v : Beat) (x : Cause) (h : s.pendingCause x = true) :
    (s.command slot 20 tag [v]).pendingCause x = true := by
  show (s.request slot (kindCode 20) tag [v]).pendingCause x = true
  by_cases hc : s.canPost slot
  · rw [s.request_of_canPost slot _ tag _ hc, State.perform_setMask]
    unfold State.reqSetMask
    split <;> exact pending_or _ _ x h
  · rw [s.request_of_taken slot _ tag _ hc]
    exact pending_or _ _ x h

/-- R183: a well-formed command that posts kind 19 or 20 is CLEAR_CAUSES or SET_MASK. -/
theorem posted_causes_kind (c : Instr) (wellFormed : c.wellFormed = true) (slot : Fin 8) (kind : Byte) (tag : Word32) (args : List Beat)
    (h : posted c = some (slot, kind, tag, args)) :
    (kind = 19 ∧ ∃ v, c = .clearCauses slot tag v ∧ args = [v]) ∨ (kind = 20 ∧ ∃ v, c = .setMask slot tag v ∧ args = [v]) ∨
      (kind.toNat ≠ 19 ∧ kind.toNat ≠ 20) := by
  cases c with
  | clearCauses slot tag v => cases h; exact .inl ⟨rfl, v, rfl, rfl⟩
  | setMask slot tag v => cases h; exact .inr (.inl ⟨rfl, v, rfl, rfl⟩)
  | unknownKindRequest slot tag kind =>
    cases h
    simp only [Instr.wellFormed, unknownKind, Bool.or_eq_true, beq_iff_eq, decide_eq_true_eq] at wellFormed
    rcases wellFormed with rfl | big
    · exact .inr (.inr (by decide))
    · exact .inr (.inr (by omega))
  | _ => cases h <;> exact .inr (.inr (by decide))

/-- Settles O10: by the requests that write causes or mask, the link start, and what every other command keeps. -/
theorem tablesDramAndCausesHaveFewWriters : Obligations.TablesDramAndCausesHaveFewWriters := by
  unfold Obligations.TablesDramAndCausesHaveFewWriters
  have started (s t : State) (h : exec .linkStart s = .next t) : t.tables = s.tables ∧ s.SameCauses t := by
    obtain rfl : (if s.link.started then s else s.startLink) = t := by injection h
    split
    · exact ⟨rfl, rfl, rfl, rfl⟩
    · exact ⟨s.startLink_tables, s.sameCauses_startLink⟩
  refine ⟨fun c s t grant reset h => ?_, fun c s t x wellFormed grant reset clear h pending => ?_,
    fun c s t wellFormed grant reset mask h => ?_⟩
  · cases request : posted c with
    | some p =>
      obtain ⟨slot, kind, tag, args⟩ := p
      obtain rfl : s.command slot kind tag args = t := by rw [exec_posted c s _ _ _ _ request] at h; injection h
      have kept := s.orderly_command slot kind tag args
      exact ⟨kept.tables, fun _ => kept.mem⟩
    | none =>
      by_cases start : c = .linkStart
      · subst start
        exact ⟨(started s t h).1, fun no => absurd rfl no⟩
      · have kept := State.sound_exec c s t h request grant start reset
        exact ⟨kept.tables, fun _ => kept.mem⟩
  · cases request : posted c with
    | some p =>
      obtain ⟨slot, kind, tag, args⟩ := p
      obtain rfl : s.command slot kind tag args = t := by rw [exec_posted c s _ _ _ _ request] at h; injection h
      rcases posted_causes_kind c wellFormed slot kind tag args request with ⟨-, v, rfl, -⟩ | ⟨rfl, v, -, rfl⟩ | ⟨h19, h20⟩
      · exact absurd rfl (clear slot tag v)
      · exact s.command_setMask_causes slot tag v x pending
      · exact (s.sound_command slot kind tag args h19 h20).causes x pending
    | none =>
      by_cases start : c = .linkStart
      · subst start
        rw [State.pendingCause, (started s t h).2.causes]
        exact pending
      · exact (State.sound_exec c s t h request grant start reset).causes x pending
  · cases request : posted c with
    | some p =>
      obtain ⟨slot, kind, tag, args⟩ := p
      obtain rfl : s.command slot kind tag args = t := by rw [exec_posted c s _ _ _ _ request] at h; injection h
      rcases posted_causes_kind c wellFormed slot kind tag args request with ⟨rfl, v, -, rfl⟩ | ⟨-, v, rfl, -⟩ | ⟨h19, h20⟩
      · exact s.command_clearCauses_mask slot tag v
      · exact absurd rfl (mask slot tag v)
      · exact (s.sound_command slot kind tag args h19 h20).mask
    | none =>
      by_cases start : c = .linkStart
      · subst start
        exact (started s t h).2.mask
      · exact (State.sound_exec c s t h request grant start reset).mask

/-! ### Reports of what changed (R27, R184, R185) -/

theorem mem_joinReport (l : List ReportRecord) (m r : ReportRecord) : r ∈ joinReport l m ↔ r = m ∨ r ∈ l := by
  simp only [joinReport, dropElem, List.mem_append, List.mem_filter, List.mem_singleton, decide_eq_true_eq]
  by_cases e : r = m <;> simp [e]

/-- R184: the marked records join the list, and none leaves it. -/
theorem mem_foldl_joinReport (marks l : List ReportRecord) (r : ReportRecord) :
    r ∈ marks.foldl joinReport l ↔ r ∈ marks ∨ r ∈ l := by
  induction marks generalizing l with
  | nil => simp
  | cons m marks ih => rw [List.foldl_cons, ih, mem_joinReport, List.mem_cons]; tauto

/-- What changed from `s` to `t` in the records and the status record stands in the report list. -/
structure State.Reported (s t : State) : Prop where
  mirror : ∀ i, t.record i ≠ s.record i → .mirror i ∈ t.req.reportList
  status : t.statusFields ≠ s.statusFields → .status ∈ t.req.reportList

theorem State.Reported.of_same {s t : State} (records : t.shots = s.shots) (fields : t.statusFields = s.statusFields) : s.Reported t :=
  ⟨fun i h => absurd (congrArg (fun x : ShotTable => x.records[i]) records) h, fun h => absurd fields h⟩

theorem State.Reported.refl (s : State) : s.Reported s := .of_same rfl rfl

/-- R27, R184: the end of an event marks what the event changed. -/
theorem State.reported_finishEvent (s u : State) : s.Reported (u.finishEvent s) := by
  refine ⟨fun i changed => (mem_foldl_joinReport _ _ _).mpr (.inl ?_), fun changed => (mem_foldl_joinReport _ _ _).mpr (.inl ?_)⟩
  · have listed : .mirror i ∈ u.changedMirrors s :=
      List.mem_map.mpr ⟨i, List.mem_filter.mpr ⟨List.mem_finRange i, decide_eq_true changed⟩, rfl⟩
    exact List.mem_append_left _ (List.mem_append_right _ listed)
  · have differs : (u.statusFields != s.statusFields) = true := bne_iff_ne.mpr changed
    simp [State.eventMarks, differs]

theorem State.Reported.ite {s t u : State} (p : Prop) [Decidable p] (ht : s.Reported t) (hu : s.Reported u) :
    s.Reported (if p then t else u) := by
  split
  · exact ht
  · exact hu

theorem State.reported_event (s : State) (f : State → State) : s.Reported (s.event f) := s.reported_finishEvent _

theorem State.reported_quietEvent (s : State) (f : State → State) : s.Reported (s.quietEvent f) := s.reported_finishEvent _

theorem State.reported_issueReport (s : State) : s.Reported s.issueReport := by
  unfold State.issueReport
  split
  · rename_i r rest _ _
    cases r <;> exact .of_same rfl rfl
  · exact .refl s

/-- LINK_START changes no record and no field of the status record but its update count. -/
theorem State.reported_startLink (s : State) : s.Reported s.startLink := by
  have causes := s.sameCauses_startLink
  have beside (q : RequestUnit) := s.startLink_beside s.mem s.link s.port q
  generalize s.startLink = u at beside causes
  have records := congrArg State.shots (beside u.req)
  have fields := congrArg State.statusFields (beside u.req)
  refine .of_same records (fields.trans ?_)
  simp only [State.statusFields, causes.causes, causes.mask, causes.zoneSerial]
  rfl

/-- Every command but RESET_N reports what it changes. -/
theorem State.reported_exec (c : Instr) (s t : State) (reset : c ≠ .resetN) (h : exec c s = .next t) : s.Reported t := by
  cases request : posted c with
  | some p =>
    obtain ⟨slot, kind, tag, args⟩ := p
    obtain rfl : s.command slot kind tag args = t := by rw [exec_posted c s _ _ _ _ request] at h; injection h
    exact s.reported_quietEvent _
  | none =>
    cases c with
    | resetN => contradiction
    | linkStart => cases h; exact .ite _ (.refl s) s.reported_startLink
    | timeBaseTick | ftrigPulseBegin | ftrigPulseEnd => cases h; exact .of_same rfl rfl
    | write addr beats =>
      simp only [exec, execWrite] at h
      split at h
      · cases h; exact .ite _ (.refl s) (.of_same rfl rfl)
      · cases h
    | read tag addr count =>
      simp only [exec, execRead] at h
      split at h
      · cases h; exact .ite _ (.refl s) (.ite _ (s.reported_event _) (.of_same rfl rfl))
      · cases h
    | reportIssue => cases h; exact .ite _ s.reported_issueReport (.refl s)
    | lineChange line level =>
      cases line with
      | home g => cases h; exact .of_same rfl rfl
      | debounced l => cases h; exact s.reported_quietEvent _
    | stepPulseEnd group => cases h; cases group <;> exact .ite _ (.of_same rfl rfl) (.refl s)
    | memoryGrant => cases h; exact .ite _ (s.reported_quietEvent _) (.refl s)
    | ordinaryLaneService | tack level | tnak level => cases h; exact s.reported_quietEvent _
    | tlinkChange level | trdyChange level => cases h; exact s.reported_event _
    | debouncedChange l | settleDeadline group => cases h; exact .ite _ (s.reported_finishEvent _) (.refl s)
    | liveTrigger =>
      cases h
      unfold State.liveTimerReached
      split
      · exact .ite _ (s.reported_event _) (.refl s)
      · exact .refl s
    | shotTriggerDue =>
      cases h
      unfold State.shotFallsDue
      split
      · exact .ite _ (s.reported_event _) (.refl s)
      · exact .refl s
    | readoutTimeout =>
      cases h
      unfold State.readoutReached
      split
      · exact .ite _ (s.reported_event _) (.refl s)
      · exact .refl s
    | stepBoundary group =>
      cases h
      unfold State.stepReached
      split
      · exact s.reported_event _
      · exact .refl s
    | homingBoundary group =>
      cases h
      unfold State.homingReached
      split
      · exact s.reported_event _
      · exact .refl s
    | settleWaitEnd =>
      cases h
      unfold State.settleWaitOver
      split
      · exact .ite _ (s.reported_event _) (.refl s)
      · exact .refl s
    | strobeEnd =>
      cases h
      unfold State.strobeReached
      split
      · exact .ite _ (s.reported_event _) (.refl s)
      · exact .refl s
    | wordSlot =>
      cases h
      unfold State.slotOver
      split
      · exact .ite _ (s.reported_event _) (.refl s)
      · exact .refl s
    | stall =>
      cases h
      unfold State.stallReached
      split
      · exact .ite _ (s.reported_event _) (.refl s)
      · exact .refl s
    | verdictTimeout =>
      cases h
      unfold State.verdictReached
      split
      · exact .ite _ (s.reported_event _) (.refl s)
      · exact .refl s
    | _ => cases request

/-- Settles O11: by the marks at the end of each event. -/
theorem changesAreReported : Obligations.ChangesAreReported := by
  unfold Obligations.ChangesAreReported
  exact ⟨fun c s t i reset h => (State.reported_exec c s t reset h).mirror i, fun c s t reset h => (State.reported_exec c s t reset h).status⟩

/-! ### Masked writes, and arrivals (R29 to R33) -/

/-- Settles O13: by induction on the bytes, the first of which stands at `a`. -/
theorem writtenBytesReadBack : Obligations.WrittenBytesReadBack := by
  unfold Obligations.WrittenBytesReadBack
  intro m a bs x wf
  induction bs generalizing m a with
  | nil => simp [Memory.writeMasked]
  | cons b bs ih =>
    have later : a + 1 ≤ x → (b :: bs)[x - a]? = bs[x - (a + 1)]? := fun h => by
      rw [show x - a = x - (a + 1) + 1 by omega, List.getElem?_cons_succ]
    have first : x = a → (b :: bs)[x - a]? = some b := fun h => by rw [h, Nat.sub_self, List.getElem?_cons_zero]
    have away : (m' : Memory) → (∀ y, y ≠ a → m'.readByte y = m.readByte y) → m'.wf = true →
        x ≠ a → (m'.writeMasked (a + 1) bs).readByte x = if a ≤ x then (((b :: bs)[x - a]?).join).getD (m.readByte x) else m.readByte x :=
      fun m' same wf' hx => by
        rw [ih m' (a + 1) wf', same x hx]
        by_cases after : a + 1 ≤ x
        · rw [if_pos after, if_pos (by omega), later after]
        · rw [if_neg after, if_neg (by omega)]
    have here : (m' : Memory) → m'.wf = true → x = a → (m'.writeMasked (a + 1) bs).readByte x = m'.readByte x := fun m' wf' hx => by
      rw [ih m' (a + 1) wf', if_neg (by omega)]
    by_cases hx : x = a
    · rw [if_pos (by omega), first hx]
      cases b with
      | none => exact here m wf hx
      | some b => exact (here _ (m.wf_writeByte a b wf) hx).trans (by rw [m.readByte_writeByte a x b wf, if_pos hx]; rfl)
    · cases b with
      | none => exact away m (fun _ _ => rfl) wf hx
      | some b => exact away _ (fun y hy => by rw [m.readByte_writeByte a y b wf, if_neg hy]) (m.wf_writeByte a b wf) hx

theorem beatCountOk_of (n : Nat) (low : 1 ≤ n) (high : n ≤ 32) : beatCountOk n = true := by simp [beatCountOk, low, high]

theorem exec_write (addr : BitVec 29) (beats : List WriteBeat) (s : State) (low : 1 ≤ beats.length) (high : beats.length ≤ 32) :
    exec (.write addr beats) s = .next (s.arriveWrite addr beats) := if_pos (beatCountOk_of _ low high)

theorem exec_read (tag : BitVec 5) (addr : BitVec 29) (count : Nat) (s : State) (low : 1 ≤ count) (high : count ≤ 32) :
    exec (.read tag addr count) s = .next (s.arriveRead tag addr count) := if_pos (beatCountOk_of _ low high)

/-- R33: only a READ that is not malformed, of a view mapped DEVELOPED, goes to the develop lane. -/
theorem State.toDevelopLane_eq_false (s : State) (addr : BitVec 29) (count : Nat) (h : malformed addr count = true ∨
    ∀ v, windowOf (byteAddr addr) = .view v → ∀ e, s.windows.views[v] = some e → e.developed = false) :
    s.toDevelopLane addr count = false := by
  unfold State.toDevelopLane
  rcases h with bad | plain
  · rw [if_pos bad]
  · split
    · rfl
    · split
      · split
        · exact plain _ (by assumption) _ (by assumption)
        · rfl
      all_goals rfl

/-- Settles O14: by the credit and, for a READ, by the lane its window names. -/
theorem packetsJoinTheOrdinaryLane : Obligations.PacketsJoinTheOrdinaryLane := by
  unfold Obligations.PacketsJoinTheOrdinaryLane
  refine ⟨fun s addr beats low high credit => ?_, fun s tag addr count low high credit plain => ?_,
    fun s addr beats low high none => ?_, fun s tag addr count low high none => ?_⟩
  · rw [exec_write addr beats s low high, State.arriveWrite, if_neg credit]
    rfl
  · rw [exec_read tag addr count s low high, State.arriveRead, if_neg credit, s.toDevelopLane_eq_false addr count plain]
    rfl
  · rw [exec_write addr beats s low high, State.arriveWrite, if_pos none]
  · rw [exec_read tag addr count s low high, State.arriveRead, if_pos none]

end Sys2Proof.Machine
end

section
/-! SUPPORT. The memory port and the reports: the arbiter, the REPORT requests, and the reports of the link start. -/

namespace Sys2Proof.Machine

/-! ### Grants (R49, R50) -/

theorem exec_memoryGrant (s : State) (h : s.link.started = true) : exec .memoryGrant s = .next (s.grant.finishEvent s) :=
  congrArg Host.Outcome.next (if_pos h)

theorem State.grant_passage (s : State) (hw : s.passageWaits = true) (h : s.port.passageRun < 8 ∨ s.nextInternal = none) :
    s.grant = s.grantPassage := by
  rcases h with low | idle
  · simp [State.grant, hw, low]
  · simp [State.grant, hw, idle]

theorem State.grant_internal (s : State) (r : Requester) (h : s.passageWaits = false ∨ 8 ≤ s.port.passageRun)
    (hr : s.nextInternal = some r) : s.grant = s.grantInternal r := by
  unfold State.grant
  rw [if_neg, hr]
  rcases h with free | full
  · simp [free]
  · simp [hr, Nat.not_lt.mpr full]

/-- The entry of the ordinary lane that PASSAGE waits with. -/
theorem State.issued_of_passageWaits (s : State) (hw : s.passageWaits = true) :
    ∃ k e, issuedAt s.link.ordinary = some k ∧ s.link.ordinary[k]? = some e := by
  obtain ⟨k, found⟩ := Option.isSome_iff_exists.mp hw
  obtain ⟨inside, -⟩ := List.findIdx?_eq_some_iff_getElem.mp found
  exact ⟨k, s.link.ordinary[k], found, List.getElem?_eq_getElem inside⟩

theorem State.grantPassage_of_issued (s : State) {k : Nat} {e : LaneEntry} (hk : issuedAt s.link.ordinary = some k)
    (he : s.link.ordinary[k]? = some e) : s.grantPassage = s.countPassage.performPassage k e := by
  rw [State.grantPassage, hk]
  dsimp only
  rw [he]

/-- R50: a PASSAGE grant counts itself, and the internal cycle stays. -/
theorem State.turn_grantPassage (s : State) (hw : s.passageWaits = true) :
    s.grantPassage.turn = (cap 8 (s.port.passageRun + 1), s.port.lastServed) := by
  obtain ⟨k, e, hk, he⟩ := s.issued_of_passageWaits hw
  rw [s.grantPassage_of_issued hk he]
  exact (State.offTurn_performPassage s.countPassage k e (List.getElem?_eq_some_iff.mp he).1).turn

/-- R50: an internal grant returns the count to 0 and is the one served last. -/
theorem State.turn_grantInternal (s : State) (r : Requester) : (s.grantInternal r).turn = (0, r) :=
  (State.offTurn_performInternal _ r).turn

/-- Settles O19: by the two kinds of grant, each of which leaves the arbiter's turn as its own rule says. -/
theorem arbiterBoundsPassage : Obligations.ArbiterBoundsPassage := by
  unfold Obligations.ArbiterBoundsPassage
  refine ⟨fun s started waits low => ?_, fun s r started h next => ?_, fun s started waits full idle => ?_⟩
  · have turn := s.turn_grantPassage waits
    rw [← s.grant_passage waits (.inl low), cap_eq_min, Nat.min_eq_right (by omega)] at turn
    exact ⟨_, exec_memoryGrant s started, congrArg Prod.fst turn, congrArg Prod.snd turn⟩
  · have turn := s.turn_grantInternal r
    rw [← s.grant_internal r h next] at turn
    exact ⟨_, exec_memoryGrant s started, congrArg Prod.fst turn, congrArg Prod.snd turn⟩
  · have turn := s.turn_grantPassage waits
    rw [← s.grant_passage waits (.inr idle), cap_eq_min, full] at turn
    exact ⟨_, exec_memoryGrant s started, congrArg Prod.fst turn, congrArg Prod.snd turn⟩

/-! ### REPORT requests (R49, R93, R184 to R186) -/

theorem State.changedMirrors_of_same (s t : State) (h : ∀ i, t.record i = s.record i) : t.changedMirrors s = [] := by
  simp [State.changedMirrors, h]

/-- A performed report write touches DRAM, the REPORT request and the request unit. -/
theorem State.performReport_beside (s : State) (q : ReportRequest) (r : RequestUnit) :
    ({ s.performReport q with req := r } : State) =
      { s with mem := s.mem.writeChunks q.chunks, port := { s.port with report := none }, req := r } := by
  unfold State.performReport State.reportPerformed
  split <;> rfl

/-- R93, R186: what a performed report write leaves in the request unit. -/
theorem State.performReport_req (s : State) (q : ReportRequest) :
    (s.performReport q).req = { s.req with
      shown := if q.record = .status then s.req.shown ||| (q.shows &&& s.req.causes) else s.req.shown
      zoneSerial := if q.record = .zoneHigh then q.serial else s.req.zoneSerial } := by
  unfold State.performReport State.reportPerformed
  cases q.record <;> rfl

/-- R185: the status record shows the zone report serial at its place. -/
theorem State.statusFields_congr {s t : State} (h : ({ t with req := s.req } : State).statusFields = s.statusFields)
    (causes : t.req.causes = s.req.causes) (mask : t.req.mask = s.req.mask) :
    t.statusFields = s.statusFields ↔ t.req.zoneSerial = s.req.zoneSerial := by
  constructor
  · intro e
    have last : t.statusFields.reverse[2]? = s.statusFields.reverse[2]? := by rw [e]
    simpa [State.statusFields, ← BitVec.toNat_eq] using last
  · intro e
    rw [← h]
    simp only [State.statusFields, causes, mask, e]
    rfl

/-- Settles O21: by what a performed report write leaves, and the marks at the end of its event. -/
theorem reportWritesArePerformed : Obligations.ReportWritesArePerformed := by
  unfold Obligations.ReportWritesArePerformed
  intro s q started idle next waiting
  refine ⟨_, exec_memoryGrant s started, ?_⟩
  rw [s.grant_report q idle next waiting]
  generalize hu : ({ s with port := { s.port with passageRun := 0, lastServed := .report } } : State) = u
  have beside : ({ u.performReport q with req := s.req } : State) = { s with
      mem := s.mem.writeChunks q.chunks, port := { s.port with report := none, passageRun := 0, lastServed := .report } } := by
    rw [u.performReport_beside q s.req, ← hu]
  have left : (u.performReport q).req = { s.req with
      shown := if q.record = .status then s.req.shown ||| (q.shows &&& s.req.causes) else s.req.shown
      zoneSerial := if q.record = .zoneHigh then q.serial else s.req.zoneSerial } := by
    rw [u.performReport_req q, ← hu]
  generalize u.performReport q = t at beside left
  refine ⟨beside, (congrArg RequestUnit.slots left :), (congrArg RequestUnit.causes left :), (congrArg RequestUnit.mask left :),
    (congrArg RequestUnit.statusCount left :), (congrArg RequestUnit.mirrorCounts left :), (congrArg RequestUnit.shown left :),
    (congrArg RequestUnit.zoneSerial left :), fun noMarks => ⟨rfl, ?_⟩⟩
  have marks : t.req.marks = [] := by rw [left]; exact noMarks
  have records : t.changedMirrors s = [] := s.changedMirrors_of_same t fun i => (congrArg (fun x : State => x.record i) beside :)
  have serial : t.statusFields = s.statusFields ↔ ¬ (q.record = .zoneHigh ∧ q.serial ≠ s.req.zoneSerial) := by
    rw [State.statusFields_congr (congrArg State.statusFields beside :) (congrArg RequestUnit.causes left :) (congrArg RequestUnit.mask left :),
      left]
    by_cases high : q.record = .zoneHigh <;> simp [high]
  have list : t.req.reportList = s.req.reportList := (congrArg RequestUnit.reportList left :)
  show (t.eventMarks s).foldl joinReport t.req.reportList = _
  rw [State.eventMarks, marks, records, list]
  by_cases changed : q.record = .zoneHigh ∧ q.serial ≠ s.req.zoneSerial
  · have differs : t.statusFields ≠ s.statusFields := fun e => serial.mp e changed
    rw [if_pos changed, if_pos (by simp [differs])]
    rfl
  · rw [if_neg changed, if_neg (by simp [serial.mpr changed])]
    rfl

/-- Settles O22: by the record at the head of the list. -/
theorem reportsAreIssued : Obligations.ReportsAreIssued := by
  unfold Obligations.ReportsAreIssued
  intro s r rest started idle list
  have issued : exec .reportIssue s = .next s.issueReport := congrArg Host.Outcome.next (if_pos started)
  have head : s.issueReport = (let u := ({ s with req := { s.req with reportList := rest } } : State).countWrite r
      { u with port := { u.port with report := some (u.composeRecord r) } }) := by
    rw [State.issueReport, idle, list]
  rw [issued, head]
  cases r with
  | status =>
    exact ⟨_, _, rfl, rfl, rfl, rfl, rfl, rfl, rfl, rfl, rfl, rfl, rfl, rfl, rfl, fun i => by simp [State.countWrite], fun _ => rfl,
      nofun, nofun, nofun, nofun⟩
  | mirror j =>
    refine ⟨_, _, rfl, rfl, rfl, rfl, rfl, rfl, rfl, rfl, rfl, rfl, rfl, rfl, by simp [State.countWrite], fun i => ?_, nofun,
      fun i hi => ?_, nofun, nofun, nofun⟩
    · by_cases e : j = i
      · subst e; simp [State.countWrite]
      · have : j.val ≠ i.val := fun c => e (Fin.ext c)
        simp [State.countWrite, e, this]
    · obtain rfl : j = i := by simpa using hi
      simp [State.composeRecord, State.recordChunks, State.countWrite, mirrorOffset, State.record]
  | zoneLow =>
    exact ⟨_, _, rfl, rfl, rfl, rfl, rfl, rfl, rfl, rfl, rfl, rfl, rfl, rfl, by simp [State.countWrite], fun i => by simp [State.countWrite],
      nofun, nofun, fun _ => rfl, nofun, nofun⟩
  | zoneHigh =>
    exact ⟨_, _, rfl, rfl, rfl, rfl, rfl, rfl, rfl, rfl, rfl, rfl, rfl, rfl, by simp [State.countWrite], fun i => by simp [State.countWrite],
      nofun, nofun, nofun, fun _ => rfl, nofun⟩
  | slot j =>
    refine ⟨_, _, rfl, rfl, rfl, rfl, rfl, rfl, rfl, rfl, rfl, rfl, rfl, rfl, by simp [State.countWrite], fun i => by simp [State.countWrite],
      nofun, nofun, nofun, nofun, fun i hi => ?_⟩
    obtain rfl : j = i := by simpa using hi
    rfl

/-! ### Bytes written and read back (R27, R29) -/

theorem recordBytes_length (size : Nat) (fields : List Field) : (recordBytes size fields).length = size := by simp [recordBytes]

theorem Memory.readByte_writeMasked (m : Memory) (a : Nat) (bs : List (Option Byte)) (x : Nat) (h : m.wf = true) :
    (m.writeMasked a bs).readByte x = if a ≤ x then (((bs[x - a]?).join).getD (m.readByte x)) else m.readByte x :=
  writtenBytesReadBack m a bs x h

/-- Bytes written whole read back. -/
theorem Memory.readBytes_written (m : Memory) (a : Nat) (bs : List Byte) (h : m.wf = true) :
    (m.writeMasked a (bs.map some)).readBytes a bs.length = bs := by
  refine List.ext_getElem (by simp [Memory.readBytes]) fun i hi hi' => ?_
  simp [Memory.readBytes, m.readByte_writeMasked a _ _ h, hi']

/-- Bytes apart from those written read as before. -/
theorem Memory.readBytes_apart (m : Memory) (a : Nat) (bs : List (Option Byte)) (b n : Nat) (h : m.wf = true)
    (apart : b + n ≤ a ∨ a + bs.length ≤ b) : (m.writeMasked a bs).readBytes b n = m.readBytes b n := by
  refine List.map_congr_left fun i hi => ?_
  have inside : i < n := List.mem_range.mp hi
  rw [m.readByte_writeMasked a _ _ h]
  by_cases before : a ≤ b + i
  · rw [if_pos before, List.getElem?_eq_none (by omega)]
    rfl
  · rw [if_neg before]

/-! ### The reports of the link start (R27, R32, R185) -/

/-- R27: what the writing of a mirror record leaves. -/
theorem State.writeRecord_mirror (s : State) (i : Fin 48) :
    s.writeRecord (.mirror i) = { s with
      mem := s.mem.writeMasked (mirrorOffset i) ((mirrorBytes (s.record i) (s.req.mirrorCounts[i] + 1)).map some)
      port := { s.port with report := none }
      req := { s.req with mirrorCounts := s.req.mirrorCounts.set i (s.req.mirrorCounts[i] + 1) } } := by
  simp [State.writeRecord, State.performReport, State.reportPerformed, State.composeRecord, State.recordChunks, State.countWrite,
    Memory.writeChunks, State.record]

/-- R185: the update count stands outside the fields it counts the writes of. -/
theorem State.statusBytes_countWrite (s : State) (n : Word32) : (s.countWrite .status).statusBytes n = s.statusBytes n := by
  have fields : (s.countWrite .status).statusFields = s.statusFields := rfl
  unfold State.statusBytes
  rw [fields]
  rfl

/-- R185: what the writing of the status record leaves. -/
theorem State.writeRecord_status (s : State) :
    s.writeRecord .status = { s with
      mem := s.mem.writeMasked 0 ((s.statusBytes (s.req.statusCount + 1)).map some)
      port := { s.port with report := none }
      req := { s.req with
        statusCount := s.req.statusCount + 1
        shown := s.req.shown ||| (s.req.causes &&& s.req.causes) } } := by
  have bytes (n : Word32) : (s.countWrite .status).statusBytes n = s.statusBytes n := s.statusBytes_countWrite n
  unfold State.writeRecord State.composeRecord State.recordChunks
  dsimp only
  rw [bytes]
  generalize hb : s.statusBytes (s.countWrite .status).req.statusCount = b
  rw [show s.statusBytes (s.req.statusCount + 1) = b from hb]
  rfl

/-- The mirror records of a list of indices are written. -/
def State.mirrored (s : State) (l : List (Fin 48)) : State := l.foldl (fun u i => u.writeRecord (.mirror i)) s

/-- What the writing of mirror records leaves: DRAM in its form, each count risen and each record in its place. -/
structure State.Mirrored (s : State) (l : List (Fin 48)) (t : State) : Prop where
  beside : ({ t with mem := s.mem, port := s.port, req := s.req } : State) = s
  port : ({ t.port with report := none } : MemoryPort) = { s.port with report := none }
  req : ({ t.req with mirrorCounts := s.req.mirrorCounts } : RequestUnit) = s.req
  memory : s.memoryLaw → t.memoryLaw
  counts : ∀ j, t.req.mirrorCounts[j] = s.req.mirrorCounts[j] + if j ∈ l then 1 else 0
  bytes : s.memoryLaw → ∀ j, t.mem.readBytes (mirrorOffset j) 128 =
    if j ∈ l then mirrorBytes (s.record j) (s.req.mirrorCounts[j] + 1) else s.mem.readBytes (mirrorOffset j) 128

theorem State.mirrored_nil (s : State) : s.Mirrored [] s := ⟨rfl, rfl, rfl, id, fun _ => by simp, fun _ _ => by simp⟩

theorem mirrorOffset_apart {i j : Fin 48} (h : i ≠ j) :
    mirrorOffset j + 128 ≤ mirrorOffset i ∨ mirrorOffset i + 128 ≤ mirrorOffset j := by
  have : i.val ≠ j.val := fun e => h (Fin.ext e)
  unfold mirrorOffset
  omega

/-- R27, R185: the status record lies below the mirror records. -/
theorem statusBelowMirrors (i : Fin 48) : 0 + 256 ≤ mirrorOffset i := by
  unfold mirrorOffset
  omega

/-- R27: one mirror record written before others of other indices. -/
theorem State.mirrored_cons (s t : State) (i : Fin 48) (l : List (Fin 48)) (new : i ∉ l)
    (h : (s.writeRecord (.mirror i)).Mirrored l t) : s.Mirrored (i :: l) t := by
  rw [s.writeRecord_mirror] at h
  obtain ⟨beside, port, req, memory, counts, bytes⟩ := h
  have size : (mirrorBytes (s.record i) (s.req.mirrorCounts[i] + 1)).length = 128 := recordBytes_length _ _
  have written (law : s.memoryLaw) := s.mem.wf_writeMasked (mirrorOffset i)
    ((mirrorBytes (s.record i) (s.req.mirrorCounts[i] + 1)).map some) law
  refine ⟨(congrArg (fun u : State => { u with mem := s.mem, port := s.port, req := s.req }) beside :), port,
    (congrArg (fun r : RequestUnit => { r with mirrorCounts := s.req.mirrorCounts }) req :), fun law => memory (written law),
    fun j => ?_, fun law j => ?_⟩
  · rw [counts j]
    by_cases e : j = i
    · subst e; simp [new]
    · have : i.val ≠ j.val := fun c => e (Fin.ext c.symm)
      simp [e, this]
  · rw [bytes (written law) j]
    by_cases e : j = i
    · subst e
      have back := s.mem.readBytes_written (mirrorOffset j) (mirrorBytes (s.record j) (s.req.mirrorCounts[j] + 1)) law
      rw [size] at back
      simpa [new] using back
    · have other : i.val ≠ j.val := fun c => e (Fin.ext c.symm)
      have apart := s.mem.readBytes_apart (mirrorOffset i) ((mirrorBytes (s.record i) (s.req.mirrorCounts[i] + 1)).map some)
        (mirrorOffset j) 128 law (by rw [List.length_map, size]; exact mirrorOffset_apart (Ne.symm e))
      rw [apart]
      simp [e, other, State.record]

theorem State.mirrored_spec (s : State) (l : List (Fin 48)) (h : l.Nodup) : s.Mirrored l (s.mirrored l) := by
  induction l generalizing s with
  | nil => exact s.mirrored_nil
  | cons i l ih =>
    obtain ⟨new, rest⟩ := List.nodup_cons.mp h
    have first : s.mirrored (i :: l) = (s.writeRecord (.mirror i)).mirrored l := by
      rw [State.mirrored, State.mirrored, List.foldl_cons]
    rw [first]
    exact s.mirrored_cons _ i l new (ih (s.writeRecord (.mirror i)) rest)

/-- R32: the mirror records are written first, the status record last. -/
theorem State.initialReports_eq (s : State) : s.initialReports = (s.mirrored (List.finRange 48)).writeRecord .status := by
  rw [State.initialReports, State.mirrored]

/-- R32: the link start, in terms of the state that the mirror records leave. -/
theorem State.startLink_of (s u : State) (h : s.initialReports = u.writeRecord .status) :
    s.startLink = { u with
      mem := u.mem.writeMasked 0 ((u.statusBytes (u.req.statusCount + 1)).map some)
      link := { u.link with started := true, credits := 32 }
      port := { u.port with report := none, passageRun := 0, lastServed := .report }
      req := { u.req with
        statusCount := u.req.statusCount + 1, shown := u.req.shown ||| (u.req.causes &&& u.req.causes), reportList := [] } } := by
  unfold State.startLink
  rw [h, State.writeRecord_status]

/-- Settles O23: by the 48 mirror records, each in its own place, and the status record written last. -/
theorem linkStartWritesTheReports : Obligations.LinkStartWritesTheReports := by
  unfold Obligations.LinkStartWritesTheReports
  refine ⟨fun s off law => ?_, fun s started => congrArg Host.Outcome.next (if_pos started)⟩
  have start : exec .linkStart s = .next s.startLink := congrArg Host.Outcome.next (if_neg (by simp [off]))
  have left := s.startLink_of _ s.initialReports_eq
  rw [start]
  have spec := s.mirrored_spec _ (List.nodup_finRange 48)
  generalize s.mirrored (List.finRange 48) = u at spec left
  rw [left]
  obtain ⟨beside, port, req, memory, counts, bytes⟩ := spec
  have link := congrArg (fun t : State => { t.link with started := true, credits := 32 }) beside
  have turn := congrArg (fun p : MemoryPort => { p with passageRun := 0, lastServed := .report }) port
  have status : u.statusBytes (u.req.statusCount + 1) = s.statusBytes (s.req.statusCount + 1) := by
    have fields := (State.statusFields_congr (congrArg State.statusFields beside :) (congrArg RequestUnit.causes req :)
      (congrArg RequestUnit.mask req :)).mpr (congrArg RequestUnit.zoneSerial req :)
    have time : u.timeBase = s.timeBase := (congrArg State.timeBase beside :)
    have count : u.req.statusCount = s.req.statusCount := (congrArg RequestUnit.statusCount req :)
    rw [State.statusBytes, fields, time, count, State.statusBytes]
  have size : (s.statusBytes (s.req.statusCount + 1)).length = 256 := recordBytes_length _ _
  have statusBack : (u.mem.writeMasked 0 ((s.statusBytes (s.req.statusCount + 1)).map some)).readBytes 0 256 =
      s.statusBytes (s.req.statusCount + 1) := by
    have back := u.mem.readBytes_written 0 (s.statusBytes (s.req.statusCount + 1)) (memory law)
    rwa [size] at back
  have mirrorBack (i : Fin 48) : (u.mem.writeMasked 0 ((s.statusBytes (s.req.statusCount + 1)).map some)).readBytes (mirrorOffset i) 128 =
      mirrorBytes (s.record i) (s.req.mirrorCounts[i] + 1) := by
    rw [u.mem.readBytes_apart 0 _ (mirrorOffset i) 128 (memory law) (.inr (by rw [List.length_map, size]; exact statusBelowMirrors i)),
      bytes law i, if_pos (List.mem_finRange i)]
  have risen (i : Fin 48) : u.req.mirrorCounts[i] = s.req.mirrorCounts[i] + 1 := by rw [counts i, if_pos (List.mem_finRange i)]
  have rest := congrArg (fun t : State => { t with link := s.link }) beside
  have statusCount := congrArg (fun r : RequestUnit => r.statusCount + 1) req
  have causes := congrArg RequestUnit.causes req
  have mask := congrArg RequestUnit.mask req
  have slots := congrArg RequestUnit.slots req
  rw [status]
  generalize u.mem.writeMasked 0 ((s.statusBytes (s.req.statusCount + 1)).map some) = m at statusBack mirrorBack
  exact ⟨_, rfl, link, turn, statusCount, risen, rfl, rest, causes, mask, slots, statusBack, mirrorBack⟩

end Sys2Proof.Machine
end

section
/-! SUPPORT. What the shot table, the develop engine and the tether port leave alone: the release unit, the frame intake, the
extractor and focus control. -/

namespace Sys2Proof.Machine

/-- The release unit, the frame intake, the extractor and focus control stay. -/
structure State.Aside (s t : State) : Prop where
  release : t.release = s.release
  intake : t.intake = s.intake
  phase : t.phase = s.phase
  focus : t.focus = s.focus

theorem State.Aside.refl (s : State) : s.Aside s := ⟨rfl, rfl, rfl, rfl⟩

theorem State.Aside.trans {s t u : State} (h : s.Aside t) (k : t.Aside u) : s.Aside u :=
  ⟨k.release.trans h.release, k.intake.trans h.intake, k.phase.trans h.phase, k.focus.trans h.focus⟩

theorem State.Aside.ite {s t u : State} (p : Prop) [Decidable p] (ht : s.Aside t) (hu : s.Aside u) : s.Aside (if p then t else u) := by
  split
  · exact ht
  · exact hu

theorem State.Aside.foldl {α : Type} {f : State → α → State} (hf : ∀ (s : State) (a : α), s.Aside (f s a)) (l : List α) (s : State) :
    s.Aside (l.foldl f s) := by
  induction l generalizing s with
  | nil => exact .refl s
  | cons a l ih => exact (hf s a).trans (ih _)

section Blocks

variable (s : State)

theorem State.aside_pool (x : Pool) : s.Aside { s with pool := x } := ⟨rfl, rfl, rfl, rfl⟩
theorem State.aside_shots (x : ShotTable) : s.Aside { s with shots := x } := ⟨rfl, rfl, rfl, rfl⟩
theorem State.aside_engine (x : Engine) : s.Aside { s with engine := x } := ⟨rfl, rfl, rfl, rfl⟩
theorem State.aside_queue (x : TetherQueue) : s.Aside { s with queue := x } := ⟨rfl, rfl, rfl, rfl⟩
theorem State.aside_tport (x : TetherPort) : s.Aside { s with tport := x } := ⟨rfl, rfl, rfl, rfl⟩
theorem State.aside_raise (c : Cause) : s.Aside (s.raise c) := ⟨rfl, rfl, rfl, rfl⟩
theorem State.aside_mark (r : ReportRecord) : s.Aside (s.mark r) := ⟨rfl, rfl, rfl, rfl⟩
theorem State.aside_complete (i : Fin 8) (c : ResultCode) (b : Beat) : s.Aside (s.complete i c b) := ⟨rfl, rfl, rfl, rfl⟩
theorem State.aside_modifyShot (i : Fin 48) (f : Shot → Shot) : s.Aside (s.modifyShot i f) := ⟨rfl, rfl, rfl, rfl⟩
theorem State.aside_modifyItem (f : Item → Item) : s.Aside (s.modifyItem f) := ⟨rfl, rfl, rfl, rfl⟩
theorem State.aside_setPort (p : PortState) : s.Aside (s.setPort p) := ⟨rfl, rfl, rfl, rfl⟩
theorem State.aside_portIdle : s.Aside s.portIdle := ⟨rfl, rfl, rfl, rfl⟩
theorem State.aside_abandonRaw : s.Aside s.abandonRaw := ⟨rfl, rfl, rfl, rfl⟩
theorem State.aside_streamEnd : s.Aside s.streamEnd := ⟨rfl, rfl, rfl, rfl⟩
theorem State.aside_endItem : s.Aside s.endItem := ⟨rfl, rfl, rfl, rfl⟩
theorem State.aside_startFill (p : Fin 4) (k : Key) (g : Geometry) : s.Aside (s.startFill p k g) := ⟨rfl, rfl, rfl, rfl⟩
theorem State.aside_releaseReservation : s.Aside s.releaseReservation := ⟨rfl, rfl, rfl, rfl⟩
theorem State.aside_openShot (i : Fin 48) (c : Fin 4) (p : Capture) (d : Destiny) : s.Aside (s.openShot i c p d) := by
  unfold State.openShot
  dsimp only
  generalize s.newNumber = n
  exact ⟨rfl, rfl, rfl, rfl⟩

/-! ### Engine -/

theorem State.aside_answerLane (f : LaneRead → List Byte) : s.Aside (s.answerLane f) := by
  unfold State.answerLane
  split
  · exact .refl s
  · exact ⟨rfl, rfl, rfl, rfl⟩

theorem State.aside_endRun : s.Aside s.endRun := by
  unfold State.endRun
  split
  · exact .refl s
  · split
    · exact (s.aside_engine _).trans (State.aside_answerLane _ _)
    · exact s.aside_engine _

theorem State.aside_dropFreedShot (i : Fin 48) (n : Nat) : s.Aside (s.dropFreedShot i n) :=
  .ite _ ((s.aside_engine _).trans (State.aside_endRun _)) (s.aside_engine _)

theorem State.aside_dropLive (f : Fin 2 → Bool) : s.Aside (s.dropLive f) :=
  .ite _ ((s.aside_engine _).trans (State.aside_endRun _)) (s.aside_engine _)

theorem State.aside_prefetch (k : Key) (g : Geometry) : s.Aside (s.prefetch k g) := by
  unfold State.prefetch State.tryFill
  refine .ite _ ?_ (.refl s)
  split
  · exact (s.aside_engine _).trans (State.aside_startFill _ _ _ _)
  · exact .refl s

theorem State.aside_completeRun (r : Run) (p : Fin 4) (d : List Byte) : s.Aside (s.completeRun r p d) := by
  have done := s.aside_engine { s.engine with run := none, recency := p :: dropElem p s.engine.recency }
  unfold State.completeRun
  dsimp only
  split
  · have answered := done.trans (State.aside_answerLane _ fun q => q.fromRun (developRun r.geom r.profile d r.run))
    exact .ite _ (answered.trans (State.aside_prefetch _ _ _)) answered
  · exact done.trans (State.aside_engine _ _)

theorem State.aside_takeStreamRun (t : Stream) : s.Aside (s.takeStreamRun t) :=
  .ite _ ((s.aside_engine _).trans (State.aside_prefetch _ _ _)) (s.aside_engine _)

theorem State.aside_pickRun (t : State) (h : s.pickRun = some t) : s.Aside t := by
  unfold State.pickRun at h
  split at h
  · split at h
    · cases h; exact s.aside_engine _
    · cases h; exact s.aside_answerLane _
  · split at h
    · cases h; exact s.aside_takeStreamRun _
    · cases h

theorem State.aside_engineAct (t : State) (h : s.engineAct = some t) : s.Aside t := by
  unfold State.engineAct at h
  split at h
  · exact s.aside_pickRun t h
  · split at h
    · split at h
      · cases h; exact s.aside_completeRun _ _ _
      · cases h
    · split at h
      · cases h; exact (s.aside_engine _).trans (State.aside_startFill _ _ _ _)
      · cases h

theorem State.aside_engineActs (n : Nat) (s : State) : s.Aside (s.engineActs n) := by
  induction n generalizing s with
  | zero => exact .refl s
  | succ n ih =>
    unfold State.engineActs
    split
    · rename_i h
      exact (s.aside_engineAct _ h).trans (ih _)
    · exact .refl s

/-! ### Shots -/

theorem State.aside_dropItemPages (r : ShotRef) : s.Aside (s.dropItemPages r) := by
  unfold State.dropItemPages
  split
  · exact .ite _ s.aside_abandonRaw (.refl s)
  · exact .refl s

theorem State.aside_freeShot (i : Fin 48) : s.Aside (s.freeShot i) := by
  unfold State.freeShot
  split
  · exact .refl s
  · exact (((s.aside_pool _).trans (State.aside_dropFreedShot _ _ _)).trans (State.aside_dropItemPages _ _)).trans (State.aside_shots _ _)

theorem State.aside_evict (i : Fin 48) : s.Aside (s.evict i) := (s.aside_freeShot i).trans (State.aside_raise _ _)

theorem State.aside_depthCheck : s.Aside s.depthCheck := .foldl State.aside_evict _ s

theorem State.aside_makeRoom (n : Nat) (l : List (Fin 48)) (s : State) : s.Aside (s.makeRoom n l) := by
  induction l generalizing s with
  | nil => exact .refl s
  | cons i l ih => exact .ite _ (.refl s) ((s.aside_evict i).trans (ih _))

theorem State.aside_freeingCheck (i : Fin 48) : s.Aside (s.freeingCheck i) := by
  unfold State.freeingCheck
  split
  · exact .refl s
  · split
    · exact .ite _ (s.aside_freeShot i) (.refl s)
    · exact .ite _ (s.aside_freeShot i) (.refl s)
    · exact .ite _ s.aside_depthCheck (.refl s)
    · exact .refl s

theorem State.aside_enqueue (i : Fin 48) (b : Bool) : s.Aside (s.enqueue i b) := by
  unfold State.enqueue
  split
  · split
    · exact ⟨rfl, rfl, rfl, rfl⟩
    · exact .refl s
  · exact .refl s

theorem State.aside_becomeKept (i : Fin 48) : s.Aside (s.becomeKept i) := by
  have kept : s.Aside (((s.modifyShot i Shot.kept).enqueue i false).raise .shotKept) :=
    ((s.aside_modifyShot i _).trans (State.aside_enqueue _ i false)).trans (State.aside_raise _ _)
  unfold State.becomeKept
  dsimp only
  split
  · exact .ite _ (kept.trans (State.aside_freeShot _ i)) kept
  · exact kept

theorem State.aside_modifyFilling (f : Shot → Shot) : s.Aside (s.modifyFilling f) := by
  unfold State.modifyFilling
  split
  · exact s.aside_modifyShot _ _
  · exact .refl s

theorem State.aside_promote : s.Aside s.promote :=
  ((State.Aside.foldl State.aside_becomeKept _ s).trans (State.aside_shots _ _)).trans (State.aside_modifyFilling _ _)

theorem State.aside_lapseShot (i : Fin 48) : s.Aside (s.lapseShot i) := .ite _ (s.aside_freeShot i) (s.aside_modifyShot i _)

theorem State.aside_lapse : s.Aside s.lapse :=
  ((State.Aside.foldl State.aside_lapseShot _ s).trans (State.aside_shots _ _)).trans (State.aside_modifyFilling _ _)

theorem State.aside_completeShot (i : Fin 48) : s.Aside (s.completeShot i) := by
  have released := s.aside_releaseReservation
  unfold State.completeShot
  dsimp only
  split
  · exact released
  · exact .ite _ (released.trans (State.aside_freeShot _ i)) (.ite _ (released.trans (State.aside_becomeKept _ i))
      (((released.trans (State.aside_modifyShot _ i _)).trans (State.aside_shots _ _)).trans (State.aside_depthCheck _)))

theorem State.aside_abortShot (i : Fin 48) : s.Aside (s.abortShot i) := by
  unfold State.abortShot
  split
  · exact s.aside_releaseReservation
  · exact (((s.aside_pool _).trans (State.aside_releaseReservation _)).trans (State.aside_modifyShot _ i _)).trans
      (State.aside_freeShot _ i)

/-! ### Tether port -/

theorem State.aside_feedPlace (i : Fin 2) : s.Aside (s.feedPlace i) := by
  unfold State.feedPlace
  split
  · exact .refl s
  · refine .ite _ ?_ (.refl s)
    dsimp only
    split <;> exact ⟨rfl, rfl, rfl, rfl⟩

theorem State.aside_feedRaw : s.Aside s.feedRaw := (s.aside_feedPlace 0).trans (State.aside_feedPlace _ 1)

theorem State.aside_driveUnit (it : Item) (w : Word16) (n : Nat) : s.Aside (s.driveUnit it w n) := ⟨rfl, rfl, rfl, rfl⟩

theorem State.aside_beginUnit (n : Nat) : s.Aside (s.beginUnit n) := by
  unfold State.beginUnit
  split
  · exact .refl s
  · split
    · exact .ite _ (s.aside_modifyItem _) (s.aside_driveUnit _ _ _)
    · exact .ite _ ((s.aside_modifyItem _).trans (State.aside_driveUnit _ _ _ _)) (s.aside_modifyItem _)

theorem State.aside_takeItem (r : ShotRef) (x : Shot) (t : TetherPart) : s.Aside (s.takeItem r x t) := by
  unfold State.takeItem
  dsimp only
  have taken := ((s.aside_queue (s.queue.leave r)).trans (State.aside_modifyShot _ r.index fun x => x.withTetherState .sending))
  refine State.Aside.trans ?_ (State.aside_beginUnit _ _)
  split
  · exact (taken.trans (State.aside_tport _ _)).trans (State.aside_engine _ _)
  · exact (taken.trans (State.aside_tport _ _)).trans (State.aside_feedRaw _)

theorem State.aside_takeNext : s.Aside s.takeNext := by
  unfold State.takeNext
  refine .ite _ ?_ (.refl s)
  split
  · exact .refl s
  · split
    · split
      · exact s.aside_takeItem _ _ _
      · exact .refl s
    · exact .refl s

theorem State.aside_resumeUnit : s.Aside s.resumeUnit := by
  unfold State.resumeUnit
  split
  · exact .refl s
  · exact .ite _ (s.aside_beginUnit _) (.refl s)

end Blocks

/-- What follows an event, after the release unit has acted: the taking of an item, the engine and the waiting unit. -/
def State.serveOut (s : State) : State := ((s.takeNext).engineSettle).resumeUnit

theorem State.settle_eq (s old : State) : s.settle old = ((s.deriveFocus).updateRelease old).serveOut := rfl

theorem State.aside_serveOut (s : State) : s.Aside s.serveOut :=
  (s.aside_takeNext.trans (State.aside_engineActs 128 _)).trans (State.aside_resumeUnit _)

/-! ### The release unit's switches -/

/-- The debouncers and the active capture profile stay. -/
structure State.Switches (s t : State) : Prop where
  lines : ∀ l, t.debouncer l = s.debouncer l
  active : t.release.active = s.release.active

theorem State.Aside.switches {s t : State} (h : s.Aside t) : s.Switches t :=
  ⟨fun l => by cases l <;> simp only [State.debouncer, h.release], by rw [h.release]⟩

theorem State.Switches.refl (s : State) : s.Switches s := (State.Aside.refl s).switches

theorem State.Switches.trans {s t u : State} (h : s.Switches t) (k : t.Switches u) : s.Switches u :=
  ⟨fun l => (k.lines l).trans (h.lines l), k.active.trans h.active⟩

theorem State.Switches.ite {s t u : State} (p : Prop) [Decidable p] (ht : s.Switches t) (hu : s.Switches u) :
    s.Switches (if p then t else u) := by
  split
  · exact ht
  · exact hu

section Release

variable (s old : State)

/-- A change of the release unit that leaves the debouncers and the active profile alone. -/
theorem State.switches_release (x : ReleaseUnit) (same : (x.s1, x.s2, x.remote, x.lready, x.active) =
    (s.release.s1, s.release.s2, s.release.remote, s.release.lready, s.release.active) := by rfl) :
    s.Switches { s with release := x } := by
  obtain ⟨e1, e2, e3, e4, e5⟩ : x.s1 = _ ∧ x.s2 = _ ∧ x.remote = _ ∧ x.lready = _ ∧ x.active = _ := by
    simpa only [Prod.mk.injEq] using same
  exact ⟨fun l => by cases l; exacts [e1, e2, e3, e4], e5⟩

theorem State.switches_openFrame (k : FrameKind) (g : Geometry) : s.Switches (s.openFrame k g) :=
  ⟨fun l => by cases l <;> rfl, rfl⟩

theorem State.switches_liveFallsDue (due : Nat) : s.Switches (s.liveFallsDue due) :=
  .ite _ (((s.switches_release _).trans (State.aside_dropLive _ _).switches).trans (State.switches_openFrame _ _ _)) (s.switches_release _)

theorem State.switches_syncLive : s.Switches (s.syncLive old) :=
  .ite _ (s.switches_liveFallsDue _) (.ite _ (.refl s) (s.switches_release _))

theorem State.switches_deriveRelease : s.Switches (s.deriveRelease old) :=
  ((s.switches_release { s.release with state := s.releaseStateNow }).trans (.ite _ (State.switches_release _ _) (.refl _))).trans
    (State.switches_syncLive _ _)

theorem State.switches_fireShot (k : TriggerKind) : s.Switches (s.fireShot k) := by
  unfold State.fireShot
  split
  · exact ((s.aside_openShot _ _ _ _).switches.trans (State.switches_release _ _)).trans (State.switches_openFrame _ _ _)
  · exact .refl s

theorem State.switches_waitFor (r : WaitReason) : s.Switches (s.waitFor r) :=
  .ite _ ((s.switches_release _).trans (State.aside_raise _ _).switches) (s.switches_release _)

theorem State.aside_roomFor (k : TriggerKind) : s.Aside (s.roomFor k) := .ite _ (State.aside_makeRoom _ _ s) (.refl s)

theorem State.switches_testTrigger (k : TriggerKind) : s.Switches (s.testTrigger k) := by
  have room := (s.aside_roomFor k).switches
  unfold State.testTrigger
  dsimp only
  split
  · exact (room.trans (State.switches_fireShot _ k)).trans (State.switches_deriveRelease _ _)
  · exact (room.trans (State.switches_waitFor _ _)).trans (State.switches_syncLive _ _)

theorem State.switches_updateRelease : s.Switches (s.updateRelease old) := by
  have derived := s.switches_deriveRelease old
  have tested := fun k => derived.trans (State.switches_testTrigger _ k)
  unfold State.updateRelease
  dsimp only
  split
  · exact derived
  · exact .ite _ (.ite _ (tested _) derived) (.ite _ (tested _) derived)

theorem State.switches_settle : s.Switches (s.settle old) := by
  have focused : s.Switches s.deriveFocus := ⟨fun l => by cases l <;> rfl, rfl⟩
  exact (focused.trans (State.switches_updateRelease _ old)).trans (State.aside_serveOut _).switches

theorem State.switches_requestBurst : s.Switches s.requestBurst :=
  .ite _ (s.aside_raise _).switches (.ite _ (.refl s) (.ite _ (s.aside_raise _).switches (s.switches_release _)))

theorem State.switches_pressEvents : s.Switches (s.pressEvents old) := by
  have pressed : s.Switches (if !old.fullPress && s.fullPress then s.promote.requestBurst else s) :=
    .ite _ (s.aside_promote.switches.trans (State.switches_requestBurst _)) (.refl s)
  have dropped (u : State) (h : s.Switches u) : s.Switches (if old.fullPress && !s.fullPress then u.dropBurst old else u) :=
    .ite _ (h.trans (.ite _ (u.switches_release _) (.refl u))) h
  have both := dropped _ pressed
  exact .ite _ (both.trans (State.aside_lapse _).switches) both

theorem State.aside_loseLens : s.Aside s.loseLens := by
  unfold State.loseLens
  dsimp only
  split
  · exact ⟨rfl, rfl, rfl, rfl⟩
  · exact ⟨rfl, rfl, rfl, rfl⟩

/-- R51: a counted change sets its debouncer, and no operation after it touches one. -/
theorem State.switches_countChange (l : Line) :
    (s.setDebouncer l { active := !(s.debouncer l).active, since := none }).Switches (s.countChange l) := by
  unfold State.countChange
  cases l
  · exact State.switches_pressEvents _ _
  · exact State.switches_pressEvents _ _
  · exact State.switches_pressEvents _ _
  · exact .ite _ (.refl _) (State.aside_loseLens _).switches

end Release

end Sys2Proof.Machine
end

section
/-! SUPPORT. What stays beyond the engine, the lanes and the ports, and what the release unit does with a frame in flight. -/

namespace Sys2Proof.Machine

/-- Only the engine, the link, the memory port and the tether port differ. -/
def State.Beyond (s t : State) : Prop := ({ t with engine := s.engine, link := s.link, port := s.port, tport := s.tport } : State) = s

section Fields

variable {s t u : State}

theorem State.Beyond.refl (s : State) : s.Beyond s := rfl

theorem State.Beyond.trans (h : s.Beyond t) (k : t.Beyond u) : s.Beyond u :=
  (congrArg (fun x : State => ({ x with engine := s.engine, link := s.link, port := s.port, tport := s.tport } : State)) k).trans h

theorem State.Beyond.ite (p : Prop) [Decidable p] (ht : s.Beyond t) (hu : s.Beyond u) : s.Beyond (if p then t else u) := by
  split
  · exact ht
  · exact hu

theorem State.Beyond.time (h : s.Beyond t) : t.time = s.time := (congrArg State.time h :)
theorem State.Beyond.mem (h : s.Beyond t) : t.mem = s.mem := (congrArg State.mem h :)
theorem State.Beyond.pins (h : s.Beyond t) : t.pins = s.pins := (congrArg State.pins h :)
theorem State.Beyond.windows (h : s.Beyond t) : t.windows = s.windows := (congrArg State.windows h :)
theorem State.Beyond.pool (h : s.Beyond t) : t.pool = s.pool := (congrArg State.pool h :)
theorem State.Beyond.shots (h : s.Beyond t) : t.shots = s.shots := (congrArg State.shots h :)
theorem State.Beyond.release (h : s.Beyond t) : t.release = s.release := (congrArg State.release h :)
theorem State.Beyond.intake (h : s.Beyond t) : t.intake = s.intake := (congrArg State.intake h :)
theorem State.Beyond.phase (h : s.Beyond t) : t.phase = s.phase := (congrArg State.phase h :)
theorem State.Beyond.focus (h : s.Beyond t) : t.focus = s.focus := (congrArg State.focus h :)
theorem State.Beyond.lens (h : s.Beyond t) : t.lens = s.lens := (congrArg State.lens h :)
theorem State.Beyond.tables (h : s.Beyond t) : t.tables = s.tables := (congrArg State.tables h :)
theorem State.Beyond.queue (h : s.Beyond t) : t.queue = s.queue := (congrArg State.queue h :)
theorem State.Beyond.req (h : s.Beyond t) : t.req = s.req := (congrArg State.req h :)
theorem State.Beyond.pending (h : s.Beyond t) : t.pending = s.pending := (congrArg State.pending h :)
theorem State.Beyond.record (h : s.Beyond t) (i : Fin 48) : t.record i = s.record i := by rw [State.record, h.shots]; rfl

end Fields

section Walk

variable (s : State)

theorem State.beyond_engine (x : Engine) : s.Beyond { s with engine := x } := rfl
theorem State.beyond_link (x : LinkPort) : s.Beyond { s with link := x } := rfl
theorem State.beyond_port (x : MemoryPort) : s.Beyond { s with port := x } := rfl
theorem State.beyond_tport (x : TetherPort) : s.Beyond { s with tport := x } := rfl

theorem State.beyond_answerLane (f : LaneRead → List Byte) : s.Beyond (s.answerLane f) := by
  unfold State.answerLane
  split <;> rfl

theorem State.beyond_endRun : s.Beyond s.endRun := by
  unfold State.endRun
  split
  · rfl
  · split
    · exact (s.beyond_engine _).trans (State.beyond_answerLane _ _)
    · rfl

theorem State.beyond_dropFreedShot (i : Fin 48) (n : Nat) : s.Beyond (s.dropFreedShot i n) :=
  .ite _ ((s.beyond_engine _).trans (State.beyond_endRun _)) (s.beyond_engine _)

theorem State.beyond_dropLive (f : Fin 2 → Bool) : s.Beyond (s.dropLive f) :=
  .ite _ ((s.beyond_engine _).trans (State.beyond_endRun _)) (s.beyond_engine _)

theorem State.beyond_prefetch (k : Key) (g : Geometry) : s.Beyond (s.prefetch k g) := by
  unfold State.prefetch State.tryFill
  refine .ite _ ?_ (.refl s)
  split <;> rfl

theorem State.beyond_completeRun (r : Run) (p : Fin 4) (d : List Byte) : s.Beyond (s.completeRun r p d) := by
  have done := s.beyond_engine { s.engine with run := none, recency := p :: dropElem p s.engine.recency }
  unfold State.completeRun
  dsimp only
  split
  · have answered := done.trans (State.beyond_answerLane _ fun q => q.fromRun (developRun r.geom r.profile d r.run))
    exact .ite _ (answered.trans (State.beyond_prefetch _ _ _)) answered
  · rfl

theorem State.beyond_takeStreamRun (t : Stream) : s.Beyond (s.takeStreamRun t) :=
  .ite _ ((s.beyond_engine _).trans (State.beyond_prefetch _ _ _)) (s.beyond_engine _)

theorem State.beyond_pickRun (t : State) (h : s.pickRun = some t) : s.Beyond t := by
  unfold State.pickRun at h
  split at h
  · split at h
    · cases h; rfl
    · cases h; exact s.beyond_answerLane _
  · split at h
    · cases h; exact s.beyond_takeStreamRun _
    · cases h

theorem State.beyond_engineAct (t : State) (h : s.engineAct = some t) : s.Beyond t := by
  unfold State.engineAct at h
  split at h
  · exact s.beyond_pickRun t h
  · split at h
    · split at h
      · cases h; exact s.beyond_completeRun _ _ _
      · cases h
    · split at h
      · cases h; rfl
      · cases h

theorem State.beyond_engineActs (n : Nat) (s : State) : s.Beyond (s.engineActs n) := by
  induction n generalizing s with
  | zero => exact .refl s
  | succ n ih =>
    unfold State.engineActs
    split
    · rename_i h
      exact (s.beyond_engineAct _ h).trans (ih _)
    · exact .refl s

theorem State.beyond_dropItemPages (r : ShotRef) : s.Beyond (s.dropItemPages r) := by
  unfold State.dropItemPages
  split
  · exact .ite _ rfl rfl
  · rfl

theorem State.beyond_beginUnit (n : Nat) : s.Beyond (s.beginUnit n) := by
  unfold State.beginUnit
  split
  · rfl
  · split
    · exact .ite _ rfl rfl
    · exact .ite _ rfl rfl

theorem State.beyond_resumeUnit : s.Beyond s.resumeUnit := by
  unfold State.resumeUnit
  split
  · rfl
  · exact .ite _ (s.beyond_beginUnit _) rfl

theorem State.takeNext_of_busy (h : s.tport.state ≠ .idle ∨ s.queue.order = []) : s.takeNext = s := by
  unfold State.takeNext
  rcases h with busy | empty
  · rw [if_neg busy]
  · split
    · rw [empty]
    · rfl

/-- With nothing for the port to take, what follows an event after the release unit touches the engine and the ports only. -/
theorem State.beyond_serveOut (h : s.tport.state ≠ .idle ∨ s.queue.order = []) : s.Beyond s.serveOut := by
  rw [State.serveOut, s.takeNext_of_busy h]
  exact (State.beyond_engineActs 128 s).trans (State.beyond_resumeUnit _)

theorem State.engineSettle_of_idle (h : s.engineIdle) : s.engineSettle = s := by
  obtain ⟨noRun, noStream, noRead⟩ := h
  have act : s.engineAct = none := by simp [State.engineAct, noRun, State.pickRun, noRead, State.streamWants, noStream]
  show s.engineActs (127 + 1) = s
  simp only [State.engineActs, act]

theorem State.resumeUnit_of_quiet (h : s.tport.item.map (·.step) ≠ some .waitWord) : s.resumeUnit = s := by
  unfold State.resumeUnit
  split
  · rfl
  · rename_i it held
    exact if_neg fun c => h (by rw [held]; exact congrArg some c.1)

/-- A quiet port and an idle engine bring nothing about. -/
theorem State.serveOut_of_quiet (port : s.portQuiet) (engine : s.engineIdle) : s.serveOut = s := by
  rw [State.serveOut, s.takeNext_of_busy port.1, s.engineSettle_of_idle engine, s.resumeUnit_of_quiet port.2]

/-- R15: what freeing leaves beyond the engine and the ports. -/
theorem State.freeShot_beyond (i : Fin 48) (x : Shot) (h : s.record i = some x) :
    ({ s with
      pool := { s.pool with free := s.pool.free ++ x.pages }
      shots := { s.shots with records := s.shots.records.set i none, preList := dropElem i s.shots.preList } } : State).Beyond
      (s.freeShot i) := by
  rw [s.freeShot_of_used i x h]
  have disowned : ({ s with pool := { s.pool with free := s.pool.free ++ x.pages } } : State).Beyond (s.disowned i x) :=
    (State.beyond_dropFreedShot _ _ _).trans (State.beyond_dropItemPages _ _)
  exact (congrArg (fun u : State => ({ u with shots := { s.shots with
    records := s.shots.records.set i none, preList := dropElem i s.shots.preList } } : State)) disowned :)

end Walk

/-! ### The release unit with a frame in flight (R57, R65) -/

/-- The release state, the waiting trigger and the live timer replaced: all that the release unit changes with a frame in flight. -/
def State.awaiting (s : State) (st : ReleaseState) (w : Option WaitReason) (due : Option Nat) : State :=
  { s with release := { s.release with state := st, waiting := w, liveTimer := due } }

section Framed

variable (s old : State)

theorem State.liveFallsDue_of_frame (due : Nat) (h : s.intake.frame.isSome = true) :
    s.liveFallsDue due = s.awaiting s.release.state s.release.waiting (some (due + s.tables.timing.livePeriod)) := by
  have inFlight : s.intake.frame.isNone = false := by simpa using h
  exact if_neg (by simp [inFlight])

theorem State.syncLive_of_frame (h : s.intake.frame.isSome = true) :
    ∃ due, s.syncLive old = s.awaiting s.release.state s.release.waiting due := by
  unfold State.syncLive
  split
  · exact ⟨_, s.liveFallsDue_of_frame _ h⟩
  · split
    · exact ⟨s.release.liveTimer, rfl⟩
    · exact ⟨none, rfl⟩

theorem State.deriveRelease_of_frame (h : s.intake.frame.isSome = true) :
    ∃ w due, s.deriveRelease old = s.awaiting s.releaseStateNow w due := by
  unfold State.deriveRelease State.dropUnwanted
  split
  · obtain ⟨due, e⟩ := State.syncLive_of_frame (s.awaiting s.releaseStateNow none s.release.liveTimer) old h
    exact ⟨none, due, e⟩
  · obtain ⟨due, e⟩ := State.syncLive_of_frame (s.awaiting s.releaseStateNow s.release.waiting s.release.liveTimer) old h
    exact ⟨s.release.waiting, due, e⟩

theorem State.testTrigger_of_frame (k : TriggerKind) (h : s.intake.frame.isSome = true) :
    ∃ w due, s.testTrigger k = s.awaiting s.release.state w due := by
  have noRoom : s.roomFor k = s := by
    have inFlight : s.intake.frame.isNone = false := by simpa using h
    simp [State.roomFor, inFlight]
  have waits : s.failing k = some .frame := by rw [State.failing, if_pos h]
  obtain ⟨due, e⟩ := State.syncLive_of_frame (s.awaiting s.release.state (some .frame) s.release.liveTimer) s h
  refine ⟨some .frame, due, ?_⟩
  rw [State.testTrigger, noRoom, waits]
  exact e

/-- With a frame in flight the release unit changes its state, its waiting trigger and the live timer, and fires nothing. -/
theorem State.updateRelease_of_frame (h : s.intake.frame.isSome = true) :
    ∃ w due, s.updateRelease old = s.awaiting s.releaseStateNow w due := by
  obtain ⟨w, due, derived⟩ := s.deriveRelease_of_frame old h
  have tested (k : TriggerKind) : ∃ w' due', (s.awaiting s.releaseStateNow w due).testTrigger k = s.awaiting s.releaseStateNow w' due' :=
    State.testTrigger_of_frame (s.awaiting s.releaseStateNow w due) k h
  unfold State.updateRelease
  rw [derived]
  dsimp only
  split
  · exact ⟨w, due, rfl⟩
  · rename_i k _
    split
    · split
      · exact tested k
      · exact ⟨w, due, rfl⟩
    · split
      · exact tested k
      · exact ⟨w, due, rfl⟩

/-- What follows an event while a frame is in flight, up to what the port and the engine do. -/
theorem State.settle_of_frame (h : s.intake.frame.isSome = true) :
    ∃ w due, s.settle old = (s.deriveFocus.awaiting s.deriveFocus.releaseStateNow w due).serveOut := by
  obtain ⟨w, due, e⟩ := State.updateRelease_of_frame s.deriveFocus old h
  exact ⟨w, due, by rw [State.settle_eq, e]⟩

end Framed

/-! ### Events of a line -/

theorem State.settle_backdrop (s old : State) : s.backdrop (s.settle old) :=
  have steady := s.steady_settle old
  ⟨steady.time, steady.mem, steady.pins, steady.tables, steady.pending⟩

theorem State.backdrop_trans {s t u : State} (h : s.backdrop t) (k : t.backdrop u) : s.backdrop u := by
  obtain ⟨time, mem, pins, tables, pending⟩ := h
  obtain ⟨time', mem', pins', tables', pending'⟩ := k
  exact ⟨time'.trans time, mem'.trans mem, pins'.trans pins, tables'.trans tables, pending'.trans pending⟩

theorem State.Steady.backdrop {s t : State} (h : s.Steady t) : s.backdrop t := ⟨h.time, h.mem, h.pins, h.tables, h.pending⟩

end Sys2Proof.Machine
end

section
/-! SUPPORT. The input lines, the lens drive and the timers: debounce, steps, homing, pulses and the loss of the lens. -/

namespace Sys2Proof.Machine

theorem State.pendingCause_finishEvent (s old : State) (c : Cause) : (s.finishEvent old).pendingCause c = s.pendingCause c := rfl

/-! ### Debounce (R51, R110) -/

theorem State.debouncer_withPins (s : State) (p : Pins) (l : Line) : ({ s with pins := p } : State).debouncer l = s.debouncer l := by
  cases l <;> rfl

theorem State.setDebouncer_other (s : State) (l l' : Line) (d : Debouncer) (h : l' ≠ l) :
    (s.setDebouncer l d).debouncer l' = s.debouncer l' := by
  cases l <;> cases l' <;> first | rfl | exact absurd rfl h

theorem State.setDebouncer_debounceTime (s : State) (l : Line) (d : Debouncer) :
    (s.setDebouncer l d).debounceTime l = s.debounceTime l := by cases l <;> rfl

/-- R51: whether a difference has lasted, from the debouncer as set. -/
theorem State.debounceOver_setDebouncer (s : State) (l : Line) (d : Debouncer) :
    (s.setDebouncer l d).debounceOver l = match d.since with
      | some t => decide (t + s.debounceTime l ≤ s.now)
      | none => false := by
  unfold State.debounceOver
  rw [State.setDebouncer_same, State.setDebouncer_debounceTime, State.now, State.setDebouncer_time]
  rfl

/-- A debouncer is no part of what `became` compares beside itself. -/
theorem State.became_setDebouncer (s u : State) (l : Line) (d : Debouncer) (h : u.req = s.req) :
    s.became ((u.setDebouncer l d).finishEvent s) (u.setDebouncer l d) 0 := by
  refine ⟨rfl, ?_⟩
  show (u.setDebouncer l d).req.causes = _
  rw [State.setDebouncer_req, h]
  exact (BitVec.or_zero).symm

/-- What a counted change leaves alone: time, DRAM, pins, tables and the waiting commands. -/
theorem State.backdrop_countChange (s : State) (l : Line) : s.backdrop (s.countChange l) := by
  have set : s.backdrop (s.setDebouncer l { active := !(s.debouncer l).active, since := none }) := by cases l <;> exact s.backdrop_refl
  unfold State.countChange
  cases l with
  | lready =>
    refine State.backdrop_trans set ?_
    dsimp only
    split
    · exact State.backdrop_refl _
    · unfold State.loseLens
      dsimp only
      split <;> exact State.backdrop_refl _
  | s1 | s2 | remote => exact State.backdrop_trans set (State.steady_pressEvents _ _).backdrop

/-- R51: a change that counts takes the new value in its debouncer, and the others stay. -/
theorem State.countAndSettle_lines (s : State) (l : Line) :
    s.backdrop (s.countAndSettle l) ∧ (s.countAndSettle l).debouncer l = { active := !(s.debouncer l).active, since := none } ∧
      ∀ l', l' ≠ l → (s.countAndSettle l).debouncer l' = s.debouncer l' := by
  have switches := (s.switches_countChange l).trans (State.switches_settle (s.countChange l) s)
  have backdrop := State.backdrop_trans (s.backdrop_countChange l) (State.settle_backdrop (s.countChange l) s)
  unfold State.countAndSettle
  generalize (s.countChange l).settle s = v at switches backdrop
  exact ⟨backdrop, (switches.lines l).trans (s.setDebouncer_same l _),
    fun l' other => (switches.lines l').trans (s.setDebouncer_other l l' _ other)⟩

theorem exec_debouncedChange (s : State) (l : Line) (h : s.debounceOver l = true) :
    exec (.debouncedChange l) s = .next ((s.countAndSettle l).finishEvent s) := congrArg Host.Outcome.next (if_pos h)

theorem State.debounceOver_of (s : State) (l : Line) (since : Nat) (h : (s.debouncer l).since = some since)
    (lasted : since + s.debounceTime l ≤ s.now) : s.debounceOver l = true := by
  rw [State.debounceOver, h]
  exact decide_eq_true lasted

/-- R51: what LINE_CHANGE makes of a debounced line's difference. -/
theorem State.lineReads_eq (s u : State) (l : Line) (level : Bool) (d : Debouncer) (hu : u = { s with pins := s.pins.setLine l level })
    (hd : d = {
      active := (s.debouncer l).active
      since := if u.reads l = (s.debouncer l).active then none else (s.debouncer l).since.or (some s.now) }) :
    s.lineReads l level = if (u.setDebouncer l d).debounceOver l then (u.setDebouncer l d).countAndSettle l else u.setDebouncer l d := by
  have same : u.debouncer l = s.debouncer l := by rw [hu]; exact s.debouncer_withPins _ l
  have now : u.now = s.now := by rw [hu]; rfl
  have read : u.readLine l = u.setDebouncer l d := by rw [State.readLine, same, now, hd]
  rw [← read, State.lineReads, ← hu]

/-- Settles O24: by what a line's reading makes of its difference, and what a counted change leaves. -/
theorem lineChangesAreDebounced : Obligations.LineChangesAreDebounced := by
  unfold Obligations.LineChangesAreDebounced
  refine ⟨fun s g level => rfl, fun s u l level hu agrees => ?_, fun s u l level since hu differs hs short => ?_,
    fun s u l level hu differs atOnce fresh => ?_, fun s l since hs lasted => ?_⟩
  · have read := s.lineReads_eq u l level _ hu rfl
    rw [if_pos agrees, State.debounceOver_setDebouncer, if_neg Bool.false_ne_true] at read
    refine ⟨(s.lineReads l level).finishEvent s, rfl, ?_⟩
    rw [read]
    exact s.became_setDebouncer u l _ (by rw [hu])
  · have since_eq : (s.debouncer l).since.or (some s.now) = some since := by
      rw [hs]
      cases (s.debouncer l).since <;> rfl
    have times : since + u.debounceTime l ≤ u.now ↔ since + s.debounceTime l ≤ s.now := by
      rw [hu]
      cases l <;> rfl
    have read := s.lineReads_eq u l level _ hu rfl
    rw [if_neg differs, since_eq, State.debounceOver_setDebouncer,
      if_neg (by simp only [times, decide_eq_true_eq, not_le]; exact short)] at read
    refine ⟨(s.lineReads l level).finishEvent s, rfl, ?_⟩
    rw [read]
    exact s.became_setDebouncer u l _ (by rw [hu])
  · have times : s.now + u.debounceTime l ≤ u.now ↔ s.now + s.debounceTime l ≤ s.now := by
      rw [hu]
      cases l <;> rfl
    have read := s.lineReads_eq u l level _ hu rfl
    rw [if_neg differs, fresh, Option.none_or, State.debounceOver_setDebouncer,
      if_pos (by simp only [times, decide_eq_true_eq, atOnce]; exact le_rfl)] at read
    obtain ⟨⟨-, mem, pins, tables, -⟩, counted, others⟩ :=
      State.countAndSettle_lines (u.setDebouncer l { active := (s.debouncer l).active, since := some s.now }) l
    rw [← read] at mem pins tables counted others
    have next : exec (.lineChange (.debounced l) level) s = .next ((s.lineReads l level).finishEvent s) := rfl
    generalize s.lineReads l level = v at next mem pins tables counted others
    refine ⟨_, next, pins.trans (State.setDebouncer_pins ..), tables.trans ?_, mem.trans ?_, ?_,
      fun l' other => (others l' other).trans ?_⟩
    · rw [State.setDebouncer_tables, hu]
    · rw [State.setDebouncer_mem, hu]
    · rw [State.setDebouncer_same] at counted
      exact counted
    · rw [State.setDebouncer_other _ _ _ _ other, hu]
      exact s.debouncer_withPins _ l'
  · have lines := s.countAndSettle_lines l
    have next := exec_debouncedChange s l (s.debounceOver_of l since hs lasted)
    generalize s.countAndSettle l = v at lines next
    exact ⟨_, next, lines⟩

/-! ### The loss of the lens (R114, R119) -/

/-- The lens drive after the loss of the lens. -/
def LensDrive.lost (l : LensDrive) : LensDrive := { l with g0 := l.g0.lose, g1 := l.g1.lose, homing := none }

theorem State.loseLens_lens (s : State) : s.loseLens.lens = s.lens.lost := by
  unfold State.loseLens
  dsimp only
  split <;> rfl

theorem State.loseLens_lensLost (s : State) : s.loseLens.pendingCause .lensLost = true := by
  have raised (u : State) := u.pendingCause_raise .lensLost
  unfold State.loseLens
  dsimp only
  split
  · exact raised _
  · exact pending_or _ _ _ (raised _)

/-- R114: a HOME_LENS in progress completes with NO_LENS. -/
theorem State.loseLens_homing (s : State) (slot : Fin 8) (h : s.lens.homing = some slot) :
    s.loseLens.req.slots[slot] = s.req.slots[slot].withResult .noLens s.lens.lost.homingResults ∧
      s.loseLens.pendingCause .requestDone = true := by
  unfold State.loseLens
  rw [h]
  refine ⟨?_, State.pendingCause_raise _ _⟩
  simp [State.complete, State.setSlot, State.mark, State.raise, LensDrive.lost]

/-- Settles O26: by the loss itself; what follows keeps the lens and the slot copies. -/
theorem lensLossStopsBothGroups : Obligations.LensLossStopsBothGroups := by
  unfold Obligations.LensLossStopsBothGroups
  intro s since line lasted
  have lastedLong : s.debounceOver .lready = true := s.debounceOver_of .lready since (by rw [State.debouncer, line]) lasted
  have counted : s.countChange .lready = (s.setDebouncer .lready { active := false, since := none }).loseLens := by
    simp [State.countChange, State.debouncer, line]
  obtain ⟨backdrop, -, -⟩ := s.countAndSettle_lines .lready
  have next := exec_debouncedChange s .lready lastedLong
  have steady := State.steady_settle (s.countChange .lready) s
  rw [counted] at steady
  rw [State.countAndSettle, counted] at next backdrop
  generalize (((s.setDebouncer .lready { active := false, since := none }).loseLens).settle s) = t at next backdrop steady
  have lens : t.lens = s.lens.lost := steady.lens.trans (State.loseLens_lens _)
  refine ⟨_, next, backdrop, steady.causes _ (State.loseLens_lensLost _), congrArg LensDrive.homing lens, fun g => ?_,
    fun slot k homing taken => ?_⟩
  · rw [State.finishEvent_lens, lens]
    cases g <;> rfl
  · obtain ⟨copy, completed⟩ := State.loseLens_homing (s.setDebouncer .lready { active := false, since := none }) slot homing
    have slots : (t.finishEvent s).req.slots[slot] = s.req.slots[slot].withResult .noLens s.lens.lost.homingResults := by
      rw [State.finishEvent_slots, steady.slots]
      exact copy
    refine ⟨by rw [slots]; rfl, steady.causes _ completed, ?_⟩
    rw [slots, Slot.withResult, taken]
    rfl

end Sys2Proof.Machine
end

section
/-! SUPPORT. The motion of the lens and the timers: step boundaries, homing boundaries, targets, pulses and deadlines, and the
ranges of the development stages. -/

namespace Sys2Proof.Machine

/-! ### Timers (R68, R111, R116, R196) -/

theorem State.setGroup_other (s : State) (g g' : Group) (d : GroupDrive) (h : g' ≠ g) :
    (s.setGroup g d).lens.group g' = s.lens.group g' := by
  cases g <;> cases g' <;> first | rfl | exact absurd rfl h

theorem State.setGroup_homing (s : State) (g : Group) (d : GroupDrive) : (s.setGroup g d).lens.homing = s.lens.homing := by
  cases g <;> rfl

theorem State.setGroup_backdrop (s : State) (g : Group) (d : GroupDrive) : s.backdrop (s.setGroup g d) := by
  cases g <;> exact s.backdrop_refl

/-- An event whose effect sets one group: what it and what follows it leave. -/
theorem State.settled_setGroup (s : State) (g : Group) (d : GroupDrive) (c : Instr)
    (h : exec c s = .next (s.event fun s => s.setGroup g d)) :
    ∃ t, exec c s = .next t ∧ s.backdrop t ∧ t.windows = s.windows ∧ t.lens.homing = s.lens.homing ∧ t.lens.group g = d ∧
      ∀ g', g' ≠ g → t.lens.group g' = s.lens.group g' := by
  have steady := State.steady_settle (s.setGroup g d) s
  have set := s.setGroup_backdrop g d
  unfold State.event at h
  generalize (s.setGroup g d).settle s = t at h steady
  refine ⟨_, h, State.backdrop_trans set steady.backdrop, ?_, ?_, ?_, fun g' other => ?_⟩
  · exact steady.windows.trans (State.setGroup_windows ..)
  · rw [State.finishEvent_lens, steady.lens, State.setGroup_homing]
  · rw [State.finishEvent_lens, steady.lens, State.setGroup_same]
  · rw [State.finishEvent_lens, steady.lens, State.setGroup_other _ _ _ _ other]

theorem step_of_empty (s : State) (h : s.pending = []) : step s = .next s.clock := by rw [step, h]

/-- Settles O30: each timer by its own rule. -/
theorem timersRun : Obligations.TimersRun := by
  unfold Obligations.TimersRun
  refine ⟨fun s => ⟨_, rfl, rfl, rfl, rfl, BitVec.ofNat_add _ _⟩, fun s empty short => ?_, fun s empty full => ?_,
    fun s p rest pulses waits begins => ?_, fun s p rest pulses runs ends => ?_, fun s g e pulse ended => ?_,
    fun s g e settling deadline lasted => ?_⟩
  · rw [step_of_empty s empty, State.clock, if_neg (by omega)]
  · rw [step_of_empty s empty, State.clock, if_pos full, State.tick]
  · have first : updateFirst s.pulseBegins (fun p => some { p with running := true }) s.release.pulses =
        { p with running := true } :: rest := by
      rw [pulses, updateFirst, if_pos (by simp [State.pulseBegins, waits, begins])]
      rfl
    refine ⟨_, congrArg (fun l => Host.Outcome.next (s.setPulses l)) first, rfl, rfl⟩
  · have first : updateFirst s.pulseEnds (fun _ => none) s.release.pulses = rest := by
      rw [pulses, updateFirst, if_pos (by simp [State.pulseEnds, runs, ends])]
      rfl
    exact congrArg (fun l => Host.Outcome.next (s.setPulses l)) first
  · have reached : s.reached (s.lens.group g).stepEnd = true := by
      rw [pulse]
      exact decide_eq_true ended
    exact congrArg Host.Outcome.next (if_pos reached)
  · have reached : s.reached (s.lens.group g).settleAt = true := by
      rw [deadline]
      exact decide_eq_true lasted
    exact s.settled_setGroup g (s.lens.group g).rest (.settleDeadline g) (congrArg Host.Outcome.next (if_pos ⟨settling, reached⟩))

/-! ### Step boundaries (R111, R116, R117) -/

theorem State.boundaryOf_of (s : State) (g : Group) (st : GroupState) (b : Nat) (state : (s.lens.group g).state = st)
    (boundary : (s.lens.group g).boundary = some b) (reached : b ≤ s.now) : s.boundaryOf g st = some b := by
  simp [State.boundaryOf, state, boundary, reached]

/-- R117: the leg of a pending target that is taken. -/
theorem GroupDrive.takePending_of_some (d : GroupDrive) (c : GroupSettings) (t : Nat) (h : d.pending = some t) :
    d.takePending c = if d.leg = .descend ∧ t - c.backlash < d.position ∨ d.leg ≠ .descend ∧ t < d.position then
        { d with target := some t, pending := none, leg := .descend, waypoint := some (t - c.backlash) }
      else { d with target := some t, pending := none, leg := .ascend, waypoint := none } := by
  rw [GroupDrive.takePending, h]
  by_cases leg : d.leg = .descend
  · by_cases low : t - c.backlash < d.position
    · simp [leg, low, waypointOf]
    · simp [leg, low, waypointOf]
  · by_cases low : t < d.position
    · simp [leg, low, waypointOf]
    · simp [leg, low]

/-- Settles O31: by the leg a group is on at its boundary. -/
theorem stepBoundariesMoveTheLens : Obligations.StepBoundariesMoveTheLens := by
  unfold Obligations.StepBoundariesMoveTheLens
  refine ⟨fun s g l b table moving boundary reached => ?_, fun d c b down turn far => ?_, fun d c b down far => ?_,
    fun d c b up far => ?_, fun d c b turn there => ?_⟩
  · have stepped : exec (.stepBoundary g) s =
        .next (s.event fun s => s.setGroup g (((s.lens.group g).takePending (l.group g)).boundaryAct (l.group g) b)) := by
      have : s.stepReached g = s.event fun s => s.stepGroup g l b := by
        rw [State.stepReached, s.boundaryOf_of g .moving b moving boundary reached, table]
      exact congrArg Host.Outcome.next this
    obtain ⟨t, next, backdrop, windows, homing, same, others⟩ := s.settled_setGroup g _ _ stepped
    refine ⟨t, _, next, backdrop, same, others, homing, windows, fun none => ?_, fun tgt pending => ?_⟩
    · rw [GroupDrive.takePending, none]
    · exact GroupDrive.takePending_of_some _ _ tgt pending
  · simp [GroupDrive.boundaryAct, down, turn, far, GroupDrive.stepOnce, GroupDrive.pulse, pulseEnd]
  · simp [GroupDrive.boundaryAct, down, far, GroupDrive.stepOnce, GroupDrive.pulse, pulseEnd]
  · simp [GroupDrive.boundaryAct, up, far, GroupDrive.stepOnce, GroupDrive.pulse, pulseEnd]
  · by_cases down : d.leg = .descend
    · simp [GroupDrive.boundaryAct, down, turn down, there, GroupDrive.settle]
    · simp [GroupDrive.boundaryAct, down, there, GroupDrive.settle]

/-! ### Homing boundaries (R113, R114) -/

/-- R113: a homing boundary of one group. -/
theorem State.homingStep_of (s : State) (g : Group) (l : Lens) (b : Nat) (table : s.tables.lens = some l) :
    s.homingStep g b = let d := (s.lens.group g).homingAct (l.group g) b (s.pins.home g)
      if d.state = .fault then (s.setGroup g d).raise .lensFault else s.setGroup g d := by
  rw [State.homingStep, table]

theorem State.homingStep_lens (s : State) (g : Group) (l : Lens) (b : Nat) (table : s.tables.lens = some l) :
    (s.homingStep g b).lens = (s.setGroup g ((s.lens.group g).homingAct (l.group g) b (s.pins.home g))).lens := by
  rw [s.homingStep_of g l b table]
  dsimp only
  split <;> rfl

/-- R114: a HOME_LENS in progress completes once no group homes; the groups stay. -/
theorem State.homingEnd_lens (s : State) :
    s.homingEnd.lens = if s.lens.g0.state = .homing ∨ s.lens.g1.state = .homing then s.lens else { s.lens with homing := none } := by
  unfold State.homingEnd
  split
  · rename_i none
    split
    · rfl
    · exact congrArg (fun h => { s.lens with homing := h }) none
  · split
    · rfl
    · dsimp only
      split <;> rfl

theorem State.homingEnd_group (s : State) (g : Group) : s.homingEnd.lens.group g = s.lens.group g := by
  rw [s.homingEnd_lens]
  split
  · rfl
  · cases g <;> rfl

/-- R114: the completion of a HOME_LENS in progress. -/
theorem State.homingEnd_of (s : State) (slot : Fin 8) (homing : s.lens.homing = some slot)
    (left : ¬ (s.lens.g0.state = .homing ∨ s.lens.g1.state = .homing)) :
    s.homingEnd.req.slots[slot] = s.req.slots[slot].withResult
        (if s.lens.g0.state = .idle ∧ s.lens.g1.state = .idle then .done else .wrongState) s.lens.homingResults ∧
      (s.lens.g0.state = .idle → s.lens.g1.state = .idle → s.homingEnd.pendingCause .lensHomed = true) := by
  unfold State.homingEnd
  rw [homing]
  dsimp only
  rw [if_neg left]
  by_cases both : s.lens.g0.state = .idle ∧ s.lens.g1.state = .idle
  · rw [if_pos both, if_pos both]
    exact ⟨by simp, fun _ _ => pending_or _ _ _ (State.pendingCause_raise _ _)⟩
  · rw [if_neg both, if_neg both]
    exact ⟨by simp, fun h0 h1 => absurd ⟨h0, h1⟩ both⟩

theorem State.homingReached_of (s : State) (g : Group) (b : Nat) (homing : (s.lens.group g).state = .homing)
    (boundary : (s.lens.group g).boundary = some b) (reached : b ≤ s.now) :
    s.homingReached g = s.event fun s => (s.homingStep g b).homingEnd := by
  rw [State.homingReached, s.boundaryOf_of g .homing b homing boundary reached]

theorem State.homingStep_backdrop (s : State) (g : Group) (b : Nat) : s.backdrop (s.homingStep g b) := by
  unfold State.homingStep
  split
  · exact s.backdrop_refl
  · dsimp only
    split <;> exact s.setGroup_backdrop g _

theorem State.homingEnd_backdrop (s : State) : s.backdrop s.homingEnd := by
  unfold State.homingEnd
  split
  · exact s.backdrop_refl
  · split
    · exact s.backdrop_refl
    · dsimp only
      split <;> exact s.backdrop_refl

theorem State.homingStep_windows (s : State) (g : Group) (b : Nat) : (s.homingStep g b).windows = s.windows := by
  unfold State.homingStep
  split
  · rfl
  · dsimp only
    split <;> exact State.setGroup_windows ..

theorem State.homingEnd_windows (s : State) : s.homingEnd.windows = s.windows := by
  unfold State.homingEnd
  split
  · rfl
  · split
    · rfl
    · dsimp only
      split <;> rfl

theorem State.homingStep_slots (s : State) (g : Group) (b : Nat) : (s.homingStep g b).req.slots = s.req.slots := by
  unfold State.homingStep
  split
  · rfl
  · dsimp only
    split
    · simp
    · simp

/-- The causes that the end of a homing raises join those pending. -/
theorem State.homingEnd_causes (s : State) (c : Cause) (h : s.pendingCause c = true) : s.homingEnd.pendingCause c = true :=
  s.offPort_homingEnd.causes c h

/-- R113: what a homing group does at a boundary, by its HOME line and its count. -/
theorem GroupDrive.homingAct_home (d : GroupDrive) (c : GroupSettings) (b : Nat) :
    d.homingAct c b true = { d with state := .idle, position := 0, homingSteps := 0, boundary := none } := rfl

theorem GroupDrive.homingAct_limit (d : GroupDrive) (c : GroupSettings) (b : Nat) (h : c.homeLimit ≤ d.homingSteps) :
    d.homingAct c b false = { d with state := .fault, homingSteps := 0, boundary := none } := if_pos h

theorem GroupDrive.homingAct_step (d : GroupDrive) (c : GroupSettings) (b : Nat) (h : d.homingSteps < c.homeLimit) :
    d.homingAct c b false = { d with
      dir := false, step := true, stepEnd := some (b + c.stepPeriod / 2), boundary := some (b + c.stepPeriod)
      homingSteps := d.homingSteps + 1 } := if_neg (Nat.not_le.mpr h)

/-- Settles O32: by what the group does at its boundary, and the end of a HOME_LENS in progress. -/
theorem homingBoundariesHome : Obligations.HomingBoundariesHome := by
  unfold Obligations.HomingBoundariesHome
  intro s g l b table homing boundary reached
  generalize hd : (s.lens.group g).homingAct (l.group g) b (s.pins.home g) = d
  have next : exec (.homingBoundary g) s = .next (s.homingReached g) := rfl
  rw [s.homingReached_of g b homing boundary reached, State.event] at next
  have stepLens := s.homingStep_lens g l b table
  rw [hd] at stepLens
  have fault : d.state = .fault → (s.homingStep g b).pendingCause .lensFault = true := fun faulty => by
    rw [s.homingStep_of g l b table, hd]
    dsimp only
    rw [if_pos faulty]
    exact State.pendingCause_raise _ _
  have backdrop := State.backdrop_trans (s.homingStep_backdrop g b) (State.homingEnd_backdrop _)
  have windows := (State.homingEnd_windows (s.homingStep g b)).trans (s.homingStep_windows g b)
  have slots := s.homingStep_slots g b
  generalize s.homingStep g b = v at next stepLens fault backdrop windows slots
  have same : v.lens.group g = d := by rw [stepLens, State.setGroup_same]
  have others (g' : Group) (other : g' ≠ g) : v.lens.group g' = s.lens.group g' := by rw [stepLens, State.setGroup_other _ _ _ _ other]
  have vHoming : v.lens.homing = s.lens.homing := by rw [stepLens, State.setGroup_homing]
  have steady := State.steady_settle v.homingEnd s
  generalize v.homingEnd.settle s = t at next steady
  have group (g' : Group) : t.lens.group g' = v.lens.group g' := by rw [steady.lens, State.homingEnd_group]
  refine ⟨_, next, State.backdrop_trans backdrop steady.backdrop, steady.windows.trans windows,
    fun g' other => (group g').trans (others g' other), fun home => ?_, fun away limit => ?_, fun away below => ?_,
    fun slot k inProgress taken noneHomes => ?_⟩
  · rw [home, GroupDrive.homingAct_home] at hd
    exact (group g).trans (same.trans hd.symm)
  · rw [away, GroupDrive.homingAct_limit _ _ _ limit] at hd
    exact ⟨(group g).trans (same.trans hd.symm), steady.causes _ (v.homingEnd_causes _ (fault (by rw [← hd])))⟩
  · rw [away, GroupDrive.homingAct_step _ _ _ below] at hd
    have still : v.lens.g0.state = .homing ∨ v.lens.g1.state = .homing := by
      have state : (v.lens.group g).state = .homing := by rw [same, ← hd]; exact homing
      cases g
      · exact .inl state
      · exact .inr state
    refine ⟨(group g).trans (same.trans hd.symm), ?_⟩
    rw [State.finishEvent_lens, steady.lens, State.homingEnd_lens, if_pos still, vHoming]
  · have left : ¬ (v.lens.g0.state = .homing ∨ v.lens.g1.state = .homing) := fun h =>
      h.elim (fun h0 => noneHomes .g0 (by rw [State.finishEvent_lens, group]; exact h0))
        fun h1 => noneHomes .g1 (by rw [State.finishEvent_lens, group]; exact h1)
    obtain ⟨copy, homed⟩ := v.homingEnd_of slot (vHoming.trans inProgress) left
    have lens : t.lens = { v.lens with homing := none } := by rw [steady.lens, State.homingEnd_lens, if_neg left]
    have slotNow : (t.finishEvent s).req.slots[slot] = s.req.slots[slot].withResult
        (if v.lens.g0.state = .idle ∧ v.lens.g1.state = .idle then .done else .wrongState) v.lens.homingResults := by
      rw [State.finishEvent_slots, steady.slots, copy, slots]
    refine ⟨congrArg LensDrive.homing lens, by rw [slotNow]; rfl, ?_, fun idle0 idle1 => ?_⟩
    · rw [slotNow, Slot.withResult, taken, State.finishEvent_lens, lens]
      rfl
    · rw [State.finishEvent_lens, lens] at idle0 idle1
      exact steady.causes _ (homed idle0 idle1)

/-! ### Targets (R103, R105) -/

theorem roundHalfAway_natCast (n b : Nat) : roundHalfAway n b = ((2 * n + b) / (2 * b) : Nat) := by
  simp [roundHalfAway]

/-- R105: the interpolated position is a rounded mean of the two ends' positions. -/
theorem interpolate_eq (a b : Nat × Nat) (t : Nat) (low : a.1 ≤ t) (high : t < b.1) :
    interpolate a b t = (2 * (a.2 * (b.1 - t) + b.2 * (t - a.1)) + (b.1 - a.1)) / (2 * (b.1 - a.1)) := by
  have weights : (a.2 : Int) * (b.1 - a.1 : Nat) + ((b.2 : Int) - a.2) * ((t : Int) - a.1) =
      (a.2 * (b.1 - t) + b.2 * (t - a.1) : Nat) := by
    push_cast [Nat.cast_sub (low.trans high.le), Nat.cast_sub low, Nat.cast_sub high.le]
    ring
  rw [interpolate, weights, roundHalfAway_natCast, Int.toNat_natCast]

theorem interpolate_mem (a b : Nat × Nat) (t lo hi : Nat) (low : a.1 ≤ t) (high : t < b.1) (ha : lo ≤ a.2 ∧ a.2 ≤ hi)
    (hb : lo ≤ b.2 ∧ b.2 ≤ hi) : lo ≤ interpolate a b t ∧ interpolate a b t ≤ hi := by
  have split : b.1 - a.1 = (b.1 - t) + (t - a.1) := by omega
  have least : lo * (b.1 - a.1) ≤ a.2 * (b.1 - t) + b.2 * (t - a.1) := by
    rw [split, Nat.mul_add]
    exact Nat.add_le_add (Nat.mul_le_mul_right _ ha.1) (Nat.mul_le_mul_right _ hb.1)
  have most : a.2 * (b.1 - t) + b.2 * (t - a.1) ≤ hi * (b.1 - a.1) := by
    rw [split, Nat.mul_add]
    exact Nat.add_le_add (Nat.mul_le_mul_right _ ha.2) (Nat.mul_le_mul_right _ hb.2)
  have pos : 0 < 2 * (b.1 - a.1) := by omega
  rw [interpolate_eq a b t low high]
  refine ⟨(Nat.le_div_iff_mul_le pos).mpr ?_, Nat.le_of_lt_succ ((Nat.div_lt_iff_lt_mul pos).mpr ?_)⟩
  · rw [Nat.mul_left_comm]
    omega
  · rw [Nat.succ_eq_add_one, Nat.add_mul, Nat.mul_left_comm]
    omega

theorem interpolate_knot (a b : Nat × Nat) (h : a.1 < b.1) : interpolate a b a.1 = a.2 := by
  rw [interpolate_eq a b a.1 le_rfl h, Nat.sub_self, Nat.mul_zero, Nat.add_zero,
    show 2 * (a.2 * (b.1 - a.1)) + (b.1 - a.1) = (b.1 - a.1) + 2 * (b.1 - a.1) * a.2 by ring,
    Nat.add_mul_div_left _ _ (by omega), Nat.div_eq_of_lt (by omega), Nat.zero_add]

/-- R105: along a table of rising knots the position lies within the knots' positions. -/
theorem g1Along_mem (ks : List (Nat × Nat)) (t lo hi : Nat) (nonempty : ks ≠ []) (first : (ks.headD (0, 0)).1 ≤ t)
    (range : ∀ k ∈ ks, lo ≤ k.2 ∧ k.2 ≤ hi) : lo ≤ g1Along ks t ∧ g1Along ks t ≤ hi := by
  induction ks with
  | nil => exact absurd rfl nonempty
  | cons a ks ih =>
    cases ks with
    | nil => exact range a List.mem_cons_self
    | cons b rest =>
      unfold g1Along
      split
      · rename_i inside
        exact interpolate_mem a b t lo hi inside.1 inside.2 (range a List.mem_cons_self)
          (range b (List.mem_cons_of_mem _ List.mem_cons_self))
      · rename_i outside
        have past : b.1 ≤ t := Nat.not_lt.mp fun below => outside ⟨first, below⟩
        exact ih (List.cons_ne_nil _ _) past fun k hk => range k (List.mem_cons_of_mem _ hk)

/-- R105: a knot's x gives its y. -/
theorem g1Along_knot (ks : List (Nat × Nat)) (rising : ks.Pairwise fun a b => a.1 < b.1) (k : Nat × Nat) (hk : k ∈ ks) :
    g1Along ks k.1 = k.2 := by
  induction ks with
  | nil => exact absurd hk List.not_mem_nil
  | cons a ks ih =>
    obtain ⟨above, rest⟩ := List.pairwise_cons.mp rising
    cases ks with
    | nil => rw [List.mem_singleton.mp hk]; rfl
    | cons b ks =>
      rcases List.mem_cons.mp hk with rfl | later
      · rw [g1Along, if_pos ⟨le_rfl, above b List.mem_cons_self⟩, interpolate_knot _ _ (above b List.mem_cons_self)]
      · have past : b.1 ≤ k.1 := by
          rcases List.mem_cons.mp later with rfl | beyond
          · exact le_rfl
          · exact (List.pairwise_cons.mp rest).1 k beyond |>.le
        rw [g1Along, if_neg fun inside => absurd inside.2 (Nat.not_lt.mpr past)]
        exact ih rest later

theorem getLastD_mem {α : Type} (l : List α) (d : α) (h : l ≠ []) : l.getLastD d ∈ l := by
  rw [List.getLastD_eq_getLast?, List.getLast?_eq_some_getLast h]
  exact List.getLast_mem h

theorem headD_mem {α : Type} (l : List α) (d : α) (h : l ≠ []) : l.headD d ∈ l := by
  cases l with
  | nil => exact absurd rfl h
  | cons a l => exact List.mem_cons_self

/-- R105: the G1 target, whether or not it stands at the last knot. -/
theorem Lens.g1Target_eq (l : Lens) (t : Nat) (nonempty : l.knots ≠ []) (rising : l.knots.Pairwise fun a b => a.1 < b.1) :
    l.g1Target t = g1Along l.knots t := by
  unfold Lens.g1Target
  split
  · rename_i last
    rw [last, Lens.lastX, g1Along_knot l.knots rising _ (getLastD_mem _ _ nonempty)]
  · rfl

/-- R103: the first knot is the least and the last the greatest. -/
theorem Lens.firstX_le_lastX (l : Lens) (nonempty : l.knots ≠ []) (rising : l.knots.Pairwise fun a b => a.1 < b.1) :
    l.firstX ≤ l.lastX := by
  unfold Lens.firstX Lens.lastX
  cases h : l.knots with
  | nil => exact absurd h nonempty
  | cons a ks =>
    rw [h] at rising
    rcases List.mem_cons.mp (getLastD_mem (a :: ks) (0, 0) (List.cons_ne_nil _ _)) with same | later
    · rw [same]; exact le_rfl
    · exact ((List.pairwise_cons.mp rising).1 _ later).le

theorem clamp_mem (lo hi x : Int) (h : lo ≤ hi) : lo ≤ clamp lo hi x ∧ clamp lo hi x ≤ hi := by
  unfold clamp
  split
  · exact ⟨le_rfl, h⟩
  · split <;> omega

/-- Settles O33: by the clamp, and by the segments of the knot table. -/
theorem targetsLieWithinTheKnots : Obligations.TargetsLieWithinTheKnots := by
  unfold Obligations.TargetsLieWithinTheKnots
  intro l t lo hi two rising range
  have nonempty : l.knots ≠ [] := fun e => by simp [e] at two
  have ends := l.firstX_le_lastX nonempty rising
  obtain ⟨low, high⟩ := clamp_mem l.firstX l.lastX t (Int.ofNat_le.mpr ends)
  have cast : (((l.pair t).g0 : Nat) : Int) = clamp l.firstX l.lastX t := Int.toNat_of_nonneg (by omega)
  have above : l.firstX ≤ (l.pair t).g0 := by omega
  have g1 : (l.pair t).g1 = g1Along l.knots (l.pair t).g0 := l.g1Target_eq _ nonempty rising
  obtain ⟨least, most⟩ := g1Along_mem l.knots (l.pair t).g0 lo hi nonempty above range
  refine ⟨above, by omega, by rw [g1]; exact least, by rw [g1]; exact most, ?_, fun k hk => ?_⟩
  · rw [cast]
    show (clamp l.firstX l.lastX t != t) = false ↔ _
    simp
  · rw [l.g1Target_eq _ nonempty rising, g1Along_knot l.knots rising k hk]

/-! ### Development (R123, R130) -/

/-- R130: between two knots the curve is a rounded mean of them. -/
theorem tone_between (k k1 : Int) (f : Int) (low : 0 ≤ f) (high : f ≤ 63) :
    min k k1 ≤ k + ((k1 - k) * f + 32) / 64 ∧ k + ((k1 - k) * f + 32) / 64 ≤ max k k1 := by
  rcases le_total k k1 with rise | fall
  · have small : (k1 - k) * f ≤ (k1 - k) * 63 := Int.mul_le_mul_of_nonneg_left high (by omega)
    have large : 0 ≤ (k1 - k) * f := Int.mul_nonneg (by omega) low
    omega
  · have small : (k - k1) * f ≤ (k - k1) * 63 := Int.mul_le_mul_of_nonneg_left high (by omega)
    have large : 0 ≤ (k - k1) * f := Int.mul_nonneg (by omega) low
    have flip : (k1 - k) * f = -((k - k1) * f) := by ring
    omega

/-- Settles O35: by the bounds of the quotient, and the curve between two knots. -/
theorem normAndToneStayInRange : Obligations.NormAndToneStayInRange := by
  unfold Obligations.NormAndToneStayInRange
  refine ⟨fun bl wl below most => ?_, fun p m size bound range => ?_⟩
  · unfold normOf
    exact ⟨(Nat.le_div_iff_mul_le (by omega)).mpr (by omega), Nat.div_le_self _ _⟩
  · have knot (i : Nat) : p.tone.getD i 0 ≤ 255 := by
      rw [List.getD_eq_getElem?_getD]
      cases h : p.tone[i]? with
      | none => exact Nat.zero_le _
      | some k => exact bound k (List.mem_of_getElem? h)
    generalize hk : p.tone.getD (m / 64) 0 = k
    generalize hk1 : p.tone.getD (m / 64 + 1) 0 = k1
    have k_le : k ≤ 255 := hk ▸ knot _
    have k1_le : k1 ≤ 255 := hk1 ▸ knot _
    have frac : ((m - 64 * (m / 64) : Nat) : Int) = ((m % 64 : Nat) : Int) := by omega
    obtain ⟨low, high⟩ := tone_between k k1 (m % 64 : Nat) (by omega) (by omega)
    have value : (tone p m : Int) = (k : Int) + (((k1 : Int) - k) * (m % 64 : Nat) + 32) / 64 := by
      rw [tone, hk, hk1, frac, clamp_of_mem _ _ _ (by omega) (by omega), Int.toNat_of_nonneg (by omega)]
    refine ⟨by omega, by omega, fun whole => ?_⟩
    rw [whole] at value
    omega

end Sys2Proof.Machine
end

section
/-! SUPPORT. What the release unit, the engine and the freeing of records leave of focus control, the tether queue and the port,
and what follows an event that fires no shot. -/

namespace Sys2Proof.Machine

/-- Focus control, the tether queue, and the tether port but for its raw places stay. -/
structure State.Apart (s t : State) : Prop where
  focus : t.focus = s.focus
  queue : t.queue = s.queue
  tport : { t.tport with raw := s.tport.raw } = s.tport

theorem State.Apart.refl (s : State) : s.Apart s := ⟨rfl, rfl, rfl⟩

theorem State.Apart.trans {s t u : State} (h : s.Apart t) (k : t.Apart u) : s.Apart u :=
  ⟨k.focus.trans h.focus, k.queue.trans h.queue,
    (congrArg (fun p : TetherPort => { p with raw := s.tport.raw }) k.tport :).trans h.tport⟩

theorem State.Apart.ite {s t u : State} (p : Prop) [Decidable p] (ht : s.Apart t) (hu : s.Apart u) :
    s.Apart (if p then t else u) := by
  split
  · exact ht
  · exact hu

section Fields

variable {s t : State} (h : s.Apart t)

include h

theorem State.Apart.state : t.tport.state = s.tport.state := (congrArg TetherPort.state h.tport :)
theorem State.Apart.item : t.tport.item = s.tport.item := (congrArg TetherPort.item h.tport :)
theorem State.Apart.td : t.tport.td = s.tport.td := (congrArg TetherPort.td h.tport :)
theorem State.Apart.tstb : t.tport.tstb = s.tport.tstb := (congrArg TetherPort.tstb h.tport :)
theorem State.Apart.verdictAt : t.tport.verdictAt = s.tport.verdictAt := (congrArg TetherPort.verdictAt h.tport :)

/-- The port takes no item and waits for no word after what keeps it quiet. -/
theorem State.Apart.portQuiet (quiet : s.portQuiet) : t.portQuiet := by
  unfold State.portQuiet
  rw [h.state, h.item, h.queue]
  exact quiet

end Fields

section Walk

variable (s old : State)

theorem State.apart_release (x : ReleaseUnit) : s.Apart { s with release := x } := ⟨rfl, rfl, rfl⟩
theorem State.apart_engine (x : Engine) : s.Apart { s with engine := x } := ⟨rfl, rfl, rfl⟩
theorem State.apart_openFrame (k : FrameKind) (g : Geometry) : s.Apart (s.openFrame k g) := ⟨rfl, rfl, rfl⟩
theorem State.apart_startFill (p : Fin 4) (k : Key) (g : Geometry) : s.Apart (s.startFill p k g) := ⟨rfl, rfl, rfl⟩

theorem State.apart_answerLane (f : LaneRead → List Byte) : s.Apart (s.answerLane f) := by
  unfold State.answerLane
  split <;> exact ⟨rfl, rfl, rfl⟩

theorem State.apart_endRun : s.Apart s.endRun := by
  unfold State.endRun
  split
  · exact .refl s
  · split
    · exact (s.apart_engine _).trans (State.apart_answerLane _ _)
    · exact s.apart_engine _

theorem State.apart_dropEntries (hit : Source → Bool) : s.Apart (s.dropEntries hit) := ⟨rfl, rfl, rfl⟩

theorem State.apart_dropFreedShot (i : Fin 48) (n : Nat) : s.Apart (s.dropFreedShot i n) :=
  .ite _ ((s.apart_dropEntries _).trans (State.apart_endRun _)) (s.apart_dropEntries _)

theorem State.apart_dropLive (f : Fin 2 → Bool) : s.Apart (s.dropLive f) :=
  .ite _ ((s.apart_dropEntries _).trans (State.apart_endRun _)) (s.apart_dropEntries _)

theorem State.apart_dropItemPages (r : ShotRef) : s.Apart (s.dropItemPages r) := by
  unfold State.dropItemPages
  split
  · exact .ite _ ⟨rfl, rfl, rfl⟩ (.refl s)
  · exact .refl s

theorem State.apart_freeShot (i : Fin 48) : s.Apart (s.freeShot i) := by
  cases h : s.record i with
  | none => rw [s.freeShot_of_free i h]; exact .refl s
  | some x =>
    rw [s.freeShot_of_used i x h]
    have disowned : s.Apart (s.disowned i x) :=
      State.Apart.trans (t := { s with pool := { s.pool with free := s.pool.free ++ x.pages } }) ⟨rfl, rfl, rfl⟩
        ((State.apart_dropFreedShot _ _ _).trans (State.apart_dropItemPages _ _))
    exact disowned.trans ⟨rfl, rfl, rfl⟩

theorem State.apart_evict (i : Fin 48) : s.Apart (s.evict i) := (s.apart_freeShot i).trans ⟨rfl, rfl, rfl⟩

theorem State.apart_makeRoom (n : Nat) (l : List (Fin 48)) (s : State) : s.Apart (s.makeRoom n l) := by
  induction l generalizing s with
  | nil => exact .refl s
  | cons i is ih => exact .ite _ (.refl s) ((s.apart_evict i).trans (ih _))

theorem State.apart_liveFallsDue (due : Nat) : s.Apart (s.liveFallsDue due) :=
  .ite _ (((s.apart_release _).trans (State.apart_dropLive _ _)).trans (State.apart_openFrame _ _ _)) (s.apart_release _)

theorem State.apart_syncLive : s.Apart (s.syncLive old) :=
  .ite _ (s.apart_liveFallsDue _) (.ite _ (.refl s) (s.apart_release _))

theorem State.apart_deriveRelease : s.Apart (s.deriveRelease old) :=
  ((s.apart_release { s.release with state := s.releaseStateNow }).trans (.ite _ (State.apart_release _ _) (.refl _))).trans
    (State.apart_syncLive _ _)

theorem State.apart_openShot (i : Fin 48) (c : Fin 4) (p : Capture) (d : Destiny) : s.Apart (s.openShot i c p d) := by
  unfold State.openShot
  dsimp only
  generalize s.newNumber = n
  exact ⟨rfl, rfl, rfl⟩

theorem State.apart_fireShot (k : TriggerKind) : s.Apart (s.fireShot k) := by
  unfold State.fireShot
  split
  · exact ((s.apart_openShot _ _ _ _).trans (State.apart_release _ _)).trans (State.apart_openFrame _ _ _)
  · exact .refl s

theorem State.apart_waitFor (r : WaitReason) : s.Apart (s.waitFor r) := .ite _ ⟨rfl, rfl, rfl⟩ (s.apart_release _)

theorem State.apart_testTrigger (k : TriggerKind) : s.Apart (s.testTrigger k) := by
  have room : s.Apart (s.roomFor k) := .ite _ (State.apart_makeRoom _ _ s) (.refl s)
  unfold State.testTrigger
  dsimp only
  split
  · exact (room.trans (State.apart_fireShot _ k)).trans (State.apart_deriveRelease _ _)
  · exact (room.trans (State.apart_waitFor _ _)).trans (State.apart_syncLive _ _)

theorem State.apart_updateRelease : s.Apart (s.updateRelease old) := by
  have derived := s.apart_deriveRelease old
  have tested := fun k => derived.trans (State.apart_testTrigger _ k)
  unfold State.updateRelease
  dsimp only
  split
  · exact derived
  · exact .ite _ (.ite _ (tested _) derived) (.ite _ (tested _) derived)

theorem State.apart_prefetch (k : Key) (g : Geometry) : s.Apart (s.prefetch k g) := by
  unfold State.prefetch State.tryFill
  split
  · split
    · exact ⟨rfl, rfl, rfl⟩
    · exact .refl s
  · exact .refl s

theorem State.apart_completeRun (r : Run) (p : Fin 4) (d : List Byte) : s.Apart (s.completeRun r p d) := by
  unfold State.completeRun
  dsimp only
  split
  · have answered : s.Apart (({ s with engine := { s.engine with run := none, recency := p :: dropElem p s.engine.recency } } : State).answerLane
        fun q => q.fromRun (developRun r.geom r.profile d r.run)) := (s.apart_engine _).trans (State.apart_answerLane _ _)
    exact .ite _ (answered.trans (State.apart_prefetch _ _ _)) answered
  · exact ⟨rfl, rfl, rfl⟩

theorem State.apart_takeStreamRun (t : Stream) : s.Apart (s.takeStreamRun t) :=
  .ite _ ((s.apart_engine _).trans (State.apart_prefetch _ _ _)) (s.apart_engine _)

theorem State.apart_engineAct (t : State) (h : s.engineAct = some t) : s.Apart t := by
  unfold State.engineAct State.pickRun at h
  split at h
  · split at h
    · split at h <;> cases h
      · exact ⟨rfl, rfl, rfl⟩
      · exact s.apart_answerLane _
    · split at h <;> cases h
      exact s.apart_takeStreamRun _
  · split at h
    · split at h <;> cases h
      exact s.apart_completeRun _ _ _
    · split at h <;> cases h
      exact ⟨rfl, rfl, rfl⟩

theorem State.apart_engineActs (n : Nat) (s : State) : s.Apart (s.engineActs n) := by
  induction n generalizing s with
  | zero => exact .refl s
  | succ n ih =>
    unfold State.engineActs
    split
    · next t act => exact (s.apart_engineAct t act).trans (ih t)
    · exact .refl s

/-- A quiet port, the queue and focus control stay beside the engine. -/
theorem State.apart_serveOut (h : s.portQuiet) : s.Apart s.serveOut := by
  have engine := s.apart_engineActs 128
  rw [State.serveOut, s.takeNext_of_busy h.1]
  unfold State.engineSettle
  rw [State.resumeUnit_of_quiet _ (engine.portQuiet h).2]
  exact engine

/-- What follows an event leaves a quiet port and the queue alone. -/
theorem State.apart_settle (h : s.portQuiet) : s.deriveFocus.Apart (s.settle old) := by
  have released := State.apart_updateRelease s.deriveFocus old
  rw [State.settle_eq]
  exact released.trans (State.apart_serveOut _ (released.portQuiet h))

/-- R97: after an event focus control is as it was but for its state, derived again. -/
theorem State.settle_focus : (s.settle old).focus = { s.focus with state := s.focusStateNow } :=
  (State.aside_serveOut _).focus.trans (State.apart_updateRelease s.deriveFocus old).focus

/-- Where no shot and no live frame is fired, nothing but the release unit follows an event. -/
theorem State.settle_of_fireless (h : s.fireless) : ∃ r : ReleaseUnit, s.settle old = { s with release := r } := by
  obtain ⟨rest | frame, port, engine, focus⟩ := h
  · exact ⟨s.release, s.settle_of_calm old ⟨rest, port, engine, focus⟩⟩
  · obtain ⟨w, due, settled⟩ := s.settle_of_frame old (Option.isSome_iff_ne_none.mpr frame)
    have derived : s.deriveFocus = s := by rw [State.deriveFocus, ← focus]
    rw [derived] at settled
    exact ⟨_, settled.trans (State.serveOut_of_quiet _ port engine)⟩

end Walk

/-! ### Requests -/

/-- `became` of a state that differs in its request unit, the causes apart. -/
theorem State.became_of_causes {s u t e : State} {set : BitVec 20} (h : u.became t e set) (causes : u.req.causes = s.req.causes) :
    s.became t e set :=
  ⟨(congrArg (fun v : State => { v with req := s.req }) h.1 :), by rw [← causes]; exact h.2⟩

section Settled

variable (s : State) (slot : Fin 8) (kind : Nat) (tag : Word32) (args : List Beat) (code : ResultCode) (beat : Beat) (E old : State)

/-- A request that completes after effects `E`, after which the other units go on: it is served, the windows and the lens are as
`E` left them; in a calm `E` nothing else follows, and where no shot is fired nothing but the release unit's own. -/
theorem State.settled_effect (hc : s.canPost slot) (within : (s.begun slot (kindCode kind) tag args).Within E)
    (performed : (s.begun slot (kindCode kind) tag args).perform slot (kindCode kind) (putArgs s.req.slots[slot].args args) =
      (E.complete slot code beat).settle old) :
    ∃ t, (.next (s.command slot (kindCode kind) tag args) : Result) = .next t ∧ s.served t slot kind tag code beat ∧
      t.windows = E.windows ∧ t.lens = E.lens ∧ t.focus = { E.focus with state := E.focusStateNow } ∧
      (E.calm → E.became t E Cause.requestDone.bit) ∧
      (E.fireless → ∃ r : ReleaseUnit, E.became t { E with release := r } Cause.requestDone.bit) := by
  have command := s.command_of_canPost slot (kindCode kind) tag args hc
  have steady := State.steady_settle (E.complete slot code beat) old
  have served := s.served_of slot kind tag args code beat E _ within steady.within
  have focus : ((E.complete slot code beat).settle old).focus = { E.focus with state := E.focusStateNow } := State.settle_focus _ _
  have calm : E.calm → (E.complete slot code beat).settle old = E.complete slot code beat := fun h => State.settle_of_calm _ _ h
  have fireless : E.fireless → ∃ r : ReleaseUnit, (E.complete slot code beat).settle old = { E.complete slot code beat with release := r } :=
    fun h => State.settle_of_fireless _ _ h
  rw [performed] at command
  generalize (E.complete slot code beat).settle old = v at command steady served calm fireless focus
  refine ⟨v.finishEvent s, congrArg Host.Outcome.next command, served, steady.windows, steady.lens, focus, fun h => ?_, fun h => ?_⟩
  · rw [calm h]
    exact ⟨State.completed_with_req E s slot code beat _, (State.finishEvent_causes _ _).trans (E.complete_causes slot code beat)⟩
  · obtain ⟨r, released⟩ := fireless h
    rw [released]
    exact ⟨r, (congrArg (fun u : State => { u with release := r }) (E.complete_with_req slot code beat E.req) :),
      (State.finishEvent_causes _ _).trans (E.complete_causes slot code beat)⟩

end Settled

end Sys2Proof.Machine
end

section
/-! SUPPORT. Freed records (O52), posts that collide (O42), and the requests that name a shot or a view. -/

namespace Sys2Proof.Machine

/-! ### What knew a freed record (R15, R35, R143) -/

section Freeing

variable (s : State) (r : ShotRef)

theorem State.dropItemPages_engine : (s.dropItemPages r).engine = s.engine := by
  unfold State.dropItemPages
  split
  · split <;> rfl
  · rfl

theorem State.dropItemPages_link : (s.dropItemPages r).link = s.link := by
  unfold State.dropItemPages
  split
  · split <;> rfl
  · rfl

/-- R15 step 3: the raw places and the reads of the item of a freed shot. -/
theorem State.dropItemPages_of_item (it : Item) (item : s.tport.item = some it) (source : it.source = r) :
    (∀ q : Fin 2, (s.dropItemPages r).tport.raw[q] = .empty) ∧ ∀ x ∈ (s.dropItemPages r).port.tether, x.wanted = false := by
  have abandoned : s.dropItemPages r = s.abandonRaw := by rw [State.dropItemPages, item]; exact if_pos source
  rw [abandoned]
  refine ⟨fun q => ?_, fun x member => ?_⟩
  · exact Vector.getElem_replicate q.isLt
  · obtain ⟨y, -, rfl⟩ := List.mem_map.mp member
    rfl

end Freeing

/-- A place keeps no entry of a dropped source. -/
theorem Place.key?_drop (hit : Source → Bool) (p : Place) (k : Key) (h : (p.drop hit).key? = some k) : hit k.source = false := by
  cases p with
  | empty | discarding => cases h
  | valid k' d =>
    by_cases dropped : hit k'.source = true
    · rw [Place.drop, if_pos dropped] at h
      cases h
    · rw [Place.drop, if_neg dropped] at h
      cases h
      exact Bool.eq_false_iff.mpr dropped
  | filling k' d n =>
    by_cases dropped : hit k'.source = true
    · rw [Place.drop, if_pos dropped] at h
      cases h
    · rw [Place.drop, if_neg dropped] at h
      cases h
      exact Bool.eq_false_iff.mpr dropped

theorem State.endRun_places (s : State) : s.endRun.engine.places = s.engine.places := by
  unfold State.endRun
  split
  · rfl
  · dsimp only
    split
    · unfold State.answerLane
      split <;> rfl
    · rfl

theorem State.dropFreedShot_places (s : State) (i : Fin 48) (n : Nat) :
    (s.dropFreedShot i n).engine.places = s.engine.places.map (Place.drop (Source.isShot i n)) := by
  unfold State.dropFreedShot
  dsimp only
  split
  · exact State.endRun_places _
  · rfl

theorem Source.isShot_iff (i : Fin 48) (n : Nat) (src : Source) : src.isShot i n = true ↔ src = .shot i n := by
  cases src with
  | shot j m => simp [Source.isShot]
  | live => simp [Source.isShot]

/-- R35, R143: a lane run of the freed shot ends, its read answered with zeros. -/
theorem State.dropFreedShot_of_run (s : State) (i : Fin 48) (n : Nat) (r : Run) (q : LaneRead) (rest : List LaneRead)
    (run : s.engine.run = some r) (source : r.key.source = .shot i n) (client : r.client = .lane) (lane : s.link.develop = q :: rest) :
    (s.dropFreedShot i n).engine.run = none ∧ (s.dropFreedShot i n).link = { s.link with
      develop := rest, sent := s.link.sent ++ [{ tag := q.tag, data := List.replicate (8 * q.count) 0 }]
      credits := s.link.credits + 1 } := by
  have hit : s.engine.runOf (Source.isShot i n) = true := by
    rw [Engine.runOf, run]
    exact (Source.isShot_iff i n _).mpr source
  unfold State.dropFreedShot
  rw [if_pos hit]
  simp [State.endRun, State.dropEntries, Engine.dropEntries, run, client, State.answerLane, lane, State.respond, LaneRead.zeros]

theorem State.dropFreedShot_of_noRun (s : State) (i : Fin 48) (n : Nat)
    (other : ∀ r, s.engine.run = some r → r.key.source ≠ .shot i n) :
    s.dropFreedShot i n = s.dropEntries (Source.isShot i n) := by
  refine if_neg fun hit => ?_
  unfold Engine.runOf at hit
  split at hit
  · next r run => exact other r run ((Source.isShot_iff i n _).mp hit)
  · cases hit

/-- Settles O52: by what the engine, the lanes and the port do when a record is freed. -/
theorem freedRecordsAreForgotten : Obligations.FreedRecordsAreForgotten := by
  unfold Obligations.FreedRecordsAreForgotten
  intro s t i x used freed
  have beyond := s.freeShot_beyond i x used
  have apart := s.apart_freeShot i
  have counter := s.freeShot_counter i
  have records := s.freeShot_record i
  rw [← freed] at beyond apart counter records
  have kept : t.engine = (s.disowned i x).engine ∧ t.link = (s.disowned i x).link ∧ t.tport = (s.disowned i x).tport ∧
      t.port = (s.disowned i x).port := by
    rw [freed, s.freeShot_of_used i x used]
    exact ⟨rfl, rfl, rfl, rfl⟩
  obtain ⟨engine, link, tport, port⟩ := kept
  rw [State.disowned, State.dropItemPages_engine] at engine
  rw [State.disowned, State.dropItemPages_link] at link
  refine ⟨by rw [records, if_pos rfl], fun j other => by rw [records, if_neg other], beyond.pool,
    (congrArg ShotTable.preList beyond.shots :), counter, beyond.queue, fun k p found => ?_, apart.item,
    fun r q rest run source client lane => ?_, fun other => ?_, fun it item source => ?_⟩
  · have at_ := List.find?_some found
    rw [engine, beq_iff_eq] at at_
    have dropped : ((s.engine.places[p]).drop (Source.isShot i x.number)).key? = some k := by
      have places := State.dropFreedShot_places { s with pool := { s.pool with free := s.pool.free ++ x.pages } } i x.number
      rw [places] at at_
      simpa using at_
    have miss := Place.key?_drop _ _ _ dropped
    exact fun e => Bool.false_ne_true (miss.symm.trans ((Source.isShot_iff i x.number _).mpr e))
  · rw [engine, link]
    exact State.dropFreedShot_of_run _ i x.number r q rest run source client lane
  · have dropped := State.dropFreedShot_of_noRun { s with pool := { s.pool with free := s.pool.free ++ x.pages } } i x.number other
    rw [engine, link, dropped]
    exact ⟨rfl, rfl⟩
  · rw [tport, port]
    refine State.dropItemPages_of_item _ _ it ?_ source
    exact (State.apart_dropFreedShot _ i x.number).item.trans item

/-! ### Posts (R181 to R183) -/

theorem State.perform_unknown (s : State) (slot : Fin 8) (kind : Byte) (a : Vector Beat 6) (h : kind = 0 ∨ 20 < kind.toNat) :
    s.perform slot kind a = s.complete slot .unknownKind 0 := by
  have outside : kind.toNat = 0 ∨ 20 < kind.toNat := h.imp (fun zero => by rw [zero]; rfl) id
  unfold State.perform
  split
  case h_21 => rfl
  all_goals omega

/-- Settles O42: a TAKEN copy only follows the bytes of the post; an unknown kind is refused at once. -/
theorem postsCollideOrAreTaken : Obligations.PostsCollideOrAreTaken := by
  unfold Obligations.PostsCollideOrAreTaken
  refine ⟨fun s c slot kind tag args request taken => ?_, fun s slot tag kind hc unknown => ?_⟩
  · have busy : ¬ s.canPost slot := fun h => h taken
    have command : s.command slot kind tag args =
        ((s.setSlot slot (s.req.slots[slot].load kind tag args)).raise .requestCollision).finishEvent s :=
      congrArg (State.finishEvent · s) (s.request_of_taken slot kind tag args busy)
    refine ⟨_, exec_posted c s slot kind tag args request, ?_⟩
    rw [command]
    refine ⟨⟨rfl, rfl⟩, ⟨fun j other => ?_, rfl, rfl, rfl, rfl, rfl⟩, ?_⟩
    · have apart : slot.val ≠ j.val := fun e => other (Fin.ext e.symm)
      simp [State.setSlot, State.raise, State.finishEvent, apart]
    · simp [State.setSlot, State.raise, State.finishEvent, Slot.load]
  · have code : kindCode kind.toNat = kind := by simp [kindCode]
    have answered := s.quiet_request slot kind.toNat tag [] .unknownKind 0 s hc s.backdrop_refl
      (by rw [code]; exact State.perform_unknown _ slot kind _ unknown)
    rwa [code] at answered

/-! ### Shots named by their number (R17) -/

section Named

variable (s : State) (n : Nat)

theorem State.named_of_none (h : s.findShot n = none) : s.named n = none := by rw [State.named, h]

theorem State.named_of_some (i : Fin 48) (x : Shot) (h : s.findShot n = some i) (hx : s.record i = some x) :
    s.named n = some ({ index := i, number := x.number }, x) := by simp [State.named, h, hx]

/-- R183: the values a hold request shows of the shot it names. -/
theorem State.holdResults_of (s : State) (i : Fin 48) (x : Shot) (h : s.record i = some x) :
    s.holdResults { index := i, number := x.number } = results [x.state.code, x.holds.code] := by
  simp [State.holdResults, State.shotAt, h]

theorem State.holdResults_of_free (s : State) (i : Fin 48) (m : Nat) (h : s.record i = none) :
    s.holdResults { index := i, number := m } = results [0, 0] := by
  simp [State.holdResults, State.shotAt, h]

end Named

end Sys2Proof.Machine
end

section
/-! SUPPORT. The requests that name a shot, map a view, or set focus: what each performs, and what follows it. -/

namespace Sys2Proof.Machine

/-! ### What a request is handed (R183) -/

section Performed

variable (s : State) (slot : Fin 8) (a : Vector Beat 6)

theorem State.perform_selectCapture (v : Beat) : s.perform slot (kindCode 3) (putArgs a [v]) = s.reqSelectCapture slot v.toNat :=
  congrArg (s.reqSelectCapture slot) (arg_putArgs_zero a v [])
theorem State.perform_moveLens (v : Beat) : s.perform slot (kindCode 6) (putArgs a [v]) = s.reqMoveLens slot v.toNat :=
  congrArg (s.reqMoveLens slot) (arg_putArgs_zero a v [])
theorem State.perform_fire (v : Beat) : s.perform slot (kindCode 7) (putArgs a [v]) = s.reqFire slot v.toNat :=
  congrArg (s.reqFire slot) (arg_putArgs_zero a v [])
theorem State.perform_unmapView (v : Beat) : s.perform slot (kindCode 9) (putArgs a [v]) = s.reqUnmapView slot v.toNat :=
  congrArg (s.reqUnmapView slot) (arg_putArgs_zero a v [])
theorem State.perform_releaseCard (v : Beat) : s.perform slot (kindCode 10) (putArgs a [v]) = s.reqReleaseCard slot v.toNat :=
  congrArg (s.reqReleaseCard slot) (arg_putArgs_zero a v [])
theorem State.perform_protect (v : Beat) : s.perform slot (kindCode 11) (putArgs a [v]) = s.reqProtect slot v.toNat :=
  congrArg (s.reqProtect slot) (arg_putArgs_zero a v [])
theorem State.perform_unprotect (v : Beat) : s.perform slot (kindCode 12) (putArgs a [v]) = s.reqUnprotect slot v.toNat :=
  congrArg (s.reqUnprotect slot) (arg_putArgs_zero a v [])
theorem State.perform_discard (v : Beat) : s.perform slot (kindCode 13) (putArgs a [v]) = s.reqDiscard slot v.toNat :=
  congrArg (s.reqDiscard slot) (arg_putArgs_zero a v [])
theorem State.perform_prioritise (v : Beat) : s.perform slot (kindCode 14) (putArgs a [v]) = s.reqPrioritise slot v.toNat :=
  congrArg (s.reqPrioritise slot) (arg_putArgs_zero a v [])
theorem State.perform_requeue (v : Beat) : s.perform slot (kindCode 15) (putArgs a [v]) = s.reqRequeue slot v.toNat :=
  congrArg (s.reqRequeue slot) (arg_putArgs_zero a v [])
theorem State.perform_dropTether (v : Beat) : s.perform slot (kindCode 16) (putArgs a [v]) = s.reqDropTether slot v.toNat :=
  congrArg (s.reqDropTether slot) (arg_putArgs_zero a v [])

theorem State.perform_setFocus (mode sel zone policy : Beat) :
    s.perform slot (kindCode 4) (putArgs a [mode, sel, zone, policy]) =
      s.reqSetFocus slot mode.toNat sel.toNat zone.toNat policy.toNat := by
  show s.reqSetFocus slot (arg _ 0) (arg _ 1) (arg _ 2) (arg _ 3) = _
  have given : ∀ i : Fin 4, i.val < [mode, sel, zone, policy].length := fun i => i.isLt
  rw [arg_putArgs _ _ 0 (given 0), arg_putArgs _ _ 1 (given 1), arg_putArgs _ _ 2 (given 2), arg_putArgs _ _ 3 (given 3)]
  rfl

theorem State.perform_mapView (view source shot mode profile stream : Beat) :
    s.perform slot (kindCode 8) (putArgs a [view, source, shot, mode, profile, stream]) =
      s.reqMapView slot view.toNat source.toNat shot.toNat mode.toNat profile.toNat stream.toNat := by
  show s.reqMapView slot (arg _ 0) (arg _ 1) (arg _ 2) (arg _ 3) (arg _ 4) (arg _ 5) = _
  have given : ∀ i : Fin 6, i.val < [view, source, shot, mode, profile, stream].length := fun i => i.isLt
  rw [arg_putArgs _ _ 0 (given 0), arg_putArgs _ _ 1 (given 1), arg_putArgs _ _ 2 (given 2), arg_putArgs _ _ 3 (given 3),
    arg_putArgs _ _ 4 (given 4), arg_putArgs _ _ 5 (given 5)]
  rfl

end Performed

theorem State.modifyShot_of (s : State) (i : Fin 48) (f : Shot → Shot) (x : Shot) (h : s.record i = some x) :
    s.modifyShot i f = s.setRecord i (some (f x)) := by rw [State.modifyShot, h]; rfl

/-- Settles O53: by the shot that the number finds. -/
theorem namedShotsAreFound : Obligations.NamedShotsAreFound := by
  unfold Obligations.NamedShotsAreFound
  intro s slot tag n hc
  refine ⟨fun lost => ?_, fun i x y found used hy => ⟨fun other => ?_, fun kept => ?_⟩⟩
  · have named (k : Byte) : (s.begun slot k tag [n]).named n.toNat = none := State.named_of_none (s.begun slot k tag [n]) _ lost
    refine ⟨s.quiet_request slot 10 tag [n] .noShot 0 s hc s.backdrop_refl ?_,
      s.quiet_request slot 11 tag [n] .noShot 0 s hc s.backdrop_refl ?_,
      s.quiet_request slot 12 tag [n] .noShot 0 s hc s.backdrop_refl ?_,
      s.quiet_request slot 13 tag [n] .noShot 0 s hc s.backdrop_refl ?_,
      s.quiet_request slot 14 tag [n] .noShot 0 s hc s.backdrop_refl ?_,
      s.quiet_request slot 15 tag [n] .noShot 0 s hc s.backdrop_refl ?_,
      s.quiet_request slot 16 tag [n] .noShot 0 s hc s.backdrop_refl ?_⟩
    · rw [State.perform_releaseCard, State.reqReleaseCard, named]; rfl
    · rw [State.perform_protect, State.reqProtect, named]; rfl
    · rw [State.perform_unprotect, State.reqUnprotect, named]; rfl
    · rw [State.perform_discard, State.reqDiscard, named]; rfl
    · rw [State.perform_prioritise, State.reqPrioritise, named]; rfl
    · rw [State.perform_requeue, State.reqRequeue, named]; rfl
    · rw [State.perform_dropTether, State.reqDropTether, named]; rfl
  · have named (k : Byte) := State.named_of_some (s.begun slot k tag [n]) n.toNat i x found used
    have shown (k : Byte) := State.holdResults_of (s.begun slot k tag [n]) i x used
    refine ⟨s.quiet_request slot 11 tag [n] .wrongState _ s hc s.backdrop_refl ?_,
      s.quiet_request slot 12 tag [n] .wrongState _ s hc s.backdrop_refl ?_⟩
    · rw [State.perform_protect, State.reqProtect, named]
      dsimp only
      rw [if_neg other, State.holdDone, shown]; rfl
    · rw [State.perform_unprotect, State.reqUnprotect, named]
      dsimp only
      rw [if_neg other, State.holdDone, shown]; rfl
  · have named (k : Byte) := State.named_of_some (s.begun slot k tag [n]) n.toNat i x found used
    refine s.quiet_request slot 11 tag [n] .done _ { s with shots := { s.shots with records := s.shots.records.set i (some y) } } hc
      s.backdrop_refl ?_
    have shown := State.holdResults_of ((s.begun slot (kindCode 11) tag [n]).setRecord i (some y)) i y (State.setRecord_same _ _ _)
    have number : y.number = x.number := by rw [hy]
    have state : y.state = .kept := by rw [hy]; exact kept
    rw [number, state] at shown
    rw [State.perform_protect, State.reqProtect, named]
    dsimp only
    rw [if_pos kept, State.modifyShot_of (s.begun slot (kindCode 11) tag [n]) _ _ x used, State.holdDone, ← hy, shown]
    rfl

/-! ### The freeing check (R16) -/

section Check

variable (s : State) (i : Fin 48) (y : Shot) (h : s.record i = some y)

include h

theorem State.freeingCheck_stays (keeps : y.state = .kept ∧ (y.holds ≠ Holds.empty ∨ y.views ≠ 0) ∨ y.state = .discarded ∧ y.views ≠ 0) :
    s.freeingCheck i = s := by
  rw [State.freeingCheck, h]
  rcases keeps with ⟨kept, some⟩ | ⟨gone, viewed⟩
  · dsimp only
    rw [kept]
    exact if_neg fun ⟨empty, unviewed⟩ => some.elim (fun k => k empty) (fun k => k unviewed)
  · dsimp only
    rw [gone]
    exact if_neg viewed

theorem State.freeingCheck_frees
    (nothing : y.state = .kept ∧ y.holds = Holds.empty ∧ y.views = 0 ∨ y.state = .discarded ∧ y.views = 0) :
    s.freeingCheck i = s.freeShot i := by
  rw [State.freeingCheck, h]
  rcases nothing with ⟨kept, none⟩ | ⟨gone, unviewed⟩
  · dsimp only
    rw [kept]
    exact if_pos none
  · dsimp only
    rw [gone]
    exact if_pos unviewed

end Check

/-! ### A part at rest stays at rest -/

section Rest

variable {s t : State} (steady : s.Steady t) (aside : s.Aside t) (apart : s.Apart t)

include steady aside

theorem State.halfPress_of : t.halfPress = s.halfPress := by
  rw [State.halfPress, State.fullPress, aside.release, steady.tables]; rfl

theorem State.restful_of (h : s.restful) : t.restful := by
  unfold State.restful
  rw [State.halfPress_of steady aside, aside.release, steady.tables]
  exact h

theorem State.focusStateNow_of : t.focusStateNow = s.focusStateNow := by
  unfold State.focusStateNow State.lensHomed
  rw [State.halfPress_of steady aside, aside.focus, steady.lens]

include apart

theorem State.fireless_of (idle : t.engineIdle) (h : s.fireless) : t.fireless := by
  obtain ⟨quiet, port, -, focus⟩ := h
  refine ⟨quiet.imp (State.restful_of steady aside) fun frame => ?_, apart.portQuiet port, idle, ?_⟩
  · rw [aside.intake]
    exact frame
  · rw [State.focusStateNow_of steady aside, aside.focus]
    exact focus

theorem State.calm_of (idle : t.engineIdle) (h : s.calm) : t.calm := by
  obtain ⟨rest, port, engine, focus⟩ := h
  obtain ⟨-, port', idle', focus'⟩ := State.fireless_of steady aside apart idle ⟨.inl rest, port, engine, focus⟩
  exact ⟨State.restful_of steady aside rest, port', idle', focus'⟩

end Rest

/-- R15: an idle engine stays idle when a record is freed. -/
theorem State.freeShot_engineIdle (s : State) (i : Fin 48) (h : s.engineIdle) : (s.freeShot i).engineIdle := by
  cases used : s.record i with
  | none => rw [s.freeShot_of_free i used]; exact h
  | some x =>
    obtain ⟨run, stream, lane⟩ := h
    have dropped := State.dropFreedShot_of_noRun { s with pool := { s.pool with free := s.pool.free ++ x.pages } } i x.number
      fun r hr => by rw [run] at hr; cases hr
    have engine : (s.freeShot i).engine = (s.dropEntries (Source.isShot i x.number)).engine := by
      rw [s.freeShot_of_used i x used]
      show (s.disowned i x).engine = _
      rw [State.disowned, State.dropItemPages_engine, dropped]
      rfl
    have link : (s.freeShot i).link = s.link := by
      rw [s.freeShot_of_used i x used]
      show (s.disowned i x).link = _
      rw [State.disowned, State.dropItemPages_link, dropped]
      rfl
    unfold State.engineIdle
    rw [engine, link]
    exact ⟨run, stream, lane⟩

theorem State.freeShot_calm (s : State) (i : Fin 48) (h : s.calm) : (s.freeShot i).calm :=
  have ⟨_, _, idle, _⟩ := h
  State.calm_of (s.steady_freeShot i) (s.aside_freeShot i) (s.apart_freeShot i) (s.freeShot_engineIdle i idle) h

theorem State.freeShot_fireless (s : State) (i : Fin 48) (h : s.fireless) : (s.freeShot i).fireless :=
  have ⟨_, _, idle, _⟩ := h
  State.fireless_of (s.steady_freeShot i) (s.aside_freeShot i) (s.apart_freeShot i) (s.freeShot_engineIdle i idle) h

/-! ### What a state became -/

section Became

variable {s t e : State} {set : BitVec 20} (h : s.became t e set)

include h

theorem State.became.shots : t.shots = e.shots := (congrArg State.shots h.1 :)
theorem State.became.record (i : Fin 48) : t.record i = e.record i := by rw [State.record, h.shots]; rfl
theorem State.became.pool : t.pool = e.pool := (congrArg State.pool h.1 :)
theorem State.became.queue : t.queue = e.queue := (congrArg State.queue h.1 :)
theorem State.became.release : t.release = e.release := (congrArg State.release h.1 :)
theorem State.became.intake : t.intake = e.intake := (congrArg State.intake h.1 :)

end Became

/-- What is left when the shot at an index has been freed, the release unit apart. -/
theorem State.became_freeShot {u s t : State} {i : Fin 48} {y : Shot} {r : ReleaseUnit} {set : BitVec 20} (used : s.record i = some y)
    (h : u.became t { s.freeShot i with release := r } set) :
    t.record i = none ∧ (∀ j, j ≠ i → t.record j = s.record j) ∧ t.queue = s.queue ∧ t.release = r ∧ t.intake = s.intake ∧
      t.shots.preList = dropElem i s.shots.preList ∧ t.pool = { s.pool with free := s.pool.free ++ y.pages } := by
  have records (j : Fin 48) : t.record j = if j = i then none else s.record j := (h.record j).trans (s.freeShot_record i j)
  have beyond := s.freeShot_beyond i y used
  exact ⟨by rw [records, if_pos rfl], fun j other => by rw [records, if_neg other], h.queue.trans beyond.queue, h.release,
    h.intake.trans beyond.intake, (congrArg ShotTable.preList (h.shots.trans beyond.shots) :), h.pool.trans beyond.pool⟩

/-! ### Hold requests (R18, R19) -/

section Holding

variable (s : State) (slot : Fin 8) (kind : Nat) (tag : Word32) (n : Beat) (i : Fin 48) (x y : Shot) (f : Shot → Shot)
  (hc : s.canPost slot) (used : s.record i = some x) (hy : y = f x) (state : y.state = .kept)
  (old : State)

include hc used hy state

theorem State.hold_stays (number : y.number = x.number) (keeps : y.holds ≠ Holds.empty ∨ y.views ≠ 0)
    (performed : (s.begun slot (kindCode kind) tag [n]).perform slot (kindCode kind) (putArgs s.req.slots[slot].args [n]) =
      ((((s.begun slot (kindCode kind) tag [n]).modifyShot i f).freeingCheck i).holdDone slot .done
        { index := i, number := x.number }).settle old) :
    ∃ t, (.next (s.command slot (kindCode kind) tag [n]) : Result) = .next t ∧
      s.served t slot kind tag .done (results [ShotState.kept.code, y.holds.code]) ∧ t.windows = s.windows ∧ t.lens = s.lens ∧
      (s.calm → s.became t { s with shots := { s.shots with records := s.shots.records.set i (some y) } } Cause.requestDone.bit) := by
  have after : ((s.begun slot (kindCode kind) tag [n]).setRecord i (some y)).record i = some y := State.setRecord_same _ _ _
  have shown := State.holdResults_of _ i y after
  rw [number, state] at shown
  rw [State.modifyShot_of (s.begun slot (kindCode kind) tag [n]) _ _ x used, ← hy, State.freeingCheck_stays _ i y after (.inl ⟨state, keeps⟩), State.holdDone, shown]
    at performed
  obtain ⟨t, next, served, windows, lens, -, calm, -⟩ := s.settled_effect slot kind tag [n] .done _
    ((s.begun slot (kindCode kind) tag [n]).setRecord i (some y)) old hc (State.steady_setRecord _ _ _).within performed
  exact ⟨t, next, served, windows, lens, fun rest => State.became_of_causes (calm rest) rfl⟩

theorem State.hold_frees (empty : y.holds = Holds.empty) (unviewed : y.views = 0)
    (performed : (s.begun slot (kindCode kind) tag [n]).perform slot (kindCode kind) (putArgs s.req.slots[slot].args [n]) =
      ((((s.begun slot (kindCode kind) tag [n]).modifyShot i f).freeingCheck i).holdDone slot .done
        { index := i, number := x.number }).settle old) :
    ∃ t, (.next (s.command slot (kindCode kind) tag [n]) : Result) = .next t ∧
      s.served t slot kind tag .done (results [0, 0]) ∧ t.windows = s.windows ∧ t.lens = s.lens ∧
      (s.calm → t.record i = none ∧ (∀ j, j ≠ i → t.record j = s.record j) ∧ t.queue = s.queue ∧ t.release = s.release ∧
          t.intake = s.intake ∧ t.pool = { s.pool with free := s.pool.free ++ y.pages }) := by
  have after : ((s.begun slot (kindCode kind) tag [n]).setRecord i (some y)).record i = some y := State.setRecord_same _ _ _
  rw [State.modifyShot_of (s.begun slot (kindCode kind) tag [n]) _ _ x used, ← hy, State.freeingCheck_frees _ i y after (.inl ⟨state, empty, unviewed⟩), State.holdDone,
    State.holdResults_of_free _ i x.number (by rw [State.freeShot_record, if_pos rfl])] at performed
  have set := State.steady_setRecord (s.begun slot (kindCode kind) tag [n]) i (some y)
  have freed := State.steady_freeShot ((s.begun slot (kindCode kind) tag [n]).setRecord i (some y)) i
  obtain ⟨t, next, served, windows, lens, -, calm, -⟩ := s.settled_effect slot kind tag [n] .done _ _ old hc
    (set.trans freed).within performed
  refine ⟨t, next, served, windows.trans freed.windows, lens.trans freed.lens, fun rest => ?_⟩
  have became := calm (State.freeShot_calm _ i rest)
  have release := (State.aside_freeShot ((s.begun slot (kindCode kind) tag [n]).setRecord i (some y)) i).release
  obtain ⟨record, others, queue, -, intake, -, pool⟩ := State.became_freeShot (r := (State.freeShot _ i).release) after became
  exact ⟨record, fun j other => (others j other).trans (State.setRecord_other _ _ _ _ other), queue, became.release.trans release,
    intake, pool⟩

end Holding

/-- Settles O54: for either request by whether its hold is held and what then keeps the shot. -/
theorem holdRequestsRemoveHolds : Obligations.HoldRequestsRemoveHolds := by
  unfold Obligations.HoldRequestsRemoveHolds
  intro s c kind slot tag n i x y had hc found used request
  have named (k : Byte) := State.named_of_some (s.begun slot k tag [n]) n.toNat i x found used
  have shown (k : Byte) := State.holdResults_of (s.begun slot k tag [n]) i x used
  rcases request with ⟨rfl, rfl, rfl, hy⟩ | ⟨rfl, rfl, kept, rfl, hy⟩
  · have performed (held : x.holds.card = true) :
        (s.begun slot (kindCode 10) tag [n]).perform slot (kindCode 10) (putArgs s.req.slots[slot].args [n]) =
          ((((s.begun slot (kindCode 10) tag [n]).modifyShot i fun x => { x with holds := { x.holds with card := false } }).freeingCheck
            i).holdDone slot .done { index := i, number := x.number }).settle (s.begun slot (kindCode 10) tag [n]) := by
      rw [State.perform_releaseCard, State.reqReleaseCard, named]
      exact if_pos held
    refine ⟨fun free => ?_, fun held kept keeps => ?_, fun held kept empty unviewed => ?_⟩
    · refine s.quiet_request slot 10 tag [n] .done _ s hc s.backdrop_refl ?_
      rw [State.perform_releaseCard, State.reqReleaseCard, named]
      dsimp only
      rw [free, if_neg Bool.false_ne_true, State.holdDone, shown]; rfl
    · have same : y.views = x.views := by rw [hy]
      exact s.hold_stays slot 10 tag n i x y _ hc used hy (by rw [hy]; exact kept) _ (by rw [hy]) (by rwa [same]) (performed held)
    · obtain ⟨t, freed⟩ := s.hold_frees slot 10 tag n i x y _ hc used hy (by rw [hy]; exact kept) _ empty
        (by rw [hy]; exact unviewed) (performed held)
      rw [show y.pages = x.pages by rw [hy]] at freed
      exact ⟨t, freed⟩
  · have performed (held : x.holds.protect = true) :
        (s.begun slot (kindCode 12) tag [n]).perform slot (kindCode 12) (putArgs s.req.slots[slot].args [n]) =
          ((((s.begun slot (kindCode 12) tag [n]).modifyShot i fun x => { x with holds := { x.holds with protect := false } }).freeingCheck
            i).holdDone slot .done { index := i, number := x.number }).settle (s.begun slot (kindCode 12) tag [n]) := by
      rw [State.perform_unprotect, State.reqUnprotect, named]
      exact (if_pos kept).trans (if_pos held)
    refine ⟨fun free => ?_, fun held kept keeps => ?_, fun held kept empty unviewed => ?_⟩
    · refine s.quiet_request slot 12 tag [n] .done _ s hc s.backdrop_refl ?_
      rw [State.perform_unprotect, State.reqUnprotect, named]
      dsimp only
      rw [if_pos kept, free, if_neg Bool.false_ne_true, State.holdDone, shown]; rfl
    · have same : y.views = x.views := by rw [hy]
      exact s.hold_stays slot 12 tag n i x y _ hc used hy (by rw [hy]; exact kept) _ (by rw [hy]) (by rwa [same]) (performed held)
    · obtain ⟨t, freed⟩ := s.hold_frees slot 12 tag n i x y _ hc used hy (by rw [hy]; exact kept) _ empty
        (by rw [hy]; exact unviewed) (performed held)
      rw [show y.pages = x.pages by rw [hy]] at freed
      exact ⟨t, freed⟩

end Sys2Proof.Machine
end

section
/-! SUPPORT. The triggers and the end of a frame: what fires, what opens, and what follows while a frame is in flight. -/

namespace Sys2Proof.Machine

/-! ### What the port's taking of an item leaves (R152) -/

section ServeOut

variable (s : State)

/-- R152: of the pool, the shot table and the request unit, the taking of an item changes the tether state of the shot taken. -/
theorem State.ledger_takeItem (r : ShotRef) (x : Shot) (t : TetherPart) :
    (s.modifyShot r.index fun x => x.withTetherState .sending).Ledger (s.takeItem r x t) := by
  unfold State.takeItem
  dsimp only
  refine State.Ledger.trans ?_ (State.ledger_beginUnit _ _)
  split
  · exact ⟨rfl, rfl, rfl⟩
  · refine State.Ledger.trans ?_ ((State.ledger_feedPlace _ 0).trans (State.ledger_feedPlace _ 1))
    exact ⟨rfl, rfl, rfl⟩

theorem State.shotAt_record (r : ShotRef) (x : Shot) (h : s.shotAt r = some x) : s.record r.index = some x := by
  unfold State.shotAt at h
  split at h
  · next y used =>
    split at h
    · rw [used, h]
    · cases h
  · cases h

/-- The taking of an item leaves the pool, and of the shot table all but a record that has a tether part. -/
theorem State.takeNext_shots : s.takeNext.pool = s.pool ∧ s.takeNext.shots.counter = s.shots.counter ∧
    s.takeNext.shots.preList = s.shots.preList ∧
    ∀ j, (∀ x, s.record j = some x → x.tether = none) → s.takeNext.record j = s.record j := by
  have same : s.pool = s.pool ∧ s.shots.counter = s.shots.counter ∧ s.shots.preList = s.shots.preList ∧
    ∀ j, (∀ x, s.record j = some x → x.tether = none) → s.record j = s.record j := ⟨rfl, rfl, rfl, fun _ _ => rfl⟩
  unfold State.takeNext
  split
  · split
    · exact same
    · next r _ _ =>
      split
      · next x held =>
        split
        · next t part =>
          have ledger := s.ledger_takeItem r x t
          refine ⟨ledger.pool, (congrArg ShotTable.counter ledger.shots :), (congrArg ShotTable.preList ledger.shots :),
            fun j none => ?_⟩
          have other : j ≠ r.index := by
            rintro rfl
            rw [none x (s.shotAt_record r x held)] at part
            cases part
          rw [State.record, ledger.shots]
          exact s.modifyShot_other _ _ _ other
        · exact same
      · exact same
  · exact same

theorem State.serveOut_beyond : s.takeNext.Beyond s.serveOut :=
  (State.beyond_engineActs 128 _).trans (State.beyond_resumeUnit _)

theorem State.serveOut_pool : s.serveOut.pool = s.pool := s.serveOut_beyond.pool.trans s.takeNext_shots.1

theorem State.serveOut_counter : s.serveOut.shots.counter = s.shots.counter :=
  have ⟨_, counter, _, _⟩ := s.takeNext_shots
  (congrArg ShotTable.counter s.serveOut_beyond.shots :).trans counter

theorem State.serveOut_preList : s.serveOut.shots.preList = s.shots.preList :=
  have ⟨_, _, preList, _⟩ := s.takeNext_shots
  (congrArg ShotTable.preList s.serveOut_beyond.shots :).trans preList

/-- A record without a tether part stands while the port takes an item. -/
theorem State.serveOut_record (j : Fin 48) (h : ∀ x, s.record j = some x → x.tether = none) : s.serveOut.record j = s.record j :=
  have ⟨_, _, _, records⟩ := s.takeNext_shots
  (s.serveOut_beyond.record j).trans (records j h)

end ServeOut

/-! ### What follows an event with a frame in flight (R57, R65) -/

/-- What stays of a state `s` in which a frame is in flight when an event has been followed: `t`. -/
structure State.Framed (s t : State) : Prop where
  steady : s.Steady t
  intake : t.intake = s.intake
  phase : t.phase = s.phase
  pool : t.pool = s.pool
  counter : t.shots.counter = s.shots.counter
  preList : t.shots.preList = s.shots.preList
  record : ∀ j, (∀ x, s.record j = some x → x.tether = none) → t.record j = s.record j
  release : ∃ w due, t.release = { s.release with state := s.releaseStateNow, waiting := w, liveTimer := due }

theorem State.framed_settle (s old : State) (h : s.intake.frame.isSome = true) : s.Framed (s.settle old) := by
  obtain ⟨w, due, e⟩ := s.settle_of_frame old h
  have steady := s.steady_settle old
  have aside := State.aside_serveOut (s.deriveFocus.awaiting s.deriveFocus.releaseStateNow w due)
  have pool := State.serveOut_pool (s.deriveFocus.awaiting s.deriveFocus.releaseStateNow w due)
  have counter := State.serveOut_counter (s.deriveFocus.awaiting s.deriveFocus.releaseStateNow w due)
  have preList := State.serveOut_preList (s.deriveFocus.awaiting s.deriveFocus.releaseStateNow w due)
  have record := State.serveOut_record (s.deriveFocus.awaiting s.deriveFocus.releaseStateNow w due)
  rw [← e] at aside pool counter preList record
  exact ⟨steady, aside.intake, aside.phase, pool, counter, preList, record, w, due, aside.release⟩

/-! ### Live triggers (R57, R8) -/

theorem State.fillingSlot_eq (s : State) : s.fillingSlot = if s.windows.designation = some 0 then 1 else 0 := by
  rw [State.fillingSlot]
  cases s.windows.designation with
  | none => rfl
  | some d =>
    by_cases zero : d = 0
    · simp [zero]
    · simp [zero]

theorem State.liveTimerReached_of (s : State) (due : Nat) (timer : s.release.liveTimer = some due) (reached : due ≤ s.now) :
    s.liveTimerReached = ((s.liveFallsDue due).settle s).finishEvent s := by
  rw [State.liveTimerReached, timer]
  exact if_pos reached

/-- R67 to R69: what the opening of a frame leaves. -/
theorem State.openFrame_of (s : State) (k : FrameKind) (g : Geometry) :
    ∃ phase, s.openFrame k g = { s with
        release := { s.release with pulses := s.release.pulses ++ [s.newPulse] }
        intake := {
          frame := some {
            serial := s.intake.serial + 1, kind := k, geom := g, accepted := 0, overlength := false, trigAt := s.now
            latch := s.latchNow, deadline := s.now + s.tables.timing.readoutLimit }
          serial := s.intake.serial + 1 }
        phase := phase } ∧ phase.row = some 0 := ⟨(s.openFrame k g).phase, rfl, rfl⟩

theorem State.Beyond.exists {s t : State} (h : s.Beyond t) :
    ∃ e l p q, t = { s with engine := e, link := l, port := p, tport := q } :=
  ⟨t.engine, t.link, t.port, t.tport,
    (congrArg (fun u : State => ({ u with engine := t.engine, link := t.link, port := t.port, tport := t.tport } : State)) h :)⟩

/-- R57, R67 to R69: what a live trigger that fires opens, beyond the engine and the lanes. -/
theorem State.liveFallsDue_of_noFrame (s : State) (due : Nat) (noFrame : s.intake.frame = none) (configured : s.pool.configured = true) :
    ∃ e l p q f phase, s.liveFallsDue due = { s with
        engine := e, link := l, port := p, tport := q
        release := { s.release with
          liveTimer := some (due + s.tables.timing.livePeriod), pulses := s.release.pulses ++ [s.newPulse] }
        intake := { frame := some f, serial := s.intake.serial + 1 }
        phase := phase } ∧
      f = {
        serial := s.intake.serial + 1, kind := .live s.fillingSlot, geom := s.tables.live.geom, accepted := 0, overlength := false
        trigAt := s.now, latch := s.latchNow, deadline := s.now + s.tables.timing.readoutLimit } ∧
      phase.row = some 0 := by
  have fire : (s.intake.frame.isNone && s.pool.configured) = true := by rw [noFrame, configured]; rfl
  obtain ⟨e, l, p, q, dropped⟩ := (State.beyond_dropLive
    ({ s with release := { s.release with liveTimer := some (due + s.tables.timing.livePeriod) } } : State) (· == s.fillingSlot)).exists
  refine ⟨e, l, p, q, _, (State.openFrame _ (.live s.fillingSlot) s.tables.live.geom).phase,
    (if_pos fire).trans ((congrArg (fun u : State => u.openFrame (.live s.fillingSlot) s.tables.live.geom) dropped).trans rfl), rfl, rfl⟩

/-- Settles O27: with no frame in flight by what the live trigger opens, and with one by its being skipped. -/
theorem liveTriggersOpenFrames : Obligations.LiveTriggersOpenFrames := by
  unfold Obligations.LiveTriggersOpenFrames
  refine ⟨fun s due timer reached noFrame configured => ?_, fun s due timer reached frame => ?_⟩
  · have next : exec .liveTrigger s = .next (((s.liveFallsDue due).settle s).finishEvent s) :=
      congrArg Host.Outcome.next (s.liveTimerReached_of due timer reached)
    obtain ⟨e, l, p, q, f, phase, opened, frame, row⟩ := s.liveFallsDue_of_noFrame due noFrame configured
    have framed := State.framed_settle (s.liveFallsDue due) s (by rw [opened]; rfl)
    have backdrop := State.backdrop_trans (s.steady_liveFallsDue due).backdrop framed.steady.backdrop
    have lens := framed.steady.lens.trans (s.steady_liveFallsDue due).lens
    have windows := framed.steady.windows.trans (s.steady_liveFallsDue due).windows
    obtain ⟨-, intake, phased, pool, -, -, -, w, d, release⟩ := framed
    generalize (s.liveFallsDue due).settle s = t at next backdrop lens windows intake phased pool release
    rw [opened] at intake phased pool release
    refine ⟨_, f, next, backdrop, intake, by rw [frame], by rw [frame, s.fillingSlot_eq], by rw [frame], by rw [frame], by rw [frame],
      by rw [frame], by rw [frame], by rw [frame]; rfl, (congrArg ReleaseUnit.pulses release :), ?_, pool, lens, windows⟩
    rw [← row]
    exact (congrArg PhaseUnit.row phased :)
  · have next : exec .liveTrigger s = .next (((s.liveFallsDue due).settle s).finishEvent s) :=
      congrArg Host.Outcome.next (s.liveTimerReached_of due timer reached)
    have inFlight := Option.isSome_iff_ne_none.mpr frame
    have skipped := s.liveFallsDue_of_frame due inFlight
    have framed := State.framed_settle (s.liveFallsDue due) s (by rw [skipped]; exact inFlight)
    have backdrop := State.backdrop_trans (s.steady_liveFallsDue due).backdrop framed.steady.backdrop
    obtain ⟨-, intake, phased, pool, -, -, -, w, d, release⟩ := framed
    generalize (s.liveFallsDue due).settle s = t at next backdrop intake phased pool release
    rw [skipped] at intake phased pool release
    exact ⟨_, next, backdrop, intake, pool, phased, (congrArg ReleaseUnit.pulses release :)⟩

/-! ### Shot triggers (R64, R65, R67) -/

theorem State.activeProfile_of (s : State) (c : Fin 4) (p : Capture) (active : s.release.active = some c)
    (profile : s.tables.captures[c] = some p) : s.activeProfile = some p := by
  rw [State.activeProfile, active]
  exact profile

theorem State.newNumber_congr {s t : State} (h : t.shots = s.shots) : t.newNumber = s.newNumber := by
  simp only [State.newNumber, State.heldNumbers, State.record, h]

section Ready

variable (s : State) (k : TriggerKind) (c : Fin 4) (p : Capture) (i : Fin 48) (active : s.release.active = some c)
  (profile : s.tables.captures[c] = some p) (free : s.lowestFree = some i)

include active profile free

/-- R65: no condition of a trigger fails. -/
theorem State.failing_none (noFrame : s.intake.frame = none) (pages : s.pool.reservation + p.geom.need ≤ s.pool.free.length)
    (focus : k = .pre ∨ s.focus.policyFocus = false ∨ s.focusPriority = true) : s.failing k = none := by
  have need : s.activeNeed = p.geom.need := by rw [State.activeNeed, s.activeProfile_of c p active profile, Option.map_some, Option.getD_some]
  have focused : (k != .pre && s.focus.policyFocus && !s.focusPriority) = false := by
    rcases focus with rfl | policy | priority
    · rfl
    · simp [policy]
    · simp [priority]
  simp [State.failing, noFrame, free, need, focused, pages]

theorem State.fireShot_eq : s.fireShot k = ({ s.openShot i c p k.destiny with
    release := (s.openShot i c p k.destiny).release.fired k s.now } : State).openFrame (.shot i) p.geom := by
  rw [State.fireShot, active, s.activeProfile_of c p active profile, free]

omit active profile free in
theorem State.openShot_of (d : Destiny) (n m : Nat) (hn : s.newNumber = n) (hm : p.geom.need = m) : s.openShot i c p d = { s with
    shots := { s.shots with records := s.shots.records.set i (some (newShot n c p d s.timeBase)), counter := nextNumber n }
    pool := { s.pool with reservation := s.pool.reservation + m } } := by
  unfold State.openShot
  dsimp only
  rw [hn, hm]
  rfl

/-- R10, R11, R67 to R69: what a shot trigger that fires opens. -/
theorem State.fireShot_of (n m : Nat) (hn : s.newNumber = n) (hm : p.geom.need = m) :
    ∃ f phase, s.fireShot k = { s with
        shots := { s.shots with
          records := s.shots.records.set i (some (newShot n c p k.destiny s.timeBase)), counter := nextNumber n }
        pool := { s.pool with reservation := s.pool.reservation + m }
        release := { s.release.fired k s.now with pulses := s.release.pulses ++ [s.newPulse] }
        intake := { frame := some f, serial := s.intake.serial + 1 }
        phase := phase } ∧
      f = {
        serial := s.intake.serial + 1, kind := .shot i, geom := p.geom, accepted := 0, overlength := false
        trigAt := s.now, latch := s.latchNow, deadline := s.now + s.tables.timing.readoutLimit } ∧
      phase.row = some 0 := by
  have fires := s.fireShot_eq k c p i active profile free
  rw [s.openShot_of c p i k.destiny n m hn hm] at fires
  obtain ⟨phase, opened, row⟩ := State.openFrame_of ({ s with
    shots := { s.shots with
      records := s.shots.records.set i (some (newShot n c p k.destiny s.timeBase)), counter := nextNumber n }
    pool := { s.pool with reservation := s.pool.reservation + m }
    release := s.release.fired k s.now } : State) (.shot i) p.geom
  exact ⟨_, phase, fires.trans opened, rfl, row⟩

end Ready

/-- R64, R65: a trigger none of whose conditions fails, once room has been made, fires. -/
theorem State.testTrigger_of_ready (s u : State) (k : TriggerKind) (room : s.roomFor k = u) (ready : u.failing k = none)
    (frame : (u.fireShot k).intake.frame.isSome = true) :
    ∃ w due, s.testTrigger k = (u.fireShot k).awaiting (u.fireShot k).releaseStateNow w due := by
  obtain ⟨w, due, derived⟩ := State.deriveRelease_of_frame (u.fireShot k) u frame
  exact ⟨w, due, by rw [State.testTrigger, room, ready]; exact derived⟩

theorem exec_shotTriggerDue (s : State) (k : TriggerKind) (wanted : s.wantedTrigger = some k) (waiting : s.release.waiting = none)
    (due : s.shotDue = true) : exec .shotTriggerDue s = .next (((s.testTrigger k).settle s).finishEvent s) := by
  have falls : s.shotFallsDue = ((s.testTrigger k).settle s).finishEvent s := by
    rw [State.shotFallsDue, wanted]
    exact if_pos (by rw [waiting, due]; rfl)
  exact congrArg Host.Outcome.next falls

theorem State.roomFor_of_kind (s : State) (k : TriggerKind) (h : k ≠ .pre) : s.roomFor k = s := if_neg fun e => h e.1

theorem State.roomFor_of_room (s : State) (k : TriggerKind) (h : s.hasRoom s.activeNeed = true) : s.roomFor k = s := by
  unfold State.roomFor
  split
  · cases s.unviewedList with
    | nil => rfl
    | cons i is => exact if_pos h
  · rfl

/-- R65 conditions 2 and 3, from the record and the pages found. -/
theorem State.hasRoom_of (s : State) (i : Fin 48) (need : Nat) (free : s.lowestFree = some i)
    (pages : s.pool.reservation + need ≤ s.pool.free.length) : s.hasRoom need = true := by
  rw [State.hasRoom, free]
  exact decide_eq_true pages

/-- R22: the unviewed shots of the pre-capture list, by their view counts. -/
theorem State.unviewedList_eq (s : State) :
    s.unviewedList = s.shots.preList.filter fun j => (s.record j).map (·.views) = some 0 := by
  refine List.filter_congr fun j _ => ?_
  rw [State.unviewed]
  cases s.record j with
  | none => rfl
  | some x => simp [beq_eq_decide]

/-! Room made by one eviction (R23, R58). -/

section Evicted

variable (s : State) (i : Fin 48)

theorem State.evict_record (j : Fin 48) : (s.evict i).record j = if j = i then none else s.record j := s.freeShot_record i j

theorem State.evict_pool : (s.evict i).pool = { s.pool with free := s.pool.free ++ pagesOf (s.record i) } := s.freeShot_pool i

theorem State.evict_preList (x : Shot) (used : s.record i = some x) : (s.evict i).shots.preList = dropElem i s.shots.preList :=
  (congrArg ShotTable.preList (s.freeShot_beyond i x used).shots :)

/-- A record that has been freed is found FREE, by itself or a lower one. -/
theorem State.lowestFree_isSome (h : s.record i = none) : ∃ j, s.lowestFree = some j := by
  refine Option.isSome_iff_exists.mp (List.find?_isSome.mpr ⟨i, List.mem_finRange i, ?_⟩)
  rw [h]
  rfl

theorem State.used_of_lowestFree (h : s.lowestFree = none) : s.record i ≠ none := by
  intro free
  have used := List.find?_eq_none.mp h i (List.mem_finRange i)
  rw [free] at used
  exact used rfl

/-- R23: one eviction is enough where the shot's pages are. -/
theorem State.roomFor_evicts (need : Nat) (rest : List (Fin 48)) (hneed : s.activeNeed = need) (noFrame : s.intake.frame = none)
    (lacks : s.lowestFree = none ∨ s.pool.free.length < s.pool.reservation + need) (unviewed : s.unviewedList = i :: rest)
    (enough : (s.evict i).hasRoom need = true) : s.roomFor .pre = s.evict i := by
  have lacking : ¬ s.hasRoom need = true := by
    rw [State.hasRoom]
    rcases lacks with none | short
    · rw [none]
      exact Bool.false_ne_true
    · rw [decide_eq_false (Nat.not_le.mpr short), Bool.and_false]
      exact Bool.false_ne_true
  unfold State.roomFor
  rw [if_pos ⟨rfl, by rw [noFrame]; rfl⟩, hneed, unviewed]
  refine (if_neg lacking).trans ?_
  cases rest with
  | nil => rfl
  | cons j rest => exact if_pos enough

end Evicted

/-- Settles O28: by the opening of the record and the frame, and for lack of room by the one eviction before it. -/
theorem readyShotTriggersFire : Obligations.ReadyShotTriggersFire := by
  unfold Obligations.ReadyShotTriggersFire
  refine ⟨fun s k c p i wanted waiting due active profile noFrame free pages focus => ?_,
    fun s c p i rest x wanted waiting due active profile noFrame lacks unviewed used enough => ?_⟩
  · obtain ⟨n, hn⟩ : ∃ n, s.newNumber = n := ⟨_, rfl⟩
    obtain ⟨m, hm⟩ : ∃ m, p.geom.need = m := ⟨_, rfl⟩
    obtain ⟨f, phase, fired, frame, row⟩ := s.fireShot_of k c p i active profile free n m hn hm
    have need : s.activeNeed = p.geom.need := by rw [State.activeNeed, s.activeProfile_of c p active profile, Option.map_some, Option.getD_some]
    have room : s.roomFor k = s := s.roomFor_of_room k (by rw [need]; exact s.hasRoom_of i _ free pages)
    have ready := s.failing_none k c p i active profile free noFrame pages focus
    obtain ⟨w, d, tested⟩ := s.testTrigger_of_ready s k room ready (by rw [fired]; rfl)
    have next := exec_shotTriggerDue s k wanted waiting due
    have framed := State.framed_settle (s.testTrigger k) s (by rw [tested, fired]; rfl)
    have steady := (s.steady_testTrigger k).trans framed.steady
    obtain ⟨-, intake, phased, pool, counter, -, record, w', d', release⟩ := framed
    have opened : (s.testTrigger k).record i = some (newShot n c p k.destiny s.timeBase) := by
      rw [tested, fired]
      exact s.setRecord_same i _
    have record := (record i fun x used => by rw [opened] at used; cases used; rfl).trans opened
    rw [hn, hm]
    generalize (s.testTrigger k).settle s = t at next steady intake phased pool counter release record
    rw [tested, fired] at intake phased pool counter release
    refine ⟨_, f, next, steady.backdrop, record.trans ?_, counter, pool, intake, by rw [frame], by rw [frame], by rw [frame],
      by rw [frame], by rw [frame], (congrArg ReleaseUnit.shotTimer release :), (congrArg ReleaseUnit.fireCount release :), ?_, ?_,
      steady.lens, steady.windows⟩
    · cases k <;> rfl
    · rw [State.finishEvent_release, release]
      exact List.length_append
    · rw [← row]
      exact (congrArg PhaseUnit.row phased :)
  · obtain ⟨m, hm⟩ : ∃ m, p.geom.need = m := ⟨_, rfl⟩
    rw [hm] at lacks enough ⊢
    have activeEvicted : (s.evict i).release.active = some c := by rw [(s.aside_evict i).release, active]
    have profileEvicted : (s.evict i).tables.captures[c] = some p := by rw [(s.steady_evict i).tables, profile]
    have noFrameEvicted : (s.evict i).intake.frame = none := by rw [(s.aside_evict i).intake, noFrame]
    have pool : (s.evict i).pool = { s.pool with free := s.pool.free ++ x.pages } := by rw [s.evict_pool, used]; rfl
    have freed : (s.evict i).record i = none := by rw [s.evict_record, if_pos rfl]
    obtain ⟨j, free⟩ := (s.evict i).lowestFree_isSome i freed
    have pages : (s.evict i).pool.reservation + m ≤ (s.evict i).pool.free.length := by
      rw [pool]
      exact enough.trans_eq List.length_append.symm
    have need : s.activeNeed = m := by
      rw [State.activeNeed, s.activeProfile_of c p active profile, Option.map_some, Option.getD_some, hm]
    have room := s.roomFor_evicts i m rest need noFrame lacks (s.unviewedList_eq.trans unviewed) ((s.evict i).hasRoom_of j m free pages)
    have ready := (s.evict i).failing_none .pre c p j activeEvicted profileEvicted free noFrameEvicted (by rw [hm]; exact pages) (.inl rfl)
    obtain ⟨n, hn⟩ : ∃ n, (s.evict i).newNumber = n := ⟨_, rfl⟩
    obtain ⟨f, phase, fired, frame, -⟩ := (s.evict i).fireShot_of .pre c p j activeEvicted profileEvicted free n m hn hm
    obtain ⟨w, d, tested⟩ := s.testTrigger_of_ready (s.evict i) .pre room ready (by rw [fired]; rfl)
    have evicted : (s.testTrigger .pre).pendingCause .preEvicted = true := by
      have raised : (s.evict i).pendingCause .preEvicted = true := State.pendingCause_raise _ _
      rw [tested]
      exact (State.steady_fireShot _ .pre).causes _ raised
    have next := exec_shotTriggerDue s .pre wanted waiting due
    have framed := State.framed_settle (s.testTrigger .pre) s (by rw [tested, fired]; rfl)
    have steady := (s.steady_testTrigger .pre).trans framed.steady
    have pending := framed.steady.causes _ evicted
    obtain ⟨-, intake, -, poolSettled, -, preList, record, -⟩ := framed
    have opened : (s.testTrigger .pre).record j = some (newShot n c p .provisional (s.evict i).timeBase) := by
      rw [tested, fired]
      exact State.setRecord_same _ j _
    have recordJ := (record j fun x used => by rw [opened] at used; cases used; rfl).trans opened
    have recordI : j ≠ i → ((s.testTrigger .pre).settle s).record i = none := fun other => by
      have kept : (s.testTrigger .pre).record i = none := by
        rw [tested, fired]
        exact (State.setRecord_other _ j i _ (Ne.symm other)).trans freed
      exact (record i fun x used => by rw [kept] at used; cases used).trans kept
    generalize (s.testTrigger .pre).settle s = t at next steady pending intake poolSettled preList recordJ recordI
    rw [tested, fired] at intake poolSettled preList
    rw [(s.aside_evict i).intake] at intake
    refine ⟨_, f, j, _, next, steady.backdrop, pending, intake, by rw [frame], recordJ, rfl, rfl, ?_, fun full => ?_,
      preList.trans (s.evict_preList i x used), ?_, steady.lens, steady.windows⟩
    · by_cases same : j = i
      · exact .inl same
      · exact .inr (recordI same)
    · by_contra other
      have none := State.lowestFree_spec _ j free
      rw [s.evict_record, if_neg other] at none
      exact s.used_of_lowestFree j full none
    · exact poolSettled.trans (congrArg (fun q : Pool => ({ q with reservation := q.reservation + m } : Pool)) pool :)

/-! ### The end of a frame (R74, R94) -/

theorem State.steady_timeoutFrame (s : State) (f : Frame) : s.Steady (s.timeoutFrame f) := by
  have closed : s.Steady s.closePhase := .phase s _
  unfold State.timeoutFrame
  dsimp only
  split
  · exact (closed.trans (.raise _ _)).trans (.intake _ _)
  · exact ((closed.trans (State.steady_abortShot _ _)).trans (.raise _ _)).trans (.intake _ _)

theorem exec_readoutTimeout (s : State) (f : Frame) (frame : s.intake.frame = some f) (reached : f.deadline ≤ s.now) :
    exec .readoutTimeout s = .next (((s.timeoutFrame f).settle s).finishEvent s) := by
  have out : s.readoutReached = ((s.timeoutFrame f).settle s).finishEvent s := by
    rw [State.readoutReached, frame]
    exact if_pos reached
  exact congrArg Host.Outcome.next out

/-- R14: the abort of a shot, its record freed last. -/
theorem State.abortShot_of (s : State) (i : Fin 48) (x : Shot) (used : s.record i = some x) :
    s.abortShot i = (({ s with pool := { s.pool with free := s.pool.free ++ x.pages, reservation := 0 } } : State).setRecord i
      (some { x with pages := [] })).freeShot i := by
  rw [State.abortShot, used]
  exact congrArg (State.freeShot · i) (State.modifyShot_of
    ({ s with pool := { s.pool with free := s.pool.free ++ x.pages, reservation := 0 } } : State) i (fun x => { x with pages := [] }) x used)

/-- Settles O29: by the kind of the frame that is aborted. -/
theorem readoutTimeoutsAbortFrames : Obligations.ReadoutTimeoutsAbortFrames := by
  unfold Obligations.ReadoutTimeoutsAbortFrames
  refine ⟨fun s f frame reached => ?_, fun s f slot frame reached live calm => ?_, fun s f i x frame reached shot used calm => ?_⟩
  · have next := exec_readoutTimeout s f frame reached
    have out := s.steady_timeoutFrame f
    have settled := State.steady_settle (s.timeoutFrame f) s
    have raised : (s.timeoutFrame f).pendingCause .readoutTimeout = true := State.pendingCause_raise _ .readoutTimeout
    generalize (s.timeoutFrame f).settle s = t at next settled
    have steady := out.trans settled
    exact ⟨_, next, steady.backdrop, settled.causes _ raised, steady.windows, steady.lens⟩
  · have out : s.timeoutFrame f = (s.closePhase.raise .readoutTimeout).closeFrame := by
      rw [State.timeoutFrame, live]
    have next := exec_readoutTimeout s f frame reached
    rw [out, State.settle_of_calm ((s.closePhase.raise .readoutTimeout).closeFrame) s calm] at next
    exact ⟨_, next, rfl, rfl⟩
  · have out : s.timeoutFrame f = ((s.closePhase.abortShot i).raise .readoutTimeout).closeFrame := by
      rw [State.timeoutFrame, shot]
    have next := exec_readoutTimeout s f frame reached
    obtain ⟨v, hv⟩ : ∃ v, ({ s.closePhase with pool := { s.pool with free := s.pool.free ++ x.pages, reservation := 0 } } : State).setRecord
      i (some { x with pages := [] }) = v := ⟨_, rfl⟩
    have aborted : s.closePhase.abortShot i = v.freeShot i := by rw [← hv]; exact State.abortShot_of s.closePhase i x used
    have calmV : v.calm := by rw [← hv]; exact calm
    have usedV : v.record i = some { x with pages := [] } := by rw [← hv]; exact State.setRecord_same _ _ _
    have beyond := v.freeShot_beyond i _ usedV
    have aside := v.aside_freeShot i
    have records := v.freeShot_record i
    have counter := v.freeShot_counter i
    have pool := v.freeShot_pool i
    have req := v.freeShot_req i
    have calmU := State.freeShot_calm v i calmV
    generalize v.freeShot i = u at aborted beyond aside records counter pool req calmU
    rw [aborted] at out
    rw [out, State.settle_of_calm ((u.raise .readoutTimeout).closeFrame) s calmU] at next
    refine ⟨_, next, ?_, ?_, ?_, fun j other => ?_, ?_, ?_, ?_, ?_, ?_⟩
    · show ({ u.intake with frame := none } : FrameIntake) = _
      rw [aside.intake, ← hv]
      rfl
    · show u.phase.row = none
      rw [aside.phase, ← hv]
      rfl
    · exact (records i).trans (if_pos rfl)
    · refine ((records j).trans (if_neg other)).trans ?_
      rw [← hv]
      exact State.setRecord_other _ _ _ _ other
    · refine counter.trans ?_
      rw [← hv]
      rfl
    · show u.pool = _
      rw [pool, usedV, ← hv]
      exact congrArg (fun l : List Nat => ({ s.pool with free := l, reservation := 0 } : Pool)) (List.append_nil _)
    · refine aside.release.trans ?_
      rw [← hv]
      rfl
    · refine beyond.queue.trans ?_
      rw [← hv]
      rfl
    · show u.req.causes ||| _ = _
      rw [req, ← hv]
      rfl

end Sys2Proof.Machine
end

section
/-! SUPPORT. The requests that map views, set focus, move the lens, and fire. -/

namespace Sys2Proof.Machine

/-! ### MAP_VIEW (R46) -/

theorem mapBad_iff (view source mode profile stream : Nat) :
    mapBad view source mode profile stream = true ↔ 3 < view ∨ 1 < source ∨ 1 < mode ∨ 1 < stream ∨ 7 < profile := by
  simp [mapBad, or_assoc]

theorem Beat.toNat_eq_one (b : Beat) : (b.toNat == 1) = (b == 1) := by
  rw [Bool.eq_iff_iff, beq_iff_eq, beq_iff_eq, BitVec.toNat_eq]
  rfl

theorem Fin.ofNat_of_eq {k n : Nat} [NeZero k] (v : Fin k) (h : n = v.val) : Fin.ofNat k n = v := by
  rw [h]
  exact Fin.ext (Nat.mod_eq_of_lt v.isLt)

/-- R46: a mapping whose values are in range, of a view that is UNMAPPED. -/
theorem State.reqMapView_of (s : State) (slot : Fin 8) (view source shot mode profile stream : Beat) (v : Fin 4) (p : Fin 8)
    (hv : view.toNat = v.val) (hs : source.toNat ≤ 1) (hm : mode.toNat ≤ 1) (ht : stream.toNat ≤ 1) (hp : profile.toNat = p.val) :
    s.reqMapView slot view.toNat source.toNat shot.toNat mode.toNat profile.toNat stream.toNat =
      if (s.windows.views[v]).isSome then s.refuse slot .wrongState
      else if source.toNat = 0 then
        s.mapShot slot v shot.toNat fun src => { source := src, developed := mode == 1, profile := p, stream := stream == 1 }
      else (s.setView v (some { source := .live, developed := mode == 1, profile := p, stream := stream == 1 })).complete slot .done
        (results [v.val, 0]) := by
  have fine : ¬ mapBad view.toNat source.toNat mode.toNat profile.toNat stream.toNat = true := by
    rw [mapBad_iff]
    omega
  rw [State.reqMapView, if_neg fine]
  dsimp only
  simp only [Fin.ofNat_of_eq v hv, Fin.ofNat_of_eq p hp, Beat.toNat_eq_one]
  simp only [hv]

/-- R46: what the mapping of a shot that its number finds does. -/
theorem State.mapShot_of (s : State) (slot : Fin 8) (v : Fin 4) (shot : Nat) (e : ViewSource → View) (i : Fin 48) (x : Shot)
    (found : s.findShot shot = some i) (used : s.record i = some x) :
    s.mapShot slot v shot e = if x.mappable then
        ((s.setView v (some (e (.shot i x.number)))).setRecord i (some { x with views := x.views + 1 })).complete slot .done
          (results [v.val, x.number, x.views + 1])
      else s.refuse slot .wrongState := by
  rw [State.mapShot, found]
  dsimp only
  rw [used]
  dsimp only
  rw [State.modifyShot_of (s.setView v (some (e (.shot i x.number)))) i _ x used]

/-- Settles O50: by the five tests in their order. -/
theorem mapViewMapsAView : Obligations.MapViewMapsAView := by
  unfold Obligations.MapViewMapsAView
  intro s slot tag view source shot mode profile stream hc
  refine ⟨fun bad => ?_, fun v p hv hs hm ht hp => ?_⟩
  · refine s.quiet_request slot 8 tag [view, source, shot, mode, profile, stream] .badValue 0 s hc s.backdrop_refl ?_
    rw [State.perform_mapView, State.reqMapView, if_pos ((mapBad_iff ..).mpr bad)]; rfl
  · have performed := (State.perform_mapView (s.begun slot (kindCode 8) tag [view, source, shot, mode, profile, stream]) slot
      s.req.slots[slot].args view source shot mode profile stream).trans
        (State.reqMapView_of _ slot view source shot mode profile stream v p hv hs hm ht hp)
    have unmapped (free : s.windows.views[v] = none) : ¬ (s.windows.views[v]).isSome = true := by
      rw [free]
      exact Bool.false_ne_true
    have ofShot (h : source = 0) : source.toNat = 0 := by rw [h]; rfl
    refine ⟨fun mapped => ?_, fun free shotSource lost => ?_, fun free liveSource => ?_,
      fun i x free shotSource found used => ⟨fun away => ?_, fun here => ?_⟩⟩
    · refine s.quiet_request slot 8 tag _ .wrongState 0 s hc s.backdrop_refl (performed.trans ?_)
      exact if_pos (Option.isSome_iff_ne_none.mpr mapped)
    · refine s.quiet_request slot 8 tag _ .noShot 0 s hc s.backdrop_refl (performed.trans ?_)
      refine (if_neg (unmapped free)).trans ((if_pos (ofShot shotSource)).trans ?_)
      rw [State.mapShot, show (s.begun slot _ tag _).findShot shot.toNat = none from lost]
      rfl
    · refine s.quiet_request slot 8 tag _ .done _ _ hc s.backdrop_refl (performed.trans ?_)
      refine (if_neg (unmapped free)).trans ((if_neg (by rw [liveSource]; decide)).trans ?_)
      rfl
    · refine s.quiet_request slot 8 tag _ .wrongState 0 s hc s.backdrop_refl (performed.trans ?_)
      have unfit : ¬ x.mappable = true := by rcases away with h | h <;> simp [Shot.mappable, h]
      refine (if_neg (unmapped free)).trans ((if_pos (ofShot shotSource)).trans ?_)
      rw [State.mapShot_of (s.begun slot _ tag _) slot v _ _ i x found used, if_neg unfit]
      rfl
    · refine s.quiet_request slot 8 tag _ .done _ _ hc s.backdrop_refl (performed.trans ?_)
      have fit : x.mappable = true := by rcases here with h | h <;> simp [Shot.mappable, h]
      refine (if_neg (unmapped free)).trans ((if_pos (ofShot shotSource)).trans ?_)
      rw [State.mapShot_of (s.begun slot _ tag _) slot v _ _ i x found used, if_pos fit]
      rfl

/-! ### SET_FOCUS (R96, R97) -/

theorem focusModeOf_code (m : FocusMode) : focusModeOf m.code = some m := by cases m <;> rfl
theorem selectionOf_code (z : Selection) : selectionOf z.code = some z := by cases z <;> rfl

theorem focusModeOf_of_high (n : Nat) (h : 2 < n) : focusModeOf n = none := by
  unfold focusModeOf
  split
  · omega
  · omega
  · omega
  · rfl

theorem selectionOf_of_high (n : Nat) (h : 2 < n) : selectionOf n = none := by
  unfold selectionOf
  split
  · omega
  · omega
  · omega
  · rfl

theorem State.reqSetFocus_of_bad (s : State) (slot : Fin 8) (mode sel zone policy : Nat)
    (bad : 2 < mode ∨ 2 < sel ∨ 11 < zone ∨ 1 < policy) : s.reqSetFocus slot mode sel zone policy = s.refuse slot .badValue := by
  unfold State.reqSetFocus
  split
  · next m z hm hz =>
    have low : ¬ 2 < mode := fun h => by rw [focusModeOf_of_high mode h] at hm; cases hm
    have lowSel : ¬ 2 < sel := fun h => by rw [selectionOf_of_high sel h] at hz; cases hz
    by_cases inside : zone < 12
    · exact (dif_pos inside).trans (if_neg (by omega))
    · exact dif_neg inside
  · rfl

theorem State.reqSetFocus_of (s : State) (slot : Fin 8) (m : FocusMode) (z : Selection) (k : Fin 12) (policy : Nat) (h : policy ≤ 1) :
    s.reqSetFocus slot m.code z.code k.val policy =
      ((s.replaceFocus m z k (policy == 1)).complete slot .done
        (results [(s.replaceFocus m z k (policy == 1)).focus.state.code])).settle s := by
  rw [State.reqSetFocus, focusModeOf_code, selectionOf_code]
  exact (dif_pos k.isLt).trans (if_pos h)

/-- R96: what the replacing of the settings leaves. -/
theorem State.replaceFocus_steady (s : State) (m : FocusMode) (z : Selection) (k : Fin 12) (b : Bool) :
    s.Steady (s.replaceFocus m z k b) := by
  unfold State.replaceFocus
  dsimp only
  split
  · exact .focus s _
  · exact (State.Steady.focus s _).trans (.focus _ _)

/-- R97: the focus state of a mode with the lens homed or not and the half press active or not. -/
def freshFocus (m : FocusMode) (homed half : Bool) : FocusState :=
  if m = .off then .off else if homed = false then .noLens else if half = false then .idle
  else if m = .single then .acquiring else .tracking

theorem State.focusStateNow_of_fresh (s : State) (h : s.focus.state ≠ .locked) :
    s.focusStateNow = freshFocus s.focus.mode s.lensHomed s.halfPress := by
  unfold State.focusStateNow freshFocus
  cases s.focus.mode <;> cases s.lensHomed <;> cases s.halfPress <;> simp [h]

theorem freshFocus_ne_locked (m : FocusMode) (homed half : Bool) : freshFocus m homed half ≠ .locked := by
  cases m <;> cases homed <;> cases half <;> decide

/-- R96, R97: the focus settings after their replacing. -/
theorem State.replaceFocus_focus (s : State) (m : FocusMode) (z : Selection) (k : Fin 12) (b : Bool) (derived : s.focus.state = s.focusStateNow) :
    let st := if m = s.focus.mode then s.focus.state else freshFocus m s.lensHomed s.halfPress
    (s.replaceFocus m z k b).focus = { s.focus.replace m z k b with state := st } ∧ (s.replaceFocus m z k b).focusStateNow = st := by
  obtain ⟨f, replaced⟩ : ∃ f, s.focus.replace m z k b = f := ⟨_, rfl⟩
  have mode : f.mode = m := by rw [← replaced]; rfl
  dsimp only
  rw [State.replaceFocus, replaced]
  by_cases same : m = s.focus.mode
  · have state : f.state = s.focus.state := by
      rw [← replaced]
      exact if_pos same
    rw [if_pos same, if_pos same, ← state]
    refine ⟨rfl, ?_⟩
    rw [state, derived]
    show ({ s with focus := f } : State).focusStateNow = _
    unfold State.focusStateNow
    simp only [mode, state, same]
    rfl
  · have state : f.state = .off := by
      rw [← replaced]
      exact if_neg same
    have fresh : ({ s with focus := f } : State).focusStateNow = freshFocus m s.lensHomed s.halfPress := by
      rw [State.focusStateNow_of_fresh _ (by rw [state]; decide)]
      exact congrArg (freshFocus · s.lensHomed s.halfPress) mode
    rw [if_neg same, if_neg same]
    refine ⟨by rw [State.deriveFocus, fresh], ?_⟩
    rw [State.deriveFocus, fresh, State.focusStateNow_of_fresh _ (freshFocus_ne_locked _ _ _)]
    exact congrArg (freshFocus · s.lensHomed s.halfPress) mode

/-- Settles O46: by whether the mode changes. -/
theorem setFocusReplacesTheSettings : Obligations.SetFocusReplacesTheSettings := by
  unfold Obligations.SetFocusReplacesTheSettings
  intro s slot tag mode sel zone policy hc
  refine ⟨fun bad => ?_, fun m z k st hm hz hk hp derived hst => ?_⟩
  · refine s.quiet_request slot 4 tag [mode, sel, zone, policy] .badValue 0 s hc s.backdrop_refl ?_
    rw [State.perform_setFocus, State.reqSetFocus_of_bad _ _ _ _ _ _ bad]; rfl
  · have performed := State.perform_setFocus (s.begun slot (kindCode 4) tag [mode, sel, zone, policy]) slot
      s.req.slots[slot].args mode sel zone policy
    rw [hm, hz, hk, State.reqSetFocus_of _ _ _ _ _ _ hp, Beat.toNat_eq_one] at performed
    have steady := State.replaceFocus_steady (s.begun slot (kindCode 4) tag [mode, sel, zone, policy]) m z k (policy == 1)
    have replaced := State.replaceFocus_focus (s.begun slot (kindCode 4) tag [mode, sel, zone, policy]) m z k (policy == 1) derived
    generalize (s.begun slot (kindCode 4) tag [mode, sel, zone, policy]).replaceFocus m z k (policy == 1) = E at performed steady replaced
    obtain ⟨focusE, nowE⟩ : E.focus = { s.focus.replace m z k (policy == 1) with state := st } ∧ E.focusStateNow = st := by
      rw [hst]
      exact replaced
    obtain ⟨t, next, served, windows, lens, focus, -, -⟩ := s.settled_effect slot 4 tag [mode, sel, zone, policy] .done _ E _ hc
      steady.within performed
    refine ⟨t, next, ?_, lens.trans steady.lens, windows.trans steady.windows, ?_⟩
    · rw [focusE] at served
      exact served
    · rw [focus, focusE, nowE]
      rfl

/-! ### MOVE_LENS (R115, R118) -/

theorem GroupDrive.takeTarget_homed (d : GroupDrive) (c : GroupSettings) (b t : Nat) : (d.takeTarget c b t).state.homed = d.state.homed := by
  have started (h : d.state.homed = true) : (d.startMotion c b t).state.homed = d.state.homed := by
    unfold GroupDrive.startMotion
    split
    · exact h.symm
    · exact h.symm
  unfold GroupDrive.takeTarget
  split
  · rfl
  · rfl
  · rfl
  · next idle => exact (apply_ite (fun g : GroupDrive => g.state.homed) _ _ _).trans (by rw [started (by rw [idle]; rfl), ite_self])
  · next settling => exact (apply_ite (fun g : GroupDrive => g.state.homed) _ _ _).trans (by rw [started (by rw [settling]; rfl), ite_self])
  · split <;> rfl

/-- R118: what an accepted MOVE_LENS leaves. -/
theorem State.moveTo_of (s : State) (p : TargetPair) (l : Lens) (table : s.tables.lens = some l) :
    s.moveTo p = { s with
      lens := { s.lens with g0 := s.lens.g0.takeTarget l.g0 s.now p.g0, g1 := s.lens.g1.takeTarget l.g1 s.now p.g1 }
      focus := { s.focus with lastTarget := some p, state := if s.focus.state = .locked then .acquiring else s.focus.state } } := by
  rw [State.moveTo, State.handTargets, table]

/-- R97, R118: a lock that is given up leaves the derived focus state. -/
theorem State.focusStateNow_unlocked {s t : State} (mode : t.focus.mode = s.focus.mode) (homed : t.lensHomed = s.lensHomed)
    (half : t.halfPress = s.halfPress) (state : t.focus.state = if s.focus.state = .locked then .acquiring else s.focus.state)
    (derived : s.focus.state = s.focusStateNow) : t.focusStateNow = t.focus.state := by
  by_cases locked : s.focus.state = .locked
  · rw [if_pos locked] at state
    rw [State.focusStateNow_of_fresh t (by rw [state]; decide), state, mode, homed, half]
    rw [State.focusStateNow, locked] at derived
    revert derived
    cases s.focus.mode <;> cases s.lensHomed <;> cases s.halfPress <;> decide
  · rw [if_neg locked] at state
    rw [State.focusStateNow_of_fresh t (by rw [state]; exact locked), state, derived, State.focusStateNow_of_fresh s locked, mode, homed, half]

/-- R118: the tests of MOVE_LENS for a target in range. -/
theorem State.reqMoveLens_of (s : State) (slot : Fin 8) (n : Nat) (fits : n ≤ 32767) :
    s.reqMoveLens slot n = match s.tables.lens with
      | none => s.refuse slot .noLens
      | some l => if !s.lensHomed then s.refuse slot .noLens
        else if s.focus.state = .acquiring ∨ s.focus.state = .tracking then s.refuse slot .wrongState
        else ((s.moveTo (l.pair n)).complete slot .done (l.pair n).beat).settle s := if_neg (Nat.not_lt.mpr fits)

/-- Settles O48: by the tests in their order, and the group's state at the handing over. -/
theorem moveLensHandsTargetsOn : Obligations.MoveLensHandsTargetsOn := by
  unfold Obligations.MoveLensHandsTargetsOn
  intro s slot tag target hc
  refine ⟨fun high => ?_, fun fits none => ?_, fun fits table homed busy => ?_, fun l p fits table homed calm1 calm2 derived hp => ?_,
    fun d c b t => ⟨fun apart => ?_, fun rest there => ?_, fun rest up => ?_, fun rest down => ?_, fun moving => ?_⟩⟩
  · refine s.quiet_request slot 6 tag [target] .badValue 0 s hc s.backdrop_refl ?_
    rw [State.perform_moveLens, State.reqMoveLens, if_pos high]; rfl
  · refine s.quiet_request slot 6 tag [target] .noLens 0 s hc s.backdrop_refl ?_
    rw [State.perform_moveLens, State.reqMoveLens_of _ _ _ fits, show (s.begun slot _ tag _).tables = s.tables from rfl,
      show (s.begun slot _ tag _).lensHomed = s.lensHomed from rfl]
    cases table : s.tables.lens with
    | none => rfl
    | some l => exact if_pos (by rw [none.resolve_left (by rw [table]; simp)]; rfl)
  · refine s.quiet_request slot 6 tag [target] .wrongState 0 s hc s.backdrop_refl ?_
    obtain ⟨l, table⟩ := Option.ne_none_iff_exists'.mp table
    rw [State.perform_moveLens, State.reqMoveLens_of _ _ _ fits, show (s.begun slot _ tag _).tables = s.tables from rfl,
      show (s.begun slot _ tag _).lensHomed = s.lensHomed from rfl, table, homed]
    exact if_pos busy
  · have performed := State.perform_moveLens (s.begun slot (kindCode 6) tag [target]) slot s.req.slots[slot].args target
    rw [State.reqMoveLens_of _ _ _ fits, show (s.begun slot _ tag _).tables = s.tables from rfl,
      show (s.begun slot _ tag _).lensHomed = s.lensHomed from rfl, table, homed] at performed
    have accepted := performed.trans ((if_neg Bool.false_ne_true).trans (if_neg fun h => h.elim calm1 calm2))
    rw [← hp] at accepted
    have moved := State.moveTo_of (s.begun slot (kindCode 6) tag [target]) p l table
    generalize (s.begun slot (kindCode 6) tag [target]).moveTo p = E at accepted moved
    have within : (s.begun slot (kindCode 6) tag [target]).Within E := by
      rw [moved]
      exact .of_req (State.backdrop_refl _) rfl
    obtain ⟨t, next, served, windows, lens, focus, -, -⟩ := s.settled_effect slot 6 tag [target] .done _ E _ hc within accepted
    have homedE : E.lensHomed = s.lensHomed := by
      rw [moved]
      exact congrArg₂ and (GroupDrive.takeTarget_homed _ _ _ _) (GroupDrive.takeTarget_homed _ _ _ _)
    have now := State.focusStateNow_unlocked (s := s) (t := E) (by rw [moved]; rfl) homedE (by rw [moved]; rfl) (by rw [moved]; rfl) derived
    rw [now] at focus
    refine ⟨t, next, served, lens.trans (by rw [moved]; rfl), focus.trans (by rw [moved]; rfl), windows.trans (by rw [moved]; rfl)⟩
  · rcases apart with h | h | h
    · rw [GroupDrive.takeTarget, h]
    · rw [GroupDrive.takeTarget, h]
    · rw [GroupDrive.takeTarget, h]
  · rcases rest with h | h
    · rw [GroupDrive.takeTarget, h]
      exact if_pos there
    · rw [GroupDrive.takeTarget, h]
      exact if_pos there
  · have away : t ≠ d.position := up.ne'
    have started : d.takeTarget c b t = d.startMotion c b t := by
      rcases rest with h | h
      · rw [GroupDrive.takeTarget, h]
        exact if_neg away
      · rw [GroupDrive.takeTarget, h]
        exact if_neg away
    rw [started]
    exact if_pos up
  · have started : d.takeTarget c b t = d.startMotion c b t := by
      rcases rest with h | h
      · rw [GroupDrive.takeTarget, h]
        exact if_neg down.ne
      · rw [GroupDrive.takeTarget, h]
        exact if_neg down.ne
    rw [started]
    exact if_neg (Nat.not_lt.mpr down.le)
  · rw [GroupDrive.takeTarget, moving]
    dsimp only
    split <;> rfl

end Sys2Proof.Machine
end

section
/-! SUPPORT. UNMAP_VIEW and FIRE. -/

namespace Sys2Proof.Machine

/-! ### UNMAP_VIEW (R47) -/

theorem State.unmapResults_of (s : State) (v : Fin 4) (i : Fin 48) (x : Shot) (h : s.record i = some x) :
    s.unmapResults v { index := i, number := x.number } = results [v.val, x.number, x.state.code, x.views] := by
  simp [State.unmapResults, State.shotAt, h]

theorem State.unmapResults_of_free (s : State) (v : Fin 4) (i : Fin 48) (m : Nat) (h : s.record i = none) :
    s.unmapResults v { index := i, number := m } = results [v.val, m, 0, 0] := by
  simp [State.unmapResults, State.shotAt, h]

/-- R47: a view count falls. -/
def Shot.unviewedOnce (x : Shot) : Shot := { x with views := x.views - 1 }

section Unmap

variable (s : State) (slot : Fin 8) (n : Nat) (v : Fin 4) (hv : n = v.val)

include hv

theorem State.reqUnmapView_of_none (h : s.windows.views[v] = none) : s.reqUnmapView slot n = s.refuse slot .wrongState := by
  rw [State.reqUnmapView, if_neg (by omega)]
  simp only [Fin.ofNat_of_eq v hv, h]

theorem State.reqUnmapView_of_live (e : View) (h : s.windows.views[v] = some e) (live : e.source = .live) :
    s.reqUnmapView slot n = (s.setView v none).complete slot .done (results [v.val, 0]) := by
  rw [State.reqUnmapView, if_neg (by omega)]
  simp only [Fin.ofNat_of_eq v hv, h, live]
  rw [hv]

theorem State.reqUnmapView_of_shot (e : View) (i : Fin 48) (m : Nat) (x y : Shot) (h : s.windows.views[v] = some e)
    (shot : e.source = .shot i m) (used : s.record i = some x) (hy : y = { x with views := x.views - 1 }) (E : State)
    (hE : ((s.setView v none).setRecord i (some y)).freeingCheck i = E) :
    s.reqUnmapView slot n = (E.complete slot .done (E.unmapResults v { index := i, number := m })).settle s := by
  rw [State.reqUnmapView, if_neg (by omega)]
  simp only [Fin.ofNat_of_eq v hv, h, shot]
  rw [State.modifyShot_of (s.setView v none) i _ x used, ← hy, hE]

end Unmap

/-- Settles O51: by the source of the view and what then keeps its shot. -/
theorem unmapViewFreesTheView : Obligations.UnmapViewFreesTheView := by
  unfold Obligations.UnmapViewFreesTheView
  intro s slot tag view hc
  have performed := State.perform_unmapView (s.begun slot (kindCode 9) tag [view]) slot s.req.slots[slot].args view
  refine ⟨fun high => ?_, fun v hv => ⟨fun unmapped => ?_, fun e mapped live => ?_,
    fun e i n x y mapped shot used number hy state => ⟨fun keeps => ?_, fun unviewed nothing => ?_⟩⟩⟩
  · refine s.quiet_request slot 9 tag [view] .badValue 0 s hc s.backdrop_refl (performed.trans ?_)
    rw [State.reqUnmapView, if_pos high]; rfl
  · exact s.quiet_request slot 9 tag [view] .wrongState 0 s hc s.backdrop_refl
      (performed.trans (State.reqUnmapView_of_none _ slot _ v hv unmapped))
  · exact s.quiet_request slot 9 tag [view] .done _ _ hc s.backdrop_refl
      (performed.trans (State.reqUnmapView_of_live _ slot _ v hv e mapped live))
  · have state' : y.state = x.state := by rw [hy]
    have holds : y.holds = x.holds := by rw [hy]
    have number' : y.number = n := by rw [hy]; exact number
    obtain ⟨W, hW⟩ : ∃ W, (s.begun slot (kindCode 9) tag [view]).setView v none = W := ⟨_, rfl⟩
    have after : (W.setRecord i (some y)).record i = some y := State.setRecord_same _ _ _
    have stays : (W.setRecord i (some y)).freeingCheck i = W.setRecord i (some y) := by
      refine State.freeingCheck_stays _ i y after ?_
      rw [state', holds]
      rcases keeps with viewed | ⟨kept, held⟩
      · exact state.imp (fun k => ⟨k, .inr viewed⟩) fun d => ⟨d, viewed⟩
      · exact .inl ⟨kept, .inl held⟩
    have effect := performed.trans (State.reqUnmapView_of_shot (s.begun slot (kindCode 9) tag [view]) slot _ v hv e i n x y mapped
      shot used hy (W.setRecord i (some y)) (by rw [hW, stays]))
    have shown := State.unmapResults_of (W.setRecord i (some y)) v i y after
    rw [number', state'] at shown
    rw [shown] at effect
    have within : (s.begun slot (kindCode 9) tag [view]).Within (W.setRecord i (some y)) := by
      rw [← hW]
      exact .of_req (State.backdrop_refl _) rfl
    obtain ⟨t, next, served, windows, lens, -, calm, -⟩ := s.settled_effect slot 9 tag [view] .done _ _ _ hc within effect
    refine ⟨t, next, served, windows.trans (by rw [← hW]; rfl), lens.trans (by rw [← hW]; rfl), fun rest => ?_⟩
    rw [← hW] at calm
    exact State.became_of_causes (calm rest) rfl
  · have state' : y.state = x.state := by rw [hy]
    have holds : y.holds = x.holds := by rw [hy]
    obtain ⟨W, hW⟩ : ∃ W, (s.begun slot (kindCode 9) tag [view]).setView v none = W := ⟨_, rfl⟩
    have after : (W.setRecord i (some y)).record i = some y := State.setRecord_same _ _ _
    have frees : (W.setRecord i (some y)).freeingCheck i = (W.setRecord i (some y)).freeShot i := by
      refine State.freeingCheck_frees _ i y after ?_
      rw [state', holds]
      rcases state with kept | gone
      · exact .inl ⟨kept, nothing.resolve_left (by rw [kept]; decide), unviewed⟩
      · exact .inr ⟨gone, unviewed⟩
    have effect := performed.trans (State.reqUnmapView_of_shot (s.begun slot (kindCode 9) tag [view]) slot _ v hv e i n x y mapped
      shot used hy ((W.setRecord i (some y)).freeShot i) (by rw [hW, frees]))
    rw [State.unmapResults_of_free _ v i n (by rw [State.freeShot_record, if_pos rfl])] at effect
    have within : (s.begun slot (kindCode 9) tag [view]).Within (W.setRecord i (some y)) := by
      rw [← hW]
      exact .of_req (State.backdrop_refl _) rfl
    have freed := State.steady_freeShot (W.setRecord i (some y)) i
    obtain ⟨t, next, served, windows, lens, -, calm, -⟩ := s.settled_effect slot 9 tag [view] .done _ _ _ hc
      (within.trans freed.within) effect
    refine ⟨t, next, served, (windows.trans freed.windows).trans (by rw [← hW]; rfl), (lens.trans freed.lens).trans (by rw [← hW]; rfl),
      fun rest => ?_⟩
    have became := calm (State.freeShot_calm _ i (by rw [← hW]; exact rest))
    have release := (State.aside_freeShot (W.setRecord i (some y)) i).release
    obtain ⟨record, others, queue, -, -, -, pool⟩ := State.became_freeShot (r := (State.freeShot _ i).release) after became
    refine ⟨record, fun j other => (others j other).trans ((State.setRecord_other _ _ _ _ other).trans (by rw [← hW]; rfl)),
      queue.trans (by rw [← hW]; rfl), (became.release.trans release).trans (by rw [← hW]; rfl), pool.trans ?_⟩
    rw [show y.pages = x.pages by rw [hy], ← hW]
    rfl

/-! ### FIRE (R62, R65) -/

/-- R56: what the presses, the pending shots and the FIRE count give where a FIRE alone is wanted. -/
theorem State.deriveRelease_of_fire (s old : State) (count : 0 < s.release.fireCount) (press : s.fullPress = false)
    (pending : s.release.singlePending = false) (waiting : s.release.waiting = none) :
    s.deriveRelease old = s.awaiting .burst none none ∧ (s.awaiting .burst none none).wantedTrigger = some .fire := by
  have burst : s.releaseStateNow = .burst := by simp [State.releaseStateNow, count]
  have wanted (due : Option Nat) : (s.awaiting .burst none due).wantedTrigger = some .fire := by
    show (if (s.fullPress && (s.awaiting .burst none due).continuousDrive) = true then _ else
      if s.release.singlePending = true then _ else if 0 < s.release.fireCount then _ else _) = _
    rw [press, pending, Bool.false_and, if_neg Bool.false_ne_true, if_neg Bool.false_ne_true, if_pos count]
  have first : ({ s with release := { s.release with state := s.releaseStateNow } } : State) = s.awaiting .burst none s.release.liveTimer := by
    rw [burst]
    exact congrArg (fun w => ({ s with release := { s.release with state := .burst, waiting := w } } : State)) waiting
  refine ⟨?_, wanted none⟩
  rw [State.deriveRelease, first, State.dropUnwanted, wanted]
  rfl

/-- R62: the tests of FIRE. -/
theorem State.reqFire_of (s : State) (slot : Fin 8) (n : Nat) (low : 1 ≤ n) (high : n ≤ 255) (fits : s.release.fireCount + n ≤ 65535) :
    s.reqFire slot n = if !s.readyToShoot then s.refuse slot .wrongState
      else (({ s with release := { s.release with fireCount := s.release.fireCount + n } } : State).complete slot .done
        (results [s.release.fireCount + n])).settle s := by
  refine if_neg ?_
  simp only [Bool.or_eq_true, decide_eq_true_eq]
  omega

/-- R62, R65: with nothing else wanted and the part ready, a FIRE fires its first shot at once. -/
theorem State.settle_of_fire (s old : State) (c : Fin 4) (p : Capture) (i : Fin 48) (m : Nat) (count : 0 < s.release.fireCount)
    (press : s.fullPress = false) (pending : s.release.singlePending = false) (waiting : s.release.waiting = none)
    (timer : s.release.shotTimer = none) (derived : s.focus.state = s.focusStateNow) (active : s.release.active = some c)
    (profile : s.tables.captures[c] = some p) (free : s.lowestFree = some i) (noFrame : s.intake.frame = none)
    (hm : p.geom.need = m) (pages : s.pool.reservation + m ≤ s.pool.free.length) (policy : s.focus.policyFocus = false) :
    (s.settle old).release.fireCount = s.release.fireCount - 1 ∧ (s.settle old).intake.frame.map (·.kind) = some (.shot i) ∧
      ((s.settle old).record i).map (fun x => (x.state, x.destiny, x.number)) = some (.filling, some .kept, s.newNumber) ∧
      (s.settle old).pool = { s.pool with reservation := s.pool.reservation + m } := by
  obtain ⟨n, hn⟩ : ∃ n, s.newNumber = n := ⟨_, rfl⟩
  obtain ⟨release, wanted⟩ := s.deriveRelease_of_fire old count press pending waiting
  have focused : s.deriveFocus = s := by rw [State.deriveFocus, ← derived]
  have due : (s.awaiting .burst none none).shotDue = true := by
    show (match s.release.shotTimer, s.activeProfile with | some t, some p => decide (t + p.burstPeriod ≤ s.now) | _, _ => true) = true
    rw [timer]
  obtain ⟨f, phase, fired, frame, -⟩ := State.fireShot_of (s.awaiting .burst none none) .fire c p i active profile free n m hn hm
  have ready := State.failing_none (s.awaiting .burst none none) .fire c p i active profile free noFrame (by rw [hm]; exact pages) (.inr (.inl policy))
  obtain ⟨w, d, tested⟩ := State.testTrigger_of_ready (s.awaiting .burst none none) _ .fire
    (State.roomFor_of_kind _ _ (by decide)) ready (by rw [fired]; rfl)
  have updated : s.updateRelease old = ((s.awaiting .burst none none).fireShot .fire).awaiting
      ((s.awaiting .burst none none).fireShot .fire).releaseStateNow w d := by
    rw [State.updateRelease, release, wanted]
    exact (if_neg Bool.false_ne_true).trans ((if_pos due).trans tested)
  rw [State.settle_eq, focused]
  rw [fired] at updated
  generalize s.updateRelease old = u at updated
  have opened : u.record i = some (newShot n c p .kept s.timeBase) := by
    rw [updated]
    exact s.setRecord_same i _
  have aside := State.aside_serveOut u
  have record := u.serveOut_record i fun x used => by rw [opened] at used; cases used; rfl
  have pool := u.serveOut_pool
  generalize u.serveOut = t at aside record pool
  refine ⟨?_, ?_, ?_, ?_⟩
  · rw [aside.release, updated]
    rfl
  · rw [aside.intake, updated, frame]
    rfl
  · rw [record, opened, hn]
    rfl
  · rw [pool, updated]
    rfl

/-- A request that completes after effects `E`, and what follows: the state that its command answers. -/
theorem State.command_settled (s : State) (slot : Fin 8) (kind : Nat) (tag : Word32) (args : List Beat) (code : ResultCode) (beat : Beat)
    (E old : State) (hc : s.canPost slot)
    (performed : (s.begun slot (kindCode kind) tag args).perform slot (kindCode kind) (putArgs s.req.slots[slot].args args) =
      (E.complete slot code beat).settle old) :
    s.command slot (kindCode kind) tag args = ((E.complete slot code beat).settle old).finishEvent s :=
  (s.command_of_canPost slot (kindCode kind) tag args hc).trans (congrArg (State.finishEvent · s) performed)

/-- Settles O49: by the tests in their order; with a frame in flight the count only rises, and at rest the first shot fires. -/
theorem fireCountsShots : Obligations.FireCountsShots := by
  unfold Obligations.FireCountsShots
  intro s slot tag n hc
  have performed := State.perform_fire (s.begun slot (kindCode 7) tag [n]) slot s.req.slots[slot].args n
  refine ⟨fun bad => ?_, fun low high fits unready => ?_, fun low high fits ready frame => ?_, fun c p i low high calm configured active profile noFrame free pages policy timer => ?_⟩
  · refine s.quiet_request slot 7 tag [n] .badValue 0 s hc s.backdrop_refl (performed.trans ?_)
    refine if_pos ?_
    simp only [Bool.or_eq_true, decide_eq_true_eq, or_assoc]
    exact bad
  · refine s.quiet_request slot 7 tag [n] .wrongState 0 s hc s.backdrop_refl (performed.trans ?_)
    rw [State.reqFire_of (s.begun slot (kindCode 7) tag [n]) slot n.toNat low high fits]
    exact if_pos (by rw [show (s.begun slot _ tag _).readyToShoot = s.readyToShoot from rfl, unready]; rfl)
  · have effect := performed.trans ((State.reqFire_of (s.begun slot (kindCode 7) tag [n]) slot n.toNat low high fits).trans
      (if_neg (by rw [show (s.begun slot _ tag _).readyToShoot = s.readyToShoot from rfl, ready]; exact Bool.false_ne_true)))
    generalize hE : ({ s.begun slot (kindCode 7) tag [n] with
      release := { (s.begun slot (kindCode 7) tag [n]).release with
        fireCount := (s.begun slot (kindCode 7) tag [n]).release.fireCount + n.toNat } } : State) = E at effect
    have within : (s.begun slot (kindCode 7) tag [n]).Within E := by
      rw [← hE]
      exact .of_req (State.backdrop_refl _) rfl
    obtain ⟨t, next, served, windows, lens, -⟩ := s.settled_effect slot 7 tag [n] .done (results [s.release.fireCount + n.toNat]) E _ hc
      within effect
    have left := (Host.Outcome.next.inj next).symm.trans
      (s.command_settled slot 7 tag [n] .done (results [s.release.fireCount + n.toNat]) E _ hc effect)
    have inFlight : E.intake.frame.isSome = true := by
      rw [← hE]
      exact Option.isSome_iff_ne_none.mpr frame
    have burst : E.releaseStateNow = .burst := by
      have count : 0 < E.release.fireCount := by
        rw [← hE]
        exact Nat.add_pos_right _ low
      simp [State.releaseStateNow, count]
    obtain ⟨-, intake, -, pool, -, -, -, w, d, release⟩ :=
      State.framed_settle (E.complete slot .done (results [s.release.fireCount + n.toNat])) (s.begun slot (kindCode 7) tag [n]) inFlight
    generalize State.settle (E.complete slot .done (results [s.release.fireCount + n.toNat])) _ = v at left intake pool release
    rw [left] at next served windows lens
    refine ⟨_, next, served, ?_, ?_, intake.trans (by rw [← hE]; rfl), pool.trans (by rw [← hE]; rfl), lens.trans (by rw [← hE]; rfl),
      windows.trans (by rw [← hE]; rfl)⟩
    · refine (congrArg ReleaseUnit.fireCount release).trans ?_
      rw [← hE]
      rfl
    · exact (congrArg ReleaseUnit.state release).trans burst
  · obtain ⟨⟨half, pending, none, -, -, waiting, -⟩, -, -, derived⟩ := calm
    have press : s.fullPress = false := by
      rw [State.halfPress, Bool.or_eq_false_iff] at half
      exact half.2
    have ready : s.readyToShoot = true := by rw [State.readyToShoot, configured, active]; rfl
    obtain ⟨m, hm⟩ : ∃ m, p.geom.need = m := ⟨_, rfl⟩
    rw [hm] at pages ⊢
    have effect := performed.trans ((State.reqFire_of (s.begun slot (kindCode 7) tag [n]) slot n.toNat low high
      (by rw [show (s.begun slot _ tag _).release = s.release from rfl, none]; omega)).trans
        (if_neg (by rw [show (s.begun slot _ tag _).readyToShoot = s.readyToShoot from rfl, ready]; exact Bool.false_ne_true)))
    rw [show (s.begun slot (kindCode 7) tag [n]).release = s.release from rfl, none, Nat.zero_add] at effect
    generalize hE : ({ s.begun slot (kindCode 7) tag [n] with release := { s.release with fireCount := n.toNat } } : State) = E at effect
    have within : (s.begun slot (kindCode 7) tag [n]).Within E := by
      rw [← hE]
      exact .of_req (State.backdrop_refl _) rfl
    obtain ⟨t, next, served, windows, lens, -⟩ := s.settled_effect slot 7 tag [n] .done (results [n.toNat]) E _ hc within effect
    have left := (Host.Outcome.next.inj next).symm.trans (s.command_settled slot 7 tag [n] .done (results [n.toNat]) E _ hc effect)
    have completed : E.complete slot .done (results [n.toNat]) = { E with req := (E.complete slot .done (results [n.toNat])).req } := rfl
    generalize (E.complete slot .done (results [n.toNat])).req = r at completed
    have after : ({ E with req := r } : State) = { s with release := { s.release with fireCount := n.toNat }, req := r } := by rw [← hE]; rfl
    rw [after] at completed
    obtain ⟨count, kind, record, pool⟩ := State.settle_of_fire { s with release := { s.release with fireCount := n.toNat }, req := r }
      (s.begun slot (kindCode 7) tag [n]) c p i m low press pending waiting timer derived active profile free noFrame hm pages policy
    have number : ({ s with release := { s.release with fireCount := n.toNat }, req := r } : State).newNumber = s.newNumber :=
      State.newNumber_congr rfl
    rw [number] at record
    rw [← completed] at count kind record pool
    generalize State.settle (E.complete slot .done (results [n.toNat])) _ = v at left count kind record pool
    rw [left] at next served windows lens
    rw [completed] at count pool
    exact ⟨_, next, served, count, kind, record, pool, lens.trans (by rw [← hE]; rfl), windows.trans (by rw [← hE]; rfl)⟩

end Sys2Proof.Machine
end

section
/-! SUPPORT. The queue requests PRIORITISE and REQUEUE. -/

namespace Sys2Proof.Machine

/-! ### The queue (R169, R170) -/

theorem not_mem_dropElem {α : Type} [DecidableEq α] (a : α) (l : List α) : a ∉ dropElem a l := by simp [dropElem]

theorem dropElem_dropElem {α : Type} [DecidableEq α] (a : α) (l : List α) : dropElem a (dropElem a l) = dropElem a l := by
  simp [dropElem]

theorem TetherQueue.position_leave (q : TetherQueue) (r : ShotRef) : (q.leave r).position r = 0 := by
  refine if_neg fun h => ?_
  rcases List.mem_append.mp h with urgent | normal
  · exact not_mem_dropElem r q.urgent urgent
  · exact not_mem_dropElem r q.normal normal

/-- R170: a shot that has left and enters at the tail of URGENT stands behind those of the class. -/
theorem TetherQueue.position_urgent (q : TetherQueue) (r : ShotRef) :
    ((q.leave r).enter .urgent false r).position r = (dropElem r q.urgent).length + 1 := by
  have order : ((q.leave r).enter .urgent false r).order = dropElem r q.urgent ++ r :: dropElem r q.normal :=
    List.append_assoc _ [r] _
  rw [TetherQueue.position, order, if_pos (by simp), List.idxOf_append_of_notMem (not_mem_dropElem r _), List.idxOf_cons_self]

/-- R170: the queuing of a shot that has a tether part. -/
theorem State.enqueue_of (s W : State) (i : Fin 48) (b : Bool) (x y : Shot) (p : TetherPart) (used : s.record i = some x)
    (part : x.tether = some p) (hy : y = { x with tether := some { p with state := .queued } })
    (hW : W = { s with queue := s.queue.enter p.cls b { index := i, number := x.number } }) :
    s.enqueue i b = (W.setRecord i (some y)).mark (.mirror i) := by
  rw [State.enqueue, used]
  dsimp only
  rw [part]
  dsimp only
  rw [← hW, State.modifyShot_of W i _ x (by rw [hW]; exact used), Shot.withTetherState, Shot.mapTether, part, hy]
  rfl

theorem State.setRecord_setRecord (s : State) (i : Fin 48) (x y : Option Shot) : (s.setRecord i x).setRecord i y = s.setRecord i y := by
  simp [State.setRecord]

/-! ### Results of a queue request (9.4) -/

section Results

variable (s : State) (i : Fin 48) (x : Shot) (used : s.record i = some x)

include used

theorem State.queueResults_of_none (h : x.tether = none) :
    s.queueResults { index := i, number := x.number } = queueBeat 0 0 0 false (s.queue.position { index := i, number := x.number }) := by
  simp [State.queueResults, State.shotAt, used, h]

theorem State.queueResults_of_some (p : TetherPart) (h : x.tether = some p) :
    s.queueResults { index := i, number := x.number } =
      queueBeat p.state.code p.cls.code p.attempts true (s.queue.position { index := i, number := x.number }) := by
  simp [State.queueResults, State.shotAt, used, h]

end Results

theorem State.queueResults_of_free (s : State) (i : Fin 48) (m : Nat) (h : s.record i = none) :
    s.queueResults { index := i, number := m } = queueBeat 0 0 0 false (s.queue.position { index := i, number := m }) := by
  simp [State.queueResults, State.shotAt, h]

/-! ### Marks (R184) -/

/-- R184: what follows an event takes back no mark. -/
theorem State.marks_makeRoom (n : Nat) (l : List (Fin 48)) (s : State) : s.req.marks ⊆ (s.makeRoom n l).req.marks := by
  induction l generalizing s with
  | nil => exact List.Subset.refl _
  | cons i is ih =>
    have evicted : s.req.marks ⊆ (s.evict i).req.marks := by
      show _ ⊆ (s.freeShot i).req.marks ++ _
      rw [s.freeShot_req]
      exact List.subset_append_left _ _
    unfold State.makeRoom
    split
    · exact List.Subset.refl _
    · exact List.Subset.trans evicted (ih _)

theorem State.marks_testTrigger (s : State) (k : TriggerKind) : s.req.marks ⊆ (s.testTrigger k).req.marks := by
  have room : s.req.marks ⊆ (s.roomFor k).req.marks := by
    unfold State.roomFor
    split
    · exact State.marks_makeRoom _ _ s
    · exact List.Subset.refl _
  unfold State.testTrigger
  dsimp only
  split
  · exact List.Subset.trans room ((State.keepsFree_fireShot _ k).trans (State.ledger_deriveRelease _ _).keepsFree).marks
  · exact List.Subset.trans room ((State.keepsFree_waitFor _ _).trans (State.ledger_syncLive _ _).keepsFree).marks

theorem State.marks_updateRelease (s old : State) : s.req.marks ⊆ (s.updateRelease old).req.marks := by
  have derived := (s.ledger_deriveRelease old).keepsFree.marks
  have tested := fun k => List.Subset.trans derived (State.marks_testTrigger (s.deriveRelease old) k)
  unfold State.updateRelease
  dsimp only
  split
  · exact derived
  · split
    · split
      · exact tested _
      · exact derived
    · split
      · exact tested _
      · exact derived

theorem State.marks_settle (s old : State) : s.req.marks ⊆ (s.settle old).req.marks :=
  List.Subset.trans (s.deriveFocus.marks_updateRelease old) ((State.keepsFree_takeNext _).trans
    ((State.ledger_engineActs 128 _).trans (State.ledger_resumeUnit _)).keepsFree).marks

/-- R184: a marked mirror record joins the report list at the end of the event. -/
theorem State.mirror_mem_finishEvent (s old : State) (i : Fin 48) (h : .mirror i ∈ s.req.marks) :
    .mirror i ∈ (s.finishEvent old).req.reportList := by
  refine (mem_foldl_joinReport _ _ _).mpr (.inl (List.mem_append_left _ (List.mem_append_left _ ?_)))
  exact List.mem_filter.mpr ⟨h, decide_eq_true ReportRecord.noConfusion⟩

/-! ### PRIORITISE and REQUEUE (R173, R174) -/

/-- A request that completes after effects `E` and brings nothing else about. -/
theorem State.quiet_effect (s : State) (slot : Fin 8) (kind : Nat) (tag : Word32) (args : List Beat) (code : ResultCode) (beat : Beat)
    (E : State) (hc : s.canPost slot) (within : (s.begun slot (kindCode kind) tag args).Within E)
    (performed : (s.begun slot (kindCode kind) tag args).perform slot (kindCode kind) (putArgs s.req.slots[slot].args args) =
      E.complete slot code beat) :
    ∃ t, (.next (s.command slot (kindCode kind) tag args) : Result) = .next t ∧ s.served t slot kind tag code beat ∧
      E.became t E Cause.requestDone.bit ∧ ∀ i, .mirror i ∈ E.req.marks → .mirror i ∈ t.req.reportList := by
  have command := s.command_of_canPost slot (kindCode kind) tag args hc
  rw [performed] at command
  refine ⟨_, congrArg Host.Outcome.next command, s.served_of slot kind tag args code beat E _ within (.refl _),
    ⟨State.completed_with_req E s slot code beat _, (State.finishEvent_causes _ _).trans (E.complete_causes slot code beat)⟩,
    fun i marked => State.mirror_mem_finishEvent _ _ i ?_⟩
  exact List.mem_append_left _ (List.mem_append_left _ marked)

/-- R170, R173: what PRIORITISE does with a KEPT shot that is not SENT. -/
theorem State.prioritiseShot_of (s W : State) (x y : Shot) (p : TetherPart) (r : ShotRef) (used : s.record r.index = some x)
    (part : x.tether = some p) (hy : y = { x with tether := some { p with cls := .urgent } }) (kept : x.state = .kept)
    (unsent : p.state ≠ .sent) (hW : W = { s with queue := (s.queue.leave r).enter .urgent false r }) :
    s.prioritiseShot r x p =
      if p.state = .queued then (W.setRecord r.index (some y)).mark (.mirror r.index) else s.setRecord r.index (some y) := by
  have urgent (u : State) (h : u.record r.index = some x) : u.makeUrgent r.index = u.setRecord r.index (some y) := by
    rw [State.makeUrgent, State.modifyShot_of u r.index _ x h, Shot.mapTether, part, hy]
    rfl
  rw [State.prioritiseShot, if_pos kept, hW]
  cases state : p.state with
  | queued => exact congrArg (State.mark · (.mirror r.index)) (urgent { s with queue := (s.queue.leave r).enter .urgent false r } used)
  | sending => exact urgent s used
  | failed => exact urgent s used
  | sent => exact absurd state unsent

/-- R173: a shot that PRIORITISE leaves as it is. -/
theorem State.prioritiseShot_stays (s : State) (x : Shot) (p : TetherPart) (r : ShotRef) (h : x.state ≠ .kept ∨ p.state = .sent) :
    s.prioritiseShot r x p = s := by
  unfold State.prioritiseShot
  split
  · next kept => rw [h.resolve_left fun k => k kept]
  · rfl

/-- Settles O56: by the shot's tether part and its state. -/
theorem queueRequestsMoveShots : Obligations.QueueRequestsMoveShots := by
  unfold Obligations.QueueRequestsMoveShots
  intro s slot tag n i x r hc found used hr
  have named (k : Byte) : (s.begun slot k tag [n]).named n.toNat = some (r, x) := by
    rw [hr]
    exact State.named_of_some (s.begun slot k tag [n]) n.toNat i x found used
  have prioritise := State.perform_prioritise (s.begun slot (kindCode 14) tag [n]) slot s.req.slots[slot].args n
  have requeue := State.perform_requeue (s.begun slot (kindCode 15) tag [n]) slot s.req.slots[slot].args n
  rw [State.reqPrioritise, named] at prioritise
  rw [State.reqRequeue, named] at requeue
  have index : r.index = i := by rw [hr]
  have usedAt : s.record r.index = some x := by rw [index]; exact used
  refine ⟨fun none => ⟨?_, ?_⟩, fun p part => ⟨fun stays => ?_, fun kept unsent => ?_, fun refused => ?_, fun kept failed => ?_⟩⟩
  · have shown := State.queueResults_of_none (s.begun slot (kindCode 14) tag [n]) i x used none
    rw [← hr] at shown
    refine s.quiet_request slot 14 tag [n] .done _ s hc s.backdrop_refl (prioritise.trans ?_)
    dsimp only
    rw [none]
    exact congrArg (State.complete _ slot .done) shown
  · have shown := State.queueResults_of_none (s.begun slot (kindCode 15) tag [n]) i x used none
    rw [← hr] at shown
    have unfit : ¬ x.requeueable = true := by simp [Shot.requeueable, none]
    exact s.quiet_request slot 15 tag [n] .wrongState _ s hc s.backdrop_refl
      (requeue.trans ((if_neg unfit).trans (congrArg (State.complete _ slot .wrongState) shown)))
  · have shown := State.queueResults_of_some (s.begun slot (kindCode 14) tag [n]) i x used p part
    rw [← hr] at shown
    refine s.quiet_request slot 14 tag [n] .done _ s hc s.backdrop_refl (prioritise.trans ?_)
    dsimp only
    rw [part]
    dsimp only
    rw [State.prioritiseShot_stays _ x p r stays]
    exact congrArg (State.complete _ slot .done) shown
  · obtain ⟨y, hy⟩ : ∃ y, y = { x with tether := some { p with cls := .urgent } } := ⟨_, rfl⟩
    obtain ⟨W, hW⟩ : ∃ W : State, W = { s.begun slot (kindCode 14) tag [n] with queue := (s.queue.leave r).enter .urgent false r } :=
      ⟨_, rfl⟩
    have moved := State.prioritiseShot_of (s.begun slot (kindCode 14) tag [n]) W x y p r usedAt part hy kept unsent hW
    have partY : y.tether = some { p with cls := .urgent } := by rw [hy]
    have ref : ({ index := r.index, number := y.number } : ShotRef) = r := by rw [hy, hr]
    dsimp only at prioritise
    rw [part] at prioritise
    dsimp only at prioritise
    rw [moved, State.queueDone] at prioritise
    by_cases queued : p.state = .queued
    · have shown := State.queueResults_of_some ((W.setRecord r.index (some y)).mark (.mirror r.index)) r.index y
        (State.setRecord_same _ _ _) _ partY
      have queue : W.queue = (s.queue.leave r).enter .urgent false r := by rw [hW]
      rw [ref, State.mark_queue, State.setRecord_queue, queue, TetherQueue.position_urgent] at shown
      rw [if_pos queued, shown] at prioritise
      have within : (s.begun slot (kindCode 14) tag [n]).Within (W.setRecord r.index (some y)) := by
        rw [hW]
        exact .of_req (State.backdrop_refl _) rfl
      obtain ⟨t, next, served, became, marked⟩ := s.quiet_effect slot 14 tag [n] .done _ _ hc
        (within.trans (State.Steady.mark _ _).within) prioritise
      rw [if_pos queued, if_pos queued]
      refine ⟨t, next, served, fun _ => ?_, ?_⟩
      · rw [← index]
        exact marked _ (List.mem_append_right _ (List.mem_singleton_self _))
      · rw [hW, index] at became
        rw [← hy]
        exact State.became_of_causes became rfl
    · have shown := State.queueResults_of_some ((s.begun slot (kindCode 14) tag [n]).setRecord r.index (some y)) r.index y
        (State.setRecord_same _ _ _) _ partY
      rw [ref] at shown
      rw [if_neg queued, shown] at prioritise
      have within := (State.steady_setRecord (s.begun slot (kindCode 14) tag [n]) r.index (some y)).within
      obtain ⟨t, next, served, became, -⟩ := s.quiet_effect slot 14 tag [n] .done _ _ hc within prioritise
      rw [if_neg queued, if_neg queued]
      refine ⟨t, next, served, fun h => absurd h queued, ?_⟩
      rw [index] at became
      rw [← hy]
      exact State.became_of_causes became rfl
  · have shown := State.queueResults_of_some (s.begun slot (kindCode 15) tag [n]) i x used p part
    rw [← hr] at shown
    have unfit : ¬ x.requeueable = true := by
      rcases refused with h | h
      · simp [Shot.requeueable, h]
      · simp [Shot.requeueable, part, h]
    exact s.quiet_request slot 15 tag [n] .wrongState _ s hc s.backdrop_refl
      (requeue.trans ((if_neg unfit).trans (congrArg (State.complete _ slot .wrongState) shown)))
  · obtain ⟨y, hy⟩ : ∃ y, y = { x with tether := some { p with attempts := 0, state := .queued } } := ⟨_, rfl⟩
    have fit : x.requeueable = true := by simp [Shot.requeueable, kept, part, failed]
    have cleared : x.mapTether (fun t => { t with attempts := 0 }) = { x with tether := some { p with attempts := 0 } } := by
      rw [Shot.mapTether, part]
      rfl
    obtain ⟨x', hx'⟩ : ∃ x', x' = { x with tether := some { p with attempts := 0 } } := ⟨_, rfl⟩
    rw [← hx'] at cleared
    have hyx' : y = { x' with tether := some { p with attempts := 0, state := .queued } } := by rw [hy, hx']
    have ref : ({ index := i, number := y.number } : ShotRef) = r := by rw [hy, hr]
    obtain ⟨U, hU⟩ : ∃ U : State, U = { s.begun slot (kindCode 15) tag [n] with queue := s.queue.enter p.cls false r } := ⟨_, rfl⟩
    have entered := State.enqueue_of ((s.begun slot (kindCode 15) tag [n]).setRecord i (some x')) (U.setRecord i (some x')) i false x' y
      { p with attempts := 0 } (State.setRecord_same _ _ _) (by rw [hx']) hyx' (by rw [hU, hr, hx']; rfl)
    rw [State.setRecord_setRecord] at entered
    have cleared' : (s.begun slot (kindCode 15) tag [n]).modifyShot r.index (fun x => x.mapTether fun t => { t with attempts := 0 }) =
        (s.begun slot (kindCode 15) tag [n]).setRecord i (some x') := by
      rw [index, State.modifyShot_of (s.begun slot (kindCode 15) tag [n]) i _ x used, cleared]
    have shown := State.queueResults_of_some ((U.setRecord i (some y)).mark (.mirror i)) i y (State.setRecord_same _ _ _)
      { p with attempts := 0, state := .queued } (by rw [hy])
    have queue : U.queue = s.queue.enter p.cls false r := by rw [hU]
    rw [ref, State.mark_queue, State.setRecord_queue, queue] at shown
    have effect := requeue.trans (if_pos fit)
    dsimp only at effect
    rw [cleared', index, entered, State.queueDone, shown] at effect
    have within : (s.begun slot (kindCode 15) tag [n]).Within (U.setRecord i (some y)) := by
      rw [hU]
      exact .of_req (State.backdrop_refl _) rfl
    have within := within.trans (State.Steady.mark _ (.mirror i)).within
    obtain ⟨t, next, served, windows, lens, -, calm, -⟩ := s.settled_effect slot 15 tag [n] .done _ _ _ hc within effect
    have left := (Host.Outcome.next.inj next).symm.trans (s.command_settled slot 15 tag [n] .done _ _ _ hc effect)
    refine ⟨t, next, served, ?_, windows.trans (by rw [hU]; rfl), lens.trans (by rw [hU]; rfl), fun rest notIdle => ?_⟩
    · rw [left]
      refine State.mirror_mem_finishEvent _ _ i (State.marks_settle _ _ ?_)
      exact List.mem_append_left _ (List.mem_append_left _ (List.mem_append_right _ (List.mem_singleton_self _)))
    · obtain ⟨restful, ⟨-, wait⟩, idle, focus⟩ := rest
      have calmE : ((U.setRecord i (some y)).mark (.mirror i)).calm := by
        rw [hU]
        exact ⟨restful, ⟨.inl notIdle, wait⟩, idle, focus⟩
      have became := calm calmE
      rw [hU] at became
      have queues : s.queue.enter p.cls false r = if p.cls = .urgent then { s.queue with urgent := s.queue.urgent ++ [r] }
          else { s.queue with normal := s.queue.normal ++ [r] } := by
        cases p.cls <;> rfl
      rw [← hy, ← queues]
      exact State.became_of_causes became rfl

end Sys2Proof.Machine
end

section
/-! SUPPORT. Shots that leave: DISCARD and DROP_TETHER. -/

namespace Sys2Proof.Machine

/-! ### What a shot that leaves tethering leaves behind (R175, R176) -/

theorem TetherQueue.leave_order_of_empty (q : TetherQueue) (r : ShotRef) (h : q.order = []) : (q.leave r).order = [] := by
  obtain ⟨urgent, normal⟩ := List.append_eq_nil_iff.mp h
  rw [TetherQueue.leave, urgent, normal]
  rfl

theorem State.withdraw_of_off (s : State) (r : ShotRef) (c : CutBy) (h : s.onPort r = false) :
    s.withdraw r c = { s with queue := s.queue.leave r } :=
  if_neg (by rw [show ({ s with queue := s.queue.leave r } : State).onPort r = s.onPort r from rfl, h]; exact Bool.false_ne_true)

/-- R165, R177: the item of the shot is detached, and its cut begins once the unit under way has ended. -/
theorem State.withdraw_of_sending (s : State) (r : ShotRef) (c : CutBy) (it : Item) (state : s.tport.state = .sending)
    (item : s.tport.item = some it) (attached : it.attached = true) (source : it.source = r) (underWay : it.step.underWay = true) :
    s.withdraw r c = { s with
      queue := s.queue.leave r
      tport := { s.tport with item := some { it with attached := false, cut := it.cut ++ [c] } } } := by
  have on : ({ s with queue := s.queue.leave r } : State).onPort r = true := by
    simp [State.onPort, item, attached, source]
  have detached : ({ s with queue := s.queue.leave r } : State).detachItem = { s with
      queue := s.queue.leave r, tport := { s.tport with item := some { it with attached := false } } } := by
    rw [State.detachItem, State.modifyItem]
    exact congrArg (fun o => ({ s with queue := s.queue.leave r, tport := { s.tport with item := Option.map (fun it => { it with attached := false }) o } } : State)) item
  rw [State.withdraw]
  dsimp only
  rw [if_pos on, detached, State.askCut]
  simp [state, underWay, State.modifyItem]

/-- The queue, the pre-capture list and the port replaced: what changes when a shot leaves tethering or the pre-capture. -/
def State.withdrawn (s : State) (q : TetherQueue) (l : List (Fin 48)) (p : TetherPort) : State :=
  { s with queue := q, shots := { s.shots with preList := l }, tport := p }

section Withdrawn

variable (s : State) (q : TetherQueue) (l : List (Fin 48)) (p : TetherPort)

theorem State.withdrawn_within : s.Within (s.withdrawn q l p) := .of_req s.backdrop_refl rfl

/-- The port that neither takes an item nor waits for a word is as quiet with the shot gone. -/
def State.AsQuiet : Prop := p.state = s.tport.state ∧ p.item.map (·.step) = s.tport.item.map (·.step) ∧ (s.queue.order = [] → q.order = [])

variable {s q l p} (h : s.AsQuiet q p)

include h

theorem State.withdrawn_portQuiet (quiet : s.portQuiet) : (s.withdrawn q l p).portQuiet := by
  obtain ⟨state, step, order⟩ := h
  show (p.state ≠ .idle ∨ q.order = []) ∧ p.item.map (·.step) ≠ some .waitWord
  rw [state, step]
  exact ⟨quiet.1.imp id order, quiet.2⟩

theorem State.withdrawn_fireless (quiet : s.fireless) : (s.withdrawn q l p).fireless :=
  have ⟨rest, port, idle, focus⟩ := quiet
  ⟨rest, State.withdrawn_portQuiet h port, idle, focus⟩

theorem State.withdrawn_calm (quiet : s.calm) : (s.withdrawn q l p).calm :=
  have ⟨rest, port, idle, focus⟩ := quiet
  ⟨rest, State.withdrawn_portQuiet h port, idle, focus⟩

end Withdrawn

theorem State.setRecord_calm (s : State) (i : Fin 48) (r : Option Shot) (h : s.calm) : (s.setRecord i r).calm := h
theorem State.setRecord_fireless (s : State) (i : Fin 48) (r : Option Shot) (h : s.fireless) : (s.setRecord i r).fireless := h

/-- `became` sees nothing of the request unit but the causes. -/
theorem State.became_of_same {s t e u : State} {set : BitVec 20} (h : s.became t u set) (same : { u with req := s.req } = { e with req := s.req }) :
    s.became t e set := ⟨h.1.trans same, h.2⟩

section Leaving

variable (s : State) (slot : Fin 8) (kind : Nat) (tag : Word32) (n : Beat) (i : Fin 48) (q : TetherQueue) (l : List (Fin 48))
  (p : TetherPort) (quiet : s.AsQuiet q p)

theorem State.begun_calm (h : s.calm) : (s.begun slot (kindCode kind) tag [n]).calm := h
theorem State.begun_fireless (h : s.fireless) : (s.begun slot (kindCode kind) tag [n]).fireless := h

include quiet

theorem State.begun_asQuiet : (s.begun slot (kindCode kind) tag [n]).AsQuiet q p := quiet

theorem State.left_calm (y : Option Shot) (h : s.calm) : (((s.begun slot (kindCode kind) tag [n]).withdrawn q l p).setRecord i y).calm :=
  State.setRecord_calm _ i y (State.withdrawn_calm (s.begun_asQuiet slot kind tag n q p quiet) (s.begun_calm slot kind tag n h))

theorem State.left_fireless (y : Option Shot) (h : s.fireless) :
    (((s.begun slot (kindCode kind) tag [n]).withdrawn q l p).setRecord i y).fireless :=
  State.setRecord_fireless _ i y (State.withdrawn_fireless (s.begun_asQuiet slot kind tag n q p quiet) (s.begun_fireless slot kind tag n h))

variable (hc : s.canPost slot) (beat : Beat) (old : State)

include hc

/-- A request after which a shot that has left stays, its record replaced. -/
theorem State.leaving_stays (y : Shot)
    (performed : (s.begun slot (kindCode kind) tag [n]).perform slot (kindCode kind) (putArgs s.req.slots[slot].args [n]) =
      ((((s.begun slot (kindCode kind) tag [n]).withdrawn q l p).setRecord i (some y)).complete slot .done beat).settle old) :
    ∃ t, (.next (s.command slot (kindCode kind) tag [n]) : Result) = .next t ∧ s.served t slot kind tag .done beat ∧
      t.windows = s.windows ∧ t.lens = s.lens ∧
      (s.calm → s.became t ((s.withdrawn q l p).setRecord i (some y)) Cause.requestDone.bit) ∧
      (s.fireless → s.became t { (s.withdrawn q l p).setRecord i (some y) with release := t.release } Cause.requestDone.bit) := by
  have within := (State.withdrawn_within (s.begun slot (kindCode kind) tag [n]) q l p).trans
    (State.steady_setRecord _ i (some y)).within
  obtain ⟨t, next, served, windows, lens, -, calm, fireless⟩ := s.settled_effect slot kind tag [n] .done beat _ old hc within performed
  refine ⟨t, next, served, windows, lens, fun rest => ?_, fun rest => ?_⟩
  · exact State.became_of_same (State.became_of_causes (calm (s.left_calm slot kind tag n i q l p quiet (some y) rest)) rfl) rfl
  · obtain ⟨r, became⟩ := fireless (s.left_fireless slot kind tag n i q l p quiet (some y) rest)
    rw [became.release]
    exact State.became_of_same (State.became_of_causes became rfl) rfl

/-- A request after which a shot that has left is freed. -/
theorem State.leaving_frees (y : Shot)
    (performed : (s.begun slot (kindCode kind) tag [n]).perform slot (kindCode kind) (putArgs s.req.slots[slot].args [n]) =
      (((((s.begun slot (kindCode kind) tag [n]).withdrawn q l p).setRecord i (some y)).freeShot i).complete slot .done beat).settle old) :
    ∃ t, (.next (s.command slot (kindCode kind) tag [n]) : Result) = .next t ∧ s.served t slot kind tag .done beat ∧
      t.windows = s.windows ∧ t.lens = s.lens ∧ (s.calm → t.release = s.release) ∧
      (s.fireless → t.record i = none ∧ (∀ j, j ≠ i → t.record j = s.record j) ∧ t.intake = s.intake ∧
        t.shots.preList = dropElem i l ∧ t.pool = { s.pool with free := s.pool.free ++ y.pages } ∧ t.queue = q) := by
  generalize hV : ((s.begun slot (kindCode kind) tag [n]).withdrawn q l p).setRecord i (some y) = V at performed
  have within : (s.begun slot (kindCode kind) tag [n]).Within V := by
    rw [← hV]
    exact (State.withdrawn_within (s.begun slot (kindCode kind) tag [n]) q l p).trans (State.steady_setRecord _ i (some y)).within
  have freed := V.steady_freeShot i
  have aside := V.aside_freeShot i
  have used : V.record i = some y := by
    rw [← hV]
    exact State.setRecord_same _ _ _
  have others (j : Fin 48) (other : j ≠ i) : V.record j = s.record j := by
    rw [← hV]
    exact State.setRecord_other _ _ _ _ other
  obtain ⟨t, next, served, windows, lens, -, calm, fireless⟩ := s.settled_effect slot kind tag [n] .done beat _ old hc
    (within.trans freed.within) performed
  refine ⟨t, next, served, (windows.trans freed.windows).trans (by rw [← hV]; rfl), (lens.trans freed.lens).trans (by rw [← hV]; rfl),
    fun rest => ?_, fun rest => ?_⟩
  · have calmV : V.calm := by
      rw [← hV]
      exact s.left_calm slot kind tag n i q l p quiet (some y) rest
    exact ((calm (V.freeShot_calm i calmV)).release.trans aside.release).trans (by rw [← hV]; rfl)
  · have firelessV : V.fireless := by
      rw [← hV]
      exact s.left_fireless slot kind tag n i q l p quiet (some y) rest
    obtain ⟨r, became⟩ := fireless (V.freeShot_fireless i firelessV)
    obtain ⟨record, kept, queue, -, intake, preList, pool⟩ := State.became_freeShot used became
    refine ⟨record, fun j other => (kept j other).trans (others j other), intake.trans ?_, preList.trans ?_, pool.trans ?_, queue.trans ?_⟩
    · rw [← hV]; rfl
    · rw [← hV]; rfl
    · rw [← hV]; rfl
    · rw [← hV]; rfl

end Leaving

/-! ### DROP_TETHER (R175) -/

/-- R175: the hold and the tether part of a withdrawn shot go, and the freeing check follows. -/
theorem State.dropTether_of (s W : State) (r : ShotRef) (x y : Shot) (hW : s.withdraw r .dropTether = W) (used : W.record r.index = some x)
    (hy : y = { x with holds := { x.holds with tether := false }, tether := none }) :
    s.dropTether r = (W.setRecord r.index (some y)).freeingCheck r.index := by
  rw [State.dropTether, hW]
  dsimp only
  rw [State.modifyShot_of W r.index _ x used, hy]

/-- Settles O57: by whether TETHER is held, where the shot stands, and what then keeps it. -/
theorem dropTetherWithdrawsShots : Obligations.DropTetherWithdrawsShots := by
  unfold Obligations.DropTetherWithdrawsShots
  intro s slot tag n i x y r q hc found used hr hy hq
  have named : (s.begun slot (kindCode 16) tag [n]).named n.toNat = some (r, x) := by
    rw [hr]
    exact State.named_of_some (s.begun slot (kindCode 16) tag [n]) n.toNat i x found used
  have performed := State.perform_dropTether (s.begun slot (kindCode 16) tag [n]) slot s.req.slots[slot].args n
  rw [State.reqDropTether, named] at performed
  dsimp only at performed
  have index : r.index = i := by rw [hr]
  have state : y.state = x.state := by rw [hy]
  have views : y.views = x.views := by rw [hy]
  have pages : y.pages = x.pages := by rw [hy]
  have ref : ({ index := i, number := y.number } : ShotRef) = r := by rw [hr, hy]
  have left : s.queue.leave r = q := hq.symm
  have position : q.position r = 0 := by rw [← left]; exact TetherQueue.position_leave _ _
  have order (h : s.queue.order = []) : q.order = [] := by rw [← left]; exact TetherQueue.leave_order_of_empty _ _ h
  have dropped (p : TetherPort) (W : State) (hW : (s.begun slot (kindCode 16) tag [n]).withdrawn q s.shots.preList p = W)
      (h : (s.begun slot (kindCode 16) tag [n]).withdraw r .dropTether = W) :
      (s.begun slot (kindCode 16) tag [n]).dropTether r = (W.setRecord i (some y)).freeingCheck i := by
    have usedW : W.record r.index = some x := by rw [← hW, index]; exact used
    rw [State.dropTether_of _ W r x y h usedW hy, index]
  have off (h : s.onPort r = false) :
      (s.begun slot (kindCode 16) tag [n]).withdraw r .dropTether = (s.begun slot (kindCode 16) tag [n]).withdrawn q s.shots.preList s.tport := by
    rw [State.withdraw_of_off (s.begun slot (kindCode 16) tag [n]) r _ h, ← left]
    rfl
  have stayed (p : TetherPort) (quiet : s.AsQuiet q p) (kept : x.state = .kept) (keeps : y.holds ≠ Holds.empty ∨ x.views ≠ 0)
      (gone : (s.begun slot (kindCode 16) tag [n]).withdraw r .dropTether = (s.begun slot (kindCode 16) tag [n]).withdrawn q s.shots.preList p)
      (held : x.holds.tether = true) :
      ∃ t, exec (.dropTether slot tag n) s = .next t ∧ s.served t slot 16 tag .done (queueBeat 0 0 0 false 0) ∧
        t.windows = s.windows ∧ t.lens = s.lens ∧
        (s.calm → s.became t ((s.withdrawn q s.shots.preList p).setRecord i (some y)) Cause.requestDone.bit) := by
    obtain ⟨W, hW⟩ : ∃ W, (s.begun slot (kindCode 16) tag [n]).withdrawn q s.shots.preList p = W := ⟨_, rfl⟩
    have after : (W.setRecord i (some y)).record i = some y := State.setRecord_same _ _ _
    have shown := State.queueResults_of_none (W.setRecord i (some y)) i y after (by rw [hy])
    have queue : W.queue = q := by rw [← hW]; rfl
    rw [ref, State.setRecord_queue, queue, position] at shown
    rw [if_pos held, dropped p W hW (gone.trans hW),
      State.freeingCheck_stays _ i y after (.inl ⟨state.trans kept, by rw [views]; exact keeps⟩), State.queueDone, shown, ← hW] at performed
    obtain ⟨t, next, served, windows, lens, calm, -⟩ :=
      s.leaving_stays slot 16 tag n i q s.shots.preList p quiet hc (queueBeat 0 0 0 false 0) _ y performed
    exact ⟨t, next, served, windows, lens, calm⟩
  refine ⟨fun free none => ?_, fun p free part => ?_, fun held kept away keeps => ?_, fun held kept away empty unviewed => ?_,
    fun it held kept sending item attached source underWay keeps => ?_⟩
  · have shown := State.queueResults_of_none (s.begun slot (kindCode 16) tag [n]) i x used none
    rw [← hr] at shown
    rw [if_neg (by rw [free]; exact Bool.false_ne_true), State.queueDone, shown] at performed
    exact s.quiet_request slot 16 tag [n] .done _ s hc s.backdrop_refl performed
  · have shown := State.queueResults_of_some (s.begun slot (kindCode 16) tag [n]) i x used p part
    rw [← hr] at shown
    rw [if_neg (by rw [free]; exact Bool.false_ne_true), State.queueDone, shown] at performed
    exact s.quiet_request slot 16 tag [n] .done _ s hc s.backdrop_refl performed
  · exact stayed s.tport ⟨rfl, rfl, order⟩ kept keeps (off away) held
  · obtain ⟨W, hW⟩ : ∃ W, (s.begun slot (kindCode 16) tag [n]).withdrawn q s.shots.preList s.tport = W := ⟨_, rfl⟩
    have after : (W.setRecord i (some y)).record i = some y := State.setRecord_same _ _ _
    have beyond := (W.setRecord i (some y)).freeShot_beyond i y after
    have shown := State.queueResults_of_free ((W.setRecord i (some y)).freeShot i) i y.number (by rw [State.freeShot_record, if_pos rfl])
    have queue : ((W.setRecord i (some y)).freeShot i).queue = q := by rw [beyond.queue, ← hW]; rfl
    rw [ref, queue, position] at shown
    rw [if_pos held, dropped s.tport W hW ((off away).trans hW),
      State.freeingCheck_frees _ i y after (.inl ⟨state.trans kept, empty, views.trans unviewed⟩), State.queueDone, shown, ← hW] at performed
    obtain ⟨t, next, served, windows, lens, release, fireless⟩ :=
      s.leaving_frees slot 16 tag n i q s.shots.preList s.tport ⟨rfl, rfl, order⟩ hc (queueBeat 0 0 0 false 0) _ y performed
    refine ⟨t, next, served, windows, lens, fun rest => ?_⟩
    have ⟨restful, port, idle, focus⟩ := rest
    obtain ⟨record, others, intake, -, pool, queued⟩ := fireless ⟨.inl restful, port, idle, focus⟩
    exact ⟨queued, record, others, release rest, intake, by rw [pool, pages]⟩
  · refine stayed _ ⟨rfl, by rw [item]; rfl, order⟩ kept keeps ?_ held
    rw [State.withdraw_of_sending (s.begun slot (kindCode 16) tag [n]) r _ it sending item attached source underWay, ← left]
    rfl

end Sys2Proof.Machine
end

section
/-! SUPPORT. DISCARD. -/

namespace Sys2Proof.Machine

/-- R20: what a shot with views leaves behind. -/
theorem State.leaveBuffer_of_viewed (W : State) (i : Fin 48) (x : Shot) (used : W.record i = some x) (viewed : x.views ≠ 0) :
    W.leaveBuffer i x = W.setRecord i (some { x with state := .discarded, holds := Holds.empty }) :=
  (if_neg viewed).trans (W.modifyShot_of i _ x used)

theorem State.setRecord_of_same (W : State) (i : Fin 48) (x : Shot) (used : W.record i = some x) : W.setRecord i (some x) = W := by
  have same : W.shots.records.set i (some x) = W.shots.records := by
    rw [← used]
    exact Vector.set_getElem_self i.isLt
  rw [State.setRecord, same]

/-- R20: a shot that no view maps is freed. -/
theorem State.leaveBuffer_of_unviewed (W : State) (i : Fin 48) (x : Shot) (used : W.record i = some x) (unviewed : x.views = 0) :
    W.leaveBuffer i x = (W.setRecord i (some x)).freeShot i := by
  rw [W.setRecord_of_same i x used]
  exact if_pos unviewed

theorem State.discardShot_of_filling (s : State) (r : ShotRef) (x : Shot) (h : x.state = .filling) :
    s.discardShot r x = s.modifyShot r.index fun x => { x with lapsed := true } := by rw [State.discardShot, h]

/-- Settles O55: by the shot's state, its view count, and where it stands. -/
theorem discardTakesShotsOut : Obligations.DiscardTakesShotsOut := by
  unfold Obligations.DiscardTakesShotsOut
  intro s slot tag n i x r hc found used hr
  have named : (s.begun slot (kindCode 13) tag [n]).named n.toNat = some (r, x) := by
    rw [hr]
    exact State.named_of_some (s.begun slot (kindCode 13) tag [n]) n.toNat i x found used
  have performed := State.perform_discard (s.begun slot (kindCode 13) tag [n]) slot s.req.slots[slot].args n
  rw [State.reqDiscard, named] at performed
  dsimp only at performed
  have index : r.index = i := by rw [hr]
  have order (h : s.queue.order = []) : (s.queue.leave r).order = [] := TetherQueue.leave_order_of_empty _ _ h
  have gone (keptOff : x.state = .provisional ∨ x.state = .kept ∧ s.onPort r = false) :
      (s.begun slot (kindCode 13) tag [n]).discardShot r x = ((s.begun slot (kindCode 13) tag [n]).withdrawn
        (if x.state = .kept then s.queue.leave r else s.queue)
        (if x.state = .kept then s.shots.preList else dropElem i s.shots.preList) s.tport).leaveBuffer i x := by
    rw [State.discardShot]
    rcases keptOff with provisional | ⟨kept, off⟩
    · rw [provisional, index]
      rfl
    · rw [kept, State.withdraw_of_off (s.begun slot (kindCode 13) tag [n]) r _ off, index]
      rfl
  have quiet : s.AsQuiet (if x.state = .kept then s.queue.leave r else s.queue) s.tport := by
    refine ⟨rfl, rfl, fun h => ?_⟩
    split
    · exact order h
    · exact h
  refine ⟨fun filling => ?_, fun discarded => ?_, fun out unviewed => ?_, fun out viewed => ?_,
    fun it kept sending item attached source underWay viewed => ?_⟩
  · have lapsed : (s.begun slot (kindCode 13) tag [n]).discardShot r x =
        ((s.begun slot (kindCode 13) tag [n]).withdrawn s.queue s.shots.preList s.tport).setRecord i (some { x with lapsed := true }) := by
      rw [State.discardShot_of_filling _ r x filling, index, State.modifyShot_of (s.begun slot (kindCode 13) tag [n]) i _ x used]
      rfl
    obtain ⟨W, hW⟩ : ∃ W, (s.begun slot (kindCode 13) tag [n]).withdrawn s.queue s.shots.preList s.tport = W := ⟨_, rfl⟩
    have shown := State.holdResults_of (W.setRecord i (some { x with lapsed := true })) i { x with lapsed := true } (State.setRecord_same _ _ _)
    rw [lapsed, hW, State.holdDone, hr, shown, ← hW] at performed
    rw [← filling]
    obtain ⟨t, next, served, windows, lens, calm, -⟩ :=
      s.leaving_stays slot 13 tag n i s.queue s.shots.preList s.tport ⟨rfl, rfl, id⟩ hc _ _ _ performed
    exact ⟨t, next, served, windows, lens, calm⟩
  · have stays : (s.begun slot (kindCode 13) tag [n]).discardShot r x = s.begun slot (kindCode 13) tag [n] := by
      rw [State.discardShot, discarded]
    have shown := State.holdResults_of (s.begun slot (kindCode 13) tag [n]) i x used
    rw [stays, State.holdDone, hr, shown, discarded] at performed
    obtain ⟨t, next, served, windows, lens, -, calm, -⟩ := s.settled_effect slot 13 tag [n] .done _ _ _ hc (.refl _) performed
    exact ⟨t, next, served, windows, lens, fun rest => State.became_of_causes (calm rest) rfl⟩
  · obtain ⟨W, hW⟩ : ∃ W, (s.begun slot (kindCode 13) tag [n]).withdrawn (if x.state = .kept then s.queue.leave r else s.queue)
      (if x.state = .kept then s.shots.preList else dropElem i s.shots.preList) s.tport = W := ⟨_, rfl⟩
    have usedW : W.record i = some x := by rw [← hW]; exact used
    have shown := State.holdResults_of_free ((W.setRecord i (some x)).freeShot i) i x.number (by rw [State.freeShot_record, if_pos rfl])
    rw [gone out, hW, W.leaveBuffer_of_unviewed i x usedW unviewed, State.holdDone, hr, shown, ← hW] at performed
    obtain ⟨t, next, served, windows, lens, release, fireless⟩ := s.leaving_frees slot 13 tag n i _ _ s.tport quiet hc _ _ x performed
    refine ⟨t, next, served, windows, lens, release, fun rest => ?_⟩
    obtain ⟨record, others, intake, preList, pool, queue⟩ := fireless rest
    refine ⟨record, others, intake, preList.trans ?_, pool, queue⟩
    split
    · rfl
    · exact dropElem_dropElem _ _
  · obtain ⟨W, hW⟩ : ∃ W, (s.begun slot (kindCode 13) tag [n]).withdrawn (if x.state = .kept then s.queue.leave r else s.queue)
      (if x.state = .kept then s.shots.preList else dropElem i s.shots.preList) s.tport = W := ⟨_, rfl⟩
    have usedW : W.record i = some x := by rw [← hW]; exact used
    have shown := State.holdResults_of (W.setRecord i (some { x with state := .discarded, holds := Holds.empty })) i
      { x with state := .discarded, holds := Holds.empty } (State.setRecord_same _ _ _)
    rw [gone out, hW, W.leaveBuffer_of_viewed i x usedW viewed, State.holdDone, hr, shown, ← hW] at performed
    obtain ⟨t, next, served, windows, lens, calm, fireless⟩ := s.leaving_stays slot 13 tag n i _ _ s.tport quiet hc _ _ _ performed
    exact ⟨t, next, served, windows, lens, fun rest => (calm rest).release, fireless⟩
  · obtain ⟨p, hp⟩ : ∃ p, ({ s.tport with item := some { it with attached := false, cut := it.cut ++ [.discard] } } : TetherPort) = p := ⟨_, rfl⟩
    obtain ⟨W, hW⟩ : ∃ W, (s.begun slot (kindCode 13) tag [n]).withdrawn (s.queue.leave r) s.shots.preList p = W := ⟨_, rfl⟩
    have withdrawn : (s.begun slot (kindCode 13) tag [n]).discardShot r x = W.leaveBuffer i x := by
      rw [State.discardShot, kept,
        State.withdraw_of_sending (s.begun slot (kindCode 13) tag [n]) r _ it sending item attached source underWay, index, ← hW, ← hp]
      rfl
    have usedW : W.record i = some x := by rw [← hW]; exact used
    have shown := State.holdResults_of (W.setRecord i (some { x with state := .discarded, holds := Holds.empty })) i
      { x with state := .discarded, holds := Holds.empty } (State.setRecord_same _ _ _)
    rw [withdrawn, W.leaveBuffer_of_viewed i x usedW viewed, State.holdDone, hr, shown, ← hW] at performed
    obtain ⟨t, next, served, windows, lens, calm, -⟩ := s.leaving_stays slot 13 tag n i (s.queue.leave r) s.shots.preList p
      ⟨by rw [← hp], by rw [← hp, item]; rfl, order⟩ hc _ _ _ performed
    rw [hp]
    exact ⟨t, next, served, windows, lens, calm⟩

end Sys2Proof.Machine
end

section
/-! SUPPORT. What follows an event of a part whose release unit is at rest, and the ends of an item on the port. -/

namespace Sys2Proof.Machine

/-! ### A release unit at rest (R56) -/

/-- R56: with no press, no shot pending and live view OFF the release unit does nothing. -/
theorem State.updateRelease_of_restful (s old : State) (h : s.restful) : s.updateRelease old = s := by
  obtain ⟨half, pending, count, live, state, waiting, timer⟩ := h
  have full : s.fullPress = false := by
    rw [State.halfPress, Bool.or_eq_false_iff] at half
    exact half.2
  have now : s.releaseStateNow = .standby := by simp [State.releaseStateNow, full, pending, count, half, live]
  have unwanted : s.wantedTrigger = none := by simp [State.wantedTrigger, state]
  have set : ({ s with release := { s.release with state := s.releaseStateNow } } : State) = s := by rw [now, ← state]
  have dropped : s.dropUnwanted = s := by
    rw [State.dropUnwanted, unwanted, ← waiting]
    rfl
  have synced : s.syncLive old = s := by
    have notLive : (s.release.state == .live) = false := by rw [state]; rfl
    have noFocus : s.focusLive = false := by rw [State.focusLive, state]; rfl
    rw [State.syncLive, notLive, noFocus, ← timer]
    rfl
  have derived : s.deriveRelease old = s := by rw [State.deriveRelease, set, dropped, synced]
  rw [State.updateRelease, derived, unwanted]

theorem State.settle_of_restful (s old : State) (h : s.restful) : s.settle old = s.deriveFocus.serveOut := by
  rw [State.settle_eq, State.updateRelease_of_restful s.deriveFocus old h]

/-! ### The engine (R136, R146) -/

/-- The image a tether stream reads. -/
def Stream.image (q : Stream) : Fin 48 × Nat × Fin 8 := (q.index, q.number, q.profile)

/-- Nothing but the engine, the lanes and the memory port differs, and the tether stream reads the same image, or none. -/
structure State.EngineOnly (s t : State) : Prop where
  only : ({ t with engine := s.engine, link := s.link, port := s.port } : State) = s
  stream : t.engine.stream.map Stream.image = s.engine.stream.map Stream.image

theorem State.EngineOnly.refl (s : State) : s.EngineOnly s := ⟨rfl, rfl⟩

theorem State.EngineOnly.trans {s t u : State} (h : s.EngineOnly t) (k : t.EngineOnly u) : s.EngineOnly u :=
  ⟨(congrArg (fun v : State => ({ v with engine := s.engine, link := s.link, port := s.port } : State)) k.only :).trans h.only,
    k.stream.trans h.stream⟩

theorem State.EngineOnly.tport {s t : State} (h : s.EngineOnly t) : t.tport = s.tport := (congrArg State.tport h.only :)

theorem State.EngineOnly.ite {s t u : State} (p : Prop) [Decidable p] (ht : s.EngineOnly t) (hu : s.EngineOnly u) :
    s.EngineOnly (if p then t else u) := by
  split
  · exact ht
  · exact hu

theorem Engine.makePlace_stream (e f : Engine) (p : Fin 4) (h : e.makePlace = some (p, f)) : f.stream = e.stream := by
  unfold Engine.makePlace at h
  split at h
  · cases h; rfl
  · split at h
    · cases h; rfl
    · cases h

theorem Engine.stage_stream (e : Engine) (x : Staged) : (e.stage x).stream = e.stream := by
  unfold Engine.stage
  split <;> rfl

section Acts

variable (s : State)

theorem State.engineOnly_engine (e : Engine) (h : e.stream = s.engine.stream) : s.EngineOnly { s with engine := e } :=
  ⟨rfl, congrArg (Option.map Stream.image) h⟩

theorem State.engineOnly_startFill (p : Fin 4) (k : Key) (g : Geometry) : s.EngineOnly (s.startFill p k g) := ⟨rfl, rfl⟩

theorem State.engineOnly_answerLane (f : LaneRead → List Byte) : s.EngineOnly (s.answerLane f) := by
  unfold State.answerLane
  split
  · exact .refl s
  · exact ⟨rfl, rfl⟩

theorem State.engineOnly_prefetch (k : Key) (g : Geometry) : s.EngineOnly (s.prefetch k g) := by
  unfold State.prefetch State.tryFill
  refine .ite _ ?_ (.refl s)
  split
  · next p e made => exact (s.engineOnly_engine e (s.engine.makePlace_stream e p made)).trans (State.engineOnly_startFill _ _ _ _)
  · exact .refl s

theorem State.engineOnly_completeRun (r : Run) (p : Fin 4) (d : List Byte) : s.EngineOnly (s.completeRun r p d) := by
  have done := s.engineOnly_engine { s.engine with run := none, recency := p :: dropElem p s.engine.recency } rfl
  unfold State.completeRun
  dsimp only
  split
  · have answered := done.trans (State.engineOnly_answerLane _ fun q => q.fromRun (developRun r.geom r.profile d r.run))
    exact .ite _ (answered.trans (State.engineOnly_prefetch _ _ _)) answered
  · exact done.trans (State.engineOnly_engine _ _ (Engine.stage_stream _ _))

theorem State.streamWants_stream (t : Stream) (h : s.streamWants = some t) : s.engine.stream = some t := by
  unfold State.streamWants at h
  split at h
  · cases h
  · next q stream =>
    split at h
    · rw [stream, ← h]
    · cases h

theorem Stream.advance_image (t : Stream) : t.advance.image = t.image := by
  unfold Stream.advance
  split <;> rfl

theorem State.engineOnly_takeStreamRun (t : Stream) (h : s.engine.stream = some t) : s.EngineOnly (s.takeStreamRun t) := by
  have taken : s.EngineOnly { s with engine := { s.engine with run := some (s.streamRun t), stream := some t.advance } } :=
    ⟨rfl, by rw [h]; exact congrArg some t.advance_image⟩
  exact .ite _ (taken.trans (State.engineOnly_prefetch _ _ _)) taken

theorem State.engineOnly_engineAct (t : State) (h : s.engineAct = some t) : s.EngineOnly t := by
  unfold State.engineAct State.pickRun at h
  split at h
  · split at h
    · split at h <;> cases h
      · exact ⟨rfl, rfl⟩
      · exact s.engineOnly_answerLane _
    · split at h
      · next q wants => cases h; exact s.engineOnly_takeStreamRun q (s.streamWants_stream q wants)
      · cases h
  · split at h
    · split at h <;> cases h
      exact s.engineOnly_completeRun _ _ _
    · split at h
      · next p e made => cases h; exact (s.engineOnly_engine e (s.engine.makePlace_stream e p made)).trans (State.engineOnly_startFill _ _ _ _)
      · cases h

theorem State.engineOnly_engineActs (n : Nat) (s : State) : s.EngineOnly (s.engineActs n) := by
  induction n generalizing s with
  | zero => exact .refl s
  | succ n ih =>
    unfold State.engineActs
    split
    · next t act => exact (s.engineOnly_engineAct t act).trans (ih t)
    · exact .refl s

end Acts

/-! ### A port without an item (R151) -/

/-- With the release unit at rest and no item to end or take, only the focus state and the engine's side follow an event. -/
theorem State.settle_of_itemless (s old : State) (rest : s.restful) (quiet : s.tport.state ≠ .idle ∨ s.queue.order = [])
    (none : s.tport.item = none) : s.deriveFocus.EngineOnly (s.settle old) := by
  have acts := State.engineOnly_engineActs 128 s.deriveFocus
  rw [s.settle_of_restful old rest, State.serveOut, State.takeNext_of_busy s.deriveFocus quiet]
  unfold State.engineSettle State.resumeUnit
  rw [acts.tport, show s.deriveFocus.tport.item = Option.none from none]
  exact acts

section Itemless

variable {s t : State} (h : s.deriveFocus.EngineOnly t)

include h

theorem State.EngineOnly.kept_tport : t.tport = s.tport := (congrArg State.tport h.only :)
theorem State.EngineOnly.kept_queue : t.queue = s.queue := (congrArg State.queue h.only :)
theorem State.EngineOnly.kept_pool : t.pool = s.pool := (congrArg State.pool h.only :)
theorem State.EngineOnly.kept_lens : t.lens = s.lens := (congrArg State.lens h.only :)
theorem State.EngineOnly.kept_windows : t.windows = s.windows := (congrArg State.windows h.only :)
theorem State.EngineOnly.kept_req : t.req = s.req := (congrArg State.req h.only :)
theorem State.EngineOnly.kept_record (i : Fin 48) : t.record i = s.record i := by
  rw [State.record, (congrArg State.shots h.only :)]; rfl
theorem State.EngineOnly.kept_stream (none : s.engine.stream = none) : t.engine.stream = Option.none := by
  have stream := h.stream
  rw [show s.deriveFocus.engine = s.engine from rfl, none] at stream
  exact Option.map_eq_none_iff.mp stream

end Itemless

end Sys2Proof.Machine
end

section
/-! SUPPORT. Verdicts and stalls: how an item ends. -/

namespace Sys2Proof.Machine

/-! ### The end of an item (R153, R161, R163) -/

/-- R153: the state after the end of an item: the record closed, the stream IDLE, the raw places EMPTY, the reads unwanted. -/
theorem State.endItem_of (s : State) : ∃ e p, s.endItem = { s with
    engine := e, port := p
    tport := { s.tport with item := none, verdictAt := none, tstb := false, raw := Vector.replicate 2 .empty } } ∧ e.stream = none :=
  ⟨s.endItem.engine, s.endItem.port, rfl, rfl⟩

theorem State.endItem_restful (s : State) (h : s.restful) : s.endItem.restful := h

/-- R170: the shot of an attached item returns to its class. -/
theorem State.returnShot_of (s W : State) (it : Item) (b : Bool) (x y : Shot) (p : TetherPart) (attached : it.attached = true)
    (used : s.record it.source.index = some x) (number : x.number = it.source.number) (part : x.tether = some p)
    (hy : y = { x with tether := some { p with state := .queued } }) (hW : W = { s with queue := s.queue.enter p.cls b it.source }) :
    s.returnShot it b = (W.setRecord it.source.index (some y)).mark (.mirror it.source.index) := by
  have ref : ({ index := it.source.index, number := x.number } : ShotRef) = it.source := by rw [number]
  exact (if_pos attached).trans (s.enqueue_of W it.source.index b x y p used part hy (by rw [ref]; exact hW))

/-- What a halted port leaves: the item ended, its shot QUEUED at the head of its class. -/
structure State.Halted (s : State) (it : Item) (x : Shot) (p : TetherPart) (t : State) : Prop where
  backdrop : s.backdrop t
  tport : t.tport = { s.tport with
    state := .halted, item := none, verdictAt := none, tstb := false, raw := Vector.replicate 2 .empty }
  cause : t.pendingCause .tetherHalted = true
  queue : t.queue = s.queue.enter p.cls true it.source
  record : t.record it.source.index = some { x with tether := some { p with state := .queued } }
  stream : t.engine.stream = none
  pool : t.pool = s.pool
  lens : t.lens = s.lens

/-- R161, R163: a lost verdict or a stall, and what follows it with the release unit at rest. -/
theorem State.verdictLost_halts (s old : State) (it : Item) (x : Shot) (p : TetherPart) (attached : it.attached = true) (rest : s.restful)
    (used : s.record it.source.index = some x) (number : x.number = it.source.number) (part : x.tether = some p) :
    s.Halted it x p ((s.verdictLost it).settle old) := by
  obtain ⟨e, q, ended, noStream⟩ := s.endItem_of
  obtain ⟨y, hy⟩ : ∃ y, y = { x with tether := some { p with state := .queued } } := ⟨_, rfl⟩
  obtain ⟨W, hW⟩ : ∃ W : State, W = { s.endItem with queue := s.endItem.queue.enter p.cls true it.source } := ⟨_, rfl⟩
  have returned := s.endItem.returnShot_of W it true x y p attached used number part hy hW
  have lost : s.verdictLost it = (((W.setRecord it.source.index (some y)).mark (.mirror it.source.index)).setPort .halted).raise .tetherHalted := by
    rw [State.verdictLost, returned]
  rw [ended] at hW
  generalize hE : s.verdictLost it = E at lost
  have engine : E.deriveFocus.EngineOnly (E.settle old) := by
    refine State.settle_of_itemless E old ?_ (.inl ?_) ?_
    · rw [lost, hW]; exact rest
    · rw [lost, hW]; exact PortState.noConfusion
    · rw [lost, hW]; rfl
  have steady := E.steady_settle old
  have raised : E.pendingCause .tetherHalted = true := by rw [lost]; exact State.pendingCause_raise _ _
  generalize E.settle old = t at engine steady
  refine ⟨State.backdrop_trans ?_ steady.backdrop, engine.kept_tport.trans ?_, steady.causes _ raised, engine.kept_queue.trans ?_,
    (engine.kept_record _).trans ?_, engine.kept_stream ?_, engine.kept_pool.trans ?_, engine.kept_lens.trans ?_⟩
  · rw [lost, hW]; exact s.backdrop_refl
  · rw [lost, hW]; rfl
  · rw [lost, hW]; rfl
  · rw [lost, ← hy]; exact State.setRecord_same _ _ _
  · rw [lost, hW]; exact noStream
  · rw [lost, hW]; rfl
  · rw [lost, hW]; rfl

/-- Settles O40: a stall and a lost verdict end the item in one way. -/
theorem stallsAndLostVerdictsHaltThePort : Obligations.StallsAndLostVerdictsHaltThePort := by
  unfold Obligations.StallsAndLostVerdictsHaltThePort
  refine ⟨fun s it since x p sending item step reached uncut attached rest used number part => ?_,
    fun s it e x p awaiting item deadline reached attached rest used number part => ?_⟩
  · have wait : it.step.trdyWait = some since := by rcases step with h | h | h <;> rw [h] <;> rfl
    have due : s.reached s.stallAt = true := by
      have stall : s.stallAt = some (since + s.tables.tether.stallLimit) := by
        rw [State.stallAt, State.stepNow, if_pos sending, item, Option.map_some, Option.bind_some, wait, Option.map_some]
      rw [stall]
      exact decide_eq_true reached
    have stalled : s.stallReached = ((s.verdictLost it).settle s).finishEvent s := by
      rw [State.stallReached, item]
      dsimp only
      rw [if_pos due, State.event, State.stallPort, if_neg (by simp [uncut]), State.verdictLost]
    have halted := s.verdictLost_halts s it x p attached rest used number part
    have next : exec .stall s = .next (((s.verdictLost it).settle s).finishEvent s) := congrArg Host.Outcome.next stalled
    generalize (s.verdictLost it).settle s = t at halted next
    obtain ⟨backdrop, tport, cause, queue, record, stream, pool, lens⟩ := halted
    exact ⟨_, next, backdrop, (congrArg TetherPort.state tport :), (congrArg TetherPort.item tport :), (congrArg TetherPort.tstb tport :),
      (congrArg TetherPort.td tport :), cause, queue, record, fun q => by
        rw [State.finishEvent_tport, tport]; exact Vector.getElem_replicate q.isLt, stream, pool, lens⟩
  · have due : s.reached s.tport.verdictAt = true := by
      rw [deadline]
      exact decide_eq_true reached
    have lost : s.verdictReached = ((s.verdictLost it).settle s).finishEvent s := by
      rw [State.verdictReached, State.awaited, if_pos awaiting, item]
      exact if_pos due
    have halted := s.verdictLost_halts s it x p attached rest used number part
    have next : exec .verdictTimeout s = .next (((s.verdictLost it).settle s).finishEvent s) := congrArg Host.Outcome.next lost
    generalize (s.verdictLost it).settle s = t at halted next
    obtain ⟨backdrop, tport, cause, queue, record, stream, pool, lens⟩ := halted
    exact ⟨_, next, backdrop, (congrArg TetherPort.state tport :), (congrArg TetherPort.item tport :),
      (congrArg TetherPort.verdictAt tport :), cause, queue, record, pool, lens⟩

/-! ### Verdicts (R16, R163, R172) -/

/-- R163: a TACK edge within the verdict window. -/
theorem exec_tack (s : State) (it : Item) (awaiting : s.tport.state = .awaitVerdict) (item : s.tport.item = some it)
    (inactive : s.tackActive = false) : exec (.tack s.tables.tether.tackLevel) s =
      .next ((((s.setTack s.tables.tether.tackLevel).acceptItem it).settle s).finishEvent s) := by
  have active : (s.setTack s.tables.tether.tackLevel).tackActive = true := beq_self_eq_true s.tables.tether.tackLevel
  have awaited : s.awaited = some it := (if_pos awaiting).trans item
  have reads : s.tackReads s.tables.tether.tackLevel = ((s.setTack s.tables.tether.tackLevel).acceptItem it).settle s := by
    rw [State.tackReads, awaited]
    exact if_pos (by rw [inactive, active]; rfl)
  exact congrArg (fun u : State => Host.Outcome.next (u.finishEvent s)) reads

theorem exec_tnak (s : State) (it : Item) (awaiting : s.tport.state = .awaitVerdict) (item : s.tport.item = some it)
    (inactive : s.tnakActive = false) : exec (.tnak s.tables.tether.tnakLevel) s =
      .next ((((s.setTnak s.tables.tether.tnakLevel).refuseItem it).settle s).finishEvent s) := by
  have active : (s.setTnak s.tables.tether.tnakLevel).tnakActive = true := beq_self_eq_true s.tables.tether.tnakLevel
  have awaited : s.awaited = some it := (if_pos awaiting).trans item
  have reads : s.tnakReads s.tables.tether.tnakLevel = ((s.setTnak s.tables.tether.tnakLevel).refuseItem it).settle s := by
    rw [State.tnakReads, awaited]
    exact if_pos (by rw [inactive, active]; rfl)
  exact congrArg (fun u : State => Host.Outcome.next (u.finishEvent s)) reads

/-- R172: an attempt below the limit returns the shot to the tail of its class. -/
theorem State.countAttempt_below (s W : State) (it : Item) (b : Bool) (x y : Shot) (p : TetherPart) (attached : it.attached = true)
    (used : s.record it.source.index = some x) (number : x.number = it.source.number) (part : x.tether = some p)
    (below : it.attempt < s.tables.tether.attemptLimit)
    (hy : y = { x with tether := some { p with attempts := p.attempts + 1, state := .queued } })
    (hW : W = { s with queue := s.queue.enter p.cls b it.source }) :
    s.countAttempt it b = (W.setRecord it.source.index (some y)).mark (.mirror it.source.index) := by
  obtain ⟨x', hx'⟩ : ∃ x', x' = { x with tether := some { p with attempts := p.attempts + 1 } } := ⟨_, rfl⟩
  have counted : s.modifyShot it.source.index (fun x => x.mapTether fun t => { t with attempts := t.attempts + 1 }) =
      s.setRecord it.source.index (some x') := by
    rw [State.modifyShot_of s _ _ x used, Shot.mapTether, part, hx']
    rfl
  have ref : ({ index := it.source.index, number := x'.number } : ShotRef) = it.source := by rw [hx', number]
  have entered := State.enqueue_of (s.setRecord it.source.index (some x')) (W.setRecord it.source.index (some x')) it.source.index b x' y
    { p with attempts := p.attempts + 1 } (State.setRecord_same _ _ _) (by rw [hx']) (by rw [hy, hx']) (by rw [hW, ref]; rfl)
  rw [State.setRecord_setRecord] at entered
  rw [State.countAttempt, if_pos attached]
  dsimp only
  rw [if_neg (Nat.not_le.mpr below), counted, entered]

/-- R172: at the limit the shot is FAILED. -/
theorem State.countAttempt_at (s : State) (it : Item) (b : Bool) (x y : Shot) (p : TetherPart) (attached : it.attached = true)
    (used : s.record it.source.index = some x) (part : x.tether = some p) (limit : s.tables.tether.attemptLimit ≤ it.attempt)
    (hy : y = { x with tether := some { p with attempts := p.attempts + 1, state := .failed } }) :
    s.countAttempt it b = (s.setRecord it.source.index (some y)).raise .tetherFailed := by
  obtain ⟨x', hx'⟩ : ∃ x', x' = { x with tether := some { p with attempts := p.attempts + 1 } } := ⟨_, rfl⟩
  have counted : s.modifyShot it.source.index (fun x => x.mapTether fun t => { t with attempts := t.attempts + 1 }) =
      s.setRecord it.source.index (some x') := by
    rw [State.modifyShot_of s _ _ x used, Shot.mapTether, part, hx']
    rfl
  have failed : (s.setRecord it.source.index (some x')).modifyShot it.source.index (fun x => x.withTetherState .failed) =
      s.setRecord it.source.index (some y) := by
    rw [State.modifyShot_of (s.setRecord it.source.index (some x')) _ _ x' (State.setRecord_same _ _ _), State.setRecord_setRecord,
      Shot.withTetherState, Shot.mapTether, hy, hx']
    rfl
  rw [State.countAttempt, if_pos attached]
  dsimp only
  rw [if_pos limit, counted, failed]

/-- Settles O41: by the edge, and by what then keeps the shot or the attempts left. -/
theorem verdictsDecideTheItem : Obligations.VerdictsDecideTheItem := by
  unfold Obligations.VerdictsDecideTheItem
  refine ⟨fun s it x p y awaiting item attached rest empty inactive used number part kept hy => ?_,
    fun s it x p awaiting item attached rest unlinked inactive used number part below => ?_,
    fun s it x p awaiting item attached rest empty inactive used number part limit => ?_, fun s level other => ⟨?_, ?_⟩⟩
  · have next := exec_tack s it awaiting item inactive
    obtain ⟨e, q, ended, -⟩ := (s.setTack s.tables.tether.tackLevel).endItem_of
    obtain ⟨V, hV⟩ : ∃ V, (s.setTack s.tables.tether.tackLevel).endItem.setRecord it.source.index (some y) = V := ⟨_, rfl⟩
    have sent : (s.setTack s.tables.tether.tackLevel).endItem.modifyShot it.source.index
        (fun x => { x.withTetherState .sent with holds := { x.holds with tether := false } }) = V := by
      rw [State.modifyShot_of (s.setTack s.tables.tether.tackLevel).endItem _ _ x used, Shot.withTetherState, Shot.mapTether, part,
        ← hV, hy]
      rfl
    have accepted : (s.setTack s.tables.tether.tackLevel).acceptItem it = ((V.freeingCheck it.source.index).raise .tetherSent).portIdle := by
      rw [State.acceptItem, sent]
    have after : V.record it.source.index = some y := by rw [← hV]; exact State.setRecord_same _ _ _
    have state : y.state = .kept := by rw [hy]; exact kept
    rw [ended] at hV
    have steadyU := V.steady_freeingCheck it.source.index
    have asideU := V.aside_freeingCheck it.source.index
    have apartU : V.Apart (V.freeingCheck it.source.index) := by
      by_cases keeps : y.holds = Holds.empty ∧ y.views = 0
      · rw [V.freeingCheck_frees _ y after (.inl ⟨state, keeps⟩)]
        exact V.apart_freeShot _
      · rw [V.freeingCheck_stays _ y after (.inl ⟨state, Decidable.not_and_iff_not_or_not.mp keeps⟩)]
        exact .refl V
    have stays (keeps : y.holds ≠ Holds.empty ∨ y.views ≠ 0) := V.freeingCheck_stays _ y after (.inl ⟨state, keeps⟩)
    have frees (none : y.holds = Holds.empty) (unviewed : y.views = 0) := V.freeingCheck_frees _ y after (.inl ⟨state, none, unviewed⟩)
    have freedRecord := V.freeShot_record it.source.index it.source.index
    have freedPool := V.freeShot_pool it.source.index
    generalize V.freeingCheck it.source.index = U at accepted steadyU asideU apartU stays frees
    generalize hE : (s.setTack s.tables.tether.tackLevel).acceptItem it = E at next accepted
    have engine : E.deriveFocus.EngineOnly (E.settle s) := by
      refine State.settle_of_itemless E s ?_ (.inr ?_) ?_
      · have restU : U.restful := State.restful_of steadyU asideU (by rw [← hV]; exact rest)
        rw [accepted]
        exact restU
      · rw [accepted]
        show U.queue.order = []
        rw [apartU.queue, ← hV]
        exact empty
      · rw [accepted]
        exact apartU.item.trans (by rw [← hV]; rfl)
    have steady := E.steady_settle s
    have raised : E.pendingCause .tetherSent = true := by rw [accepted]; exact State.pendingCause_raise _ _
    generalize E.settle s = t at next engine steady
    have linked : U.tlinkActive = s.tlinkActive := by
      rw [State.tlinkActive, steadyU.pins, steadyU.tables, ← hV]
      rfl
    refine ⟨_, next, steady.pins.trans ?_, (congrArg TetherPort.item engine.kept_tport :).trans ?_,
      (congrArg TetherPort.state engine.kept_tport :).trans ?_, steady.causes _ raised, engine.kept_queue.trans ?_,
      engine.kept_lens.trans ?_, steady.mem.trans ?_, fun keeps => ⟨(engine.kept_record _).trans ?_, engine.kept_pool.trans ?_⟩,
      fun none unviewed => ⟨(engine.kept_record _).trans ?_, engine.kept_pool.trans ?_⟩⟩
    · rw [accepted]
      exact steadyU.pins.trans (by rw [← hV]; rfl)
    · rw [accepted]
      exact apartU.item.trans (by rw [← hV]; rfl)
    · rw [accepted, ← linked]
      rfl
    · rw [accepted]
      exact apartU.queue.trans (by rw [← hV]; rfl)
    · rw [accepted]
      exact steadyU.lens.trans (by rw [← hV]; rfl)
    · rw [accepted]
      exact steadyU.mem.trans (by rw [← hV]; rfl)
    · rw [accepted, stays keeps]
      exact after
    · rw [accepted, stays keeps, ← hV]
      rfl
    · rw [accepted, frees none unviewed]
      exact freedRecord.trans (if_pos rfl)
    · rw [accepted, frees none unviewed]
      refine freedPool.trans ?_
      rw [after, ← hV]
      exact congrArg (fun l : List Nat => ({ s.pool with free := s.pool.free ++ l } : Pool)) (by rw [hy]; rfl)
  · have next := exec_tnak s it awaiting item inactive
    obtain ⟨e, q, ended, -⟩ := (s.setTnak s.tables.tether.tnakLevel).endItem_of
    obtain ⟨y, hy⟩ : ∃ y, y = { x with tether := some { p with attempts := p.attempts + 1, state := .queued } } := ⟨_, rfl⟩
    obtain ⟨W, hW⟩ : ∃ W : State, W = { (s.setTnak s.tables.tether.tnakLevel).endItem with
      queue := (s.setTnak s.tables.tether.tnakLevel).endItem.queue.enter p.cls false it.source } := ⟨_, rfl⟩
    have counted := State.countAttempt_below (s.setTnak s.tables.tether.tnakLevel).endItem W it false x y p attached used number part below hy hW
    have refused : (s.setTnak s.tables.tether.tnakLevel).refuseItem it =
        ((W.setRecord it.source.index (some y)).mark (.mirror it.source.index)).portIdle := by rw [State.refuseItem, counted]
    rw [ended] at hW
    generalize hE : (s.setTnak s.tables.tether.tnakLevel).refuseItem it = E at next refused
    have state : E.tport.state = .waitLink := by
      rw [refused, hW]
      have off : ¬ s.tlinkActive = true := by rw [unlinked]; exact Bool.false_ne_true
      exact if_neg off
    have engine : E.deriveFocus.EngineOnly (E.settle s) := by
      refine State.settle_of_itemless E s ?_ (.inl (by rw [state]; decide)) ?_
      · rw [refused, hW]; exact rest
      · rw [refused, hW]; rfl
    have steady := E.steady_settle s
    generalize E.settle s = t at next engine steady
    refine ⟨_, next, steady.pins.trans ?_, (congrArg TetherPort.item engine.kept_tport :).trans ?_,
      (congrArg TetherPort.state engine.kept_tport :).trans state, engine.kept_queue.trans ?_, engine.kept_pool.trans ?_,
      (engine.kept_record _).trans ?_⟩
    · rw [refused, hW]; rfl
    · rw [refused, hW]; rfl
    · rw [refused, hW]; rfl
    · rw [refused, hW]; rfl
    · rw [refused, ← hy]; exact State.setRecord_same _ _ _
  · have next := exec_tnak s it awaiting item inactive
    obtain ⟨e, q, ended, -⟩ := (s.setTnak s.tables.tether.tnakLevel).endItem_of
    obtain ⟨y, hy⟩ : ∃ y, y = { x with tether := some { p with attempts := p.attempts + 1, state := .failed } } := ⟨_, rfl⟩
    have counted := State.countAttempt_at (s.setTnak s.tables.tether.tnakLevel).endItem it false x y p attached used part limit hy
    have refused : (s.setTnak s.tables.tether.tnakLevel).refuseItem it =
        (((s.setTnak s.tables.tether.tnakLevel).endItem.setRecord it.source.index (some y)).raise .tetherFailed).portIdle := by
      rw [State.refuseItem, counted]
    rw [ended] at refused
    generalize hE : (s.setTnak s.tables.tether.tnakLevel).refuseItem it = E at next refused
    have engine : E.deriveFocus.EngineOnly (E.settle s) := by
      refine State.settle_of_itemless E s ?_ (.inr ?_) ?_
      · rw [refused]; exact rest
      · rw [refused]; exact empty
      · rw [refused]; rfl
    have steady := E.steady_settle s
    have raised : E.pendingCause .tetherFailed = true := by rw [refused]; exact State.pendingCause_raise _ _
    generalize E.settle s = t at next engine steady
    refine ⟨_, next, steady.pins.trans ?_, (congrArg TetherPort.item engine.kept_tport :).trans ?_,
      engine.kept_queue.trans ?_, steady.causes _ raised, engine.kept_pool.trans ?_, (engine.kept_record _).trans ?_⟩
    · rw [refused]; rfl
    · rw [refused]; rfl
    · rw [refused]; rfl
    · rw [refused]; rfl
    · rw [refused, ← hy]; exact State.setRecord_same _ _ _
  · have unread : s.tackReads level = s.setTack level := by rw [State.tackReads, State.awaited, if_neg other]
    exact ⟨_, congrArg (fun u : State => Host.Outcome.next (u.finishEvent s)) unread, rfl, (BitVec.or_zero (x := s.req.causes)).symm⟩
  · have unread : s.tnakReads level = s.setTnak level := by rw [State.tnakReads, State.awaited, if_neg other]
    exact ⟨_, congrArg (fun u : State => Host.Outcome.next (u.finishEvent s)) unread, rfl, (BitVec.or_zero (x := s.req.causes)).symm⟩

end Sys2Proof.Machine
end

section
/-! SUPPORT. TETHER_CONTROL. -/

namespace Sys2Proof.Machine

section Control

variable (s : State) (slot : Fin 8) (a : Vector Beat 6)

theorem State.perform_tetherControl (v : Beat) :
    s.perform slot (kindCode 17) (putArgs a [v]) = s.reqTetherControl slot v.toNat :=
  congrArg (s.reqTetherControl slot) (arg_putArgs_zero a v [])

theorem State.perform_enable : s.perform slot (kindCode 17) (putArgs a [0]) = s.reqEnable slot := s.perform_tetherControl slot a 0
theorem State.perform_disable : s.perform slot (kindCode 17) (putArgs a [1]) = s.reqDisable slot := s.perform_tetherControl slot a 1
theorem State.perform_resume : s.perform slot (kindCode 17) (putArgs a [2]) = s.reqResume slot := s.perform_tetherControl slot a 2

end Control

/-- R151, R164: a port that is brought to IDLE, or WAIT_LINK, by its request. -/
theorem State.enabled (s : State) (slot : Fin 8) (tag : Word32) (v : Beat) (p : PortState) (hc : s.canPost slot)
    (hp : p = if s.tlinkActive then .idle else .waitLink)
    (performed : (s.begun slot (kindCode 17) tag [v]).perform slot (kindCode 17) (putArgs s.req.slots[slot].args [v]) =
      ((s.begun slot (kindCode 17) tag [v]).portIdle.portDone slot .done).settle (s.begun slot (kindCode 17) tag [v])) :
    ∃ t, (.next (s.command slot (kindCode 17) tag [v]) : Result) = .next t ∧ s.served t slot 17 tag .done (results [p.code]) ∧
      t.windows = s.windows ∧ t.lens = s.lens ∧ (s.calm → (s.queue.order = [] ∨ s.tlinkActive = false) →
        s.became t { s with tport := { s.tport with state := p } } Cause.requestDone.bit) := by
  have idle : (s.begun slot (kindCode 17) tag [v]).portIdle = (s.begun slot (kindCode 17) tag [v]).setPort p := by
    rw [hp]
    rfl
  rw [idle] at performed
  obtain ⟨t, next, served, windows, lens, -, calm, -⟩ := s.settled_effect slot 17 tag [v] .done (results [p.code])
    ((s.begun slot (kindCode 17) tag [v]).setPort p) _ hc (State.steady_setPort _ p).within performed
  refine ⟨t, next, served, windows, lens, fun ⟨rest, ⟨_, wait⟩, engine, focus⟩ quiet => ?_⟩
  refine State.became_of_causes (calm ⟨rest, ⟨?_, wait⟩, engine, focus⟩) rfl
  rcases quiet with empty | unlinked
  · exact .inr empty
  · refine .inl ?_
    show p ≠ .idle
    rw [hp, unlinked]
    decide

theorem State.reqDisable_of_itemless (s : State) (slot : Fin 8)
    (h : s.tport.state = .disabled ∨ s.tport.state = .waitLink ∨ s.tport.state = .idle ∨ s.tport.state = .halted) :
    s.reqDisable slot = (s.setPort .disabled).portDone slot .done := by
  unfold State.reqDisable
  rcases h with h | h | h | h
  · rw [h]
  · rw [h]
  · rw [h]
  · rw [h]

theorem State.reqDisable_of_item (s : State) (slot : Fin 8) (h : s.tport.state = .sending ∨ s.tport.state = .awaitVerdict) :
    s.reqDisable slot = (s.askCut (.disable slot)).settle s := by
  unfold State.reqDisable
  rcases h with h | h
  · rw [h]
  · rw [h]

/-- R165: a cut of an item with a unit under way waits for the unit's end. -/
theorem State.askCut_of_sending (s : State) (c : CutBy) (it : Item) (sending : s.tport.state = .sending) (item : s.tport.item = some it)
    (underWay : it.step.underWay = true) :
    s.askCut c = { s with tport := { s.tport with item := some { it with cut := it.cut ++ [c] } } } := by
  rw [State.askCut, item]
  simp [sending, underWay, State.modifyItem, item]

/-- A command that takes its post and does not complete: what its effect `E` and what follows leave of the request unit. -/
theorem State.command_unfinished (s : State) (slot : Fin 8) (kind : Nat) (tag : Word32) (args : List Beat) (E old : State) (hc : s.canPost slot)
    (within : (s.begun slot (kindCode kind) tag args).Within E)
    (performed : (s.begun slot (kindCode kind) tag args).perform slot (kindCode kind) (putArgs s.req.slots[slot].args args) = E.settle old) :
    ∃ t, (.next (s.command slot (kindCode kind) tag args) : Result) = .next t ∧ s.backdrop t ∧ s.otherSlotsKept t slot ∧
      t.req.slots[slot].state = .taken ∧ t.req.slots[slot].taken.map (fun k => (k.kind, k.tag)) = some (kindCode kind, tag) ∧
      (∀ c, s.pendingCause c = true → t.pendingCause c = true) ∧ t = (E.settle old).finishEvent s := by
  have command := s.command_of_canPost slot (kindCode kind) tag args hc
  rw [performed] at command
  obtain ⟨backdrop, ⟨others, mask, shown, statusCount, mirrorCounts, zoneSerial⟩, causes⟩ := s.begun_served slot (kindCode kind) tag args
  have settled := within.trans (E.steady_settle old).within
  have copy := s.begun_slot slot (kindCode kind) tag args
  generalize s.begun slot (kindCode kind) tag args = u at within backdrop others mask shown statusCount mirrorCounts zoneSerial causes settled copy
  generalize E.settle old = v at command settled
  refine ⟨v.finishEvent s, congrArg Host.Outcome.next command, State.backdrop_trans backdrop ⟨settled.time, settled.mem, settled.pins, settled.tables, settled.pending⟩,
    ⟨fun j other => ?_, settled.mask.trans mask, settled.shown.trans shown, settled.statusCount.trans statusCount,
      settled.mirrorCounts.trans mirrorCounts, settled.zoneSerial.trans zoneSerial⟩, ?_, ?_, fun c hcause => settled.causes c ?_, rfl⟩
  · show v.req.slots[j] = _
    rw [settled.slots]
    exact others j other
  · show v.req.slots[slot].state = _
    rw [settled.slots, copy]
    rfl
  · show v.req.slots[slot].taken.map _ = _
    rw [settled.slots, copy]
    rfl
  · rw [State.pendingCause, causes]
    exact hcause

/-- R166: DISABLE ends an item that awaits its verdict at once, its shot at the head of its class. -/
theorem State.askCut_of_awaiting (s W A : State) (slot : Fin 8) (it : Item) (x y : Shot) (p : TetherPart)
    (awaiting : s.tport.state = .awaitVerdict) (item : s.tport.item = some it) (uncut : it.cut = []) (attached : it.attached = true)
    (used : s.record it.source.index = some x) (number : x.number = it.source.number) (part : x.tether = some p)
    (hy : y = { x with tether := some { p with state := .queued } })
    (hW : W = { s.endItem with queue := s.endItem.queue.enter p.cls true it.source })
    (hA : A = ((W.setRecord it.source.index (some y)).mark (.mirror it.source.index)).setPort .disabled) :
    s.askCut (.disable slot) = (if it.underran then A.raise .underrun else A).complete slot .done (results [0]) := by
  obtain ⟨it', hit⟩ : ∃ it', it' = { it with cut := it.cut ++ [CutBy.disable slot] } := ⟨_, rfl⟩
  have cut : it'.cut = [CutBy.disable slot] := by rw [hit, uncut]; rfl
  have underran : it'.underran = it.underran := by rw [hit]
  have ended : (s.modifyItem fun _ => it').endItem.returnShot it' true =
      (W.setRecord it.source.index (some y)).mark (.mirror it.source.index) := by
    rw [hit]
    exact s.endItem.returnShot_of W it true x y p attached used number part hy hW
  have asked : s.askCut (.disable slot) = (s.modifyItem fun _ => it').endCut it' false := by
    rw [State.askCut, item, hit]
    exact if_pos awaiting
  rw [asked, State.endCut, ended, cut, underran]
  cases it.underran with
  | true => rw [hA]; rfl
  | false => rw [hA]; rfl

/-- Settles O58: by the action and the state of the port. -/
theorem tetherControlMovesThePort : Obligations.TetherControlMovesThePort := by
  unfold Obligations.TetherControlMovesThePort
  intro s slot tag hc
  refine ⟨fun other => ?_, fun other => ?_, fun c p hp request => ?_, fun itemless => ?_, fun it sending item underWay => ?_,
    fun it x p awaiting item uncut attached rest used number part => ?_⟩
  · refine s.quiet_request slot 17 tag [0] .wrongState _ s hc s.backdrop_refl ?_
    rw [State.perform_enable]
    exact if_neg other
  · refine s.quiet_request slot 17 tag [2] .wrongState _ s hc s.backdrop_refl ?_
    rw [State.perform_resume]
    exact if_neg other
  · rcases request with ⟨rfl, disabled⟩ | ⟨rfl, halted⟩
    · refine s.enabled slot tag 0 p hc hp ?_
      rw [State.perform_enable]
      exact if_pos disabled
    · refine s.enabled slot tag 2 p hc hp ?_
      rw [State.perform_resume]
      exact if_pos halted
  · refine s.quiet_request slot 17 tag [1] .done _ { s with tport := { s.tport with state := .disabled } } hc s.backdrop_refl ?_
    rw [State.perform_disable, State.reqDisable_of_itemless (s.begun slot _ tag [1]) slot itemless]
    rfl
  · have cut := State.askCut_of_sending (s.begun slot (kindCode 17) tag [1]) (.disable slot) it sending item underWay
    have performed := State.perform_disable (s.begun slot (kindCode 17) tag [1]) slot s.req.slots[slot].args
    rw [State.reqDisable_of_item (s.begun slot (kindCode 17) tag [1]) slot (.inl sending)] at performed
    generalize hE : (s.begun slot (kindCode 17) tag [1]).askCut (.disable slot) = E at performed cut
    have within : (s.begun slot (kindCode 17) tag [1]).Within E := by
      rw [cut]
      exact .of_req (State.backdrop_refl _) rfl
    obtain ⟨t, next, backdrop, others, taken, kept, -, left⟩ := s.command_unfinished slot 17 tag [1] E _ hc within performed
    have steady := E.steady_settle (s.begun slot (kindCode 17) tag [1])
    have calmE : E.calm → E.settle (s.begun slot (kindCode 17) tag [1]) = E := E.settle_of_calm _
    generalize E.settle (s.begun slot (kindCode 17) tag [1]) = v at left steady calmE
    refine ⟨t, next, backdrop, others, ?_, ?_, taken, kept, fun ⟨rest, ⟨takes, wait⟩, idle, focus⟩ => ?_⟩
    · rw [left, State.finishEvent_windows, steady.windows, cut]
      rfl
    · rw [left, State.finishEvent_lens, steady.lens, cut]
      rfl
    · have unwaiting : it.step ≠ .waitWord := by
        intro h
        rw [item] at wait
        exact wait (congrArg some h)
      have calm : E.calm := by
        rw [cut]
        exact ⟨rest, ⟨takes, fun h => unwaiting (Option.some.inj h)⟩, idle, focus⟩
      rw [left, calmE calm, cut]
      exact ⟨rfl, (BitVec.or_zero (x := s.req.causes)).symm⟩
  · obtain ⟨e, q, ended, -⟩ := (s.begun slot (kindCode 17) tag [1]).endItem_of
    obtain ⟨y, hy⟩ : ∃ y, y = { x with tether := some { p with state := .queued } } := ⟨_, rfl⟩
    obtain ⟨W, hW⟩ : ∃ W : State, W = { (s.begun slot (kindCode 17) tag [1]).endItem with
      queue := (s.begun slot (kindCode 17) tag [1]).endItem.queue.enter p.cls true it.source } := ⟨_, rfl⟩
    obtain ⟨A, hA⟩ : ∃ A, A = ((W.setRecord it.source.index (some y)).mark (.mirror it.source.index)).setPort .disabled := ⟨_, rfl⟩
    have cut := State.askCut_of_awaiting (s.begun slot (kindCode 17) tag [1]) W A slot it x y p awaiting item uncut attached used number
      part hy hW hA
    have performed := State.perform_disable (s.begun slot (kindCode 17) tag [1]) slot s.req.slots[slot].args
    rw [State.reqDisable_of_item (s.begun slot (kindCode 17) tag [1]) slot (.inr awaiting), cut] at performed
    rw [ended] at hW
    obtain ⟨B, hB⟩ : ∃ B : State, (if it.underran then A.raise .underrun else A) = B := ⟨_, rfl⟩
    have withReq : ({ B with req := A.req } : State) = A := by
      rw [← hB]
      split <;> rfl
    have withinB : A.Within B := by
      rw [← hB]
      split
      · exact (State.Steady.raise A .underrun).within
      · exact .refl A
    have withinA : (s.begun slot (kindCode 17) tag [1]).Within A := by
      have entered : (s.begun slot (kindCode 17) tag [1]).Within W := by
        rw [hW]
        exact .of_req (State.backdrop_refl _) rfl
      rw [hA]
      exact ((entered.trans (W.steady_setRecord it.source.index (some y)).within).trans (State.Steady.mark _ _).within).trans
        (State.steady_setPort _ _).within
    rw [hB] at performed
    obtain ⟨t, next, served, windows, lens, -⟩ := s.settled_effect slot 17 tag [1] .done (results [0]) B _ hc (withinA.trans withinB) performed
    have left := (Host.Outcome.next.inj next).symm.trans (s.command_settled slot 17 tag [1] .done (results [0]) B _ hc performed)
    have tportB : B.tport = { s.tport with
        state := .disabled, item := none, verdictAt := none, tstb := false, raw := Vector.replicate 2 .empty } := by
      refine (congrArg State.tport withReq :).trans ?_
      rw [hA, hW]
      rfl
    have restB : B.restful := by
      have restA : A.restful := by rw [hA, hW]; exact rest
      rw [← withReq] at restA
      exact restA
    have engine : (B.complete slot .done (results [0])).deriveFocus.EngineOnly
        ((B.complete slot .done (results [0])).settle (s.begun slot (kindCode 17) tag [1])) := by
      refine State.settle_of_itemless (B.complete slot .done (results [0])) _ restB (.inl ?_) ?_
      · show B.tport.state ≠ .idle
        rw [tportB]
        exact PortState.noConfusion
      · show B.tport.item = none
        rw [tportB]
    generalize (B.complete slot .done (results [0])).settle (s.begun slot (kindCode 17) tag [1]) = v at left engine
    have tport : t.tport = B.tport := by rw [left]; exact engine.kept_tport
    refine ⟨t, next, served, by rw [tport, tportB], by rw [tport, tportB], by rw [tport, tportB], windows.trans ?_, lens.trans ?_, ?_, ?_, ?_⟩
    · refine (congrArg State.windows withReq :).trans ?_
      rw [hA, hW]
      rfl
    · refine (congrArg State.lens withReq :).trans ?_
      rw [hA, hW]
      rfl
    · rw [left]
      refine (engine.kept_queue.trans (congrArg State.queue withReq :)).trans ?_
      rw [hA, hW]
      rfl
    · rw [left]
      refine (engine.kept_pool.trans (congrArg State.pool withReq :)).trans ?_
      rw [hA, hW]
      rfl
    · rw [left]
      refine ((engine.kept_record it.source.index).trans (congrArg (fun u : State => u.record it.source.index) withReq :)).trans ?_
      rw [hA, ← hy]
      exact State.setRecord_same _ _ _

end Sys2Proof.Machine
end

section
/-! SUPPORT. The port's lines and timers: TLINK, TRDY, SETTLE, strobes and slots. -/

namespace Sys2Proof.Machine

/-! ### A port that does nothing of itself -/

/-- The port takes no item, and goes on with no waiting word. -/
def State.PortStill (s : State) : Prop :=
  (s.tport.state ≠ .idle ∨ s.queue.order = []) ∧ (s.tport.state ≠ .sending ∨ s.tport.item.map (·.step) ≠ some .waitWord)

theorem State.Apart.portStill {s t : State} (h : s.Apart t) (still : s.PortStill) : t.PortStill := by
  unfold State.PortStill
  rw [h.state, h.item, h.queue]
  exact still

theorem State.resumeUnit_of_still (s : State) (h : s.tport.state ≠ .sending ∨ s.tport.item.map (·.step) ≠ some .waitWord) :
    s.resumeUnit = s := by
  unfold State.resumeUnit
  split
  · rfl
  · next it item =>
    refine if_neg fun ⟨wait, sending, _⟩ => ?_
    rcases h with h | h
    · exact h sending
    · rw [item] at h
      exact h (congrArg some wait)

theorem State.apart_settle_of_still (s old : State) (h : s.PortStill) : s.deriveFocus.Apart (s.settle old) := by
  have released := State.apart_updateRelease s.deriveFocus old
  rw [State.settle_eq, State.serveOut]
  generalize s.deriveFocus.updateRelease old = u at released
  obtain ⟨takes, waits⟩ := released.portStill (s := s.deriveFocus) h
  have engine := State.apart_engineActs 128 u
  rw [u.takeNext_of_busy takes]
  unfold State.engineSettle
  rw [State.resumeUnit_of_still _ (engine.portStill ⟨takes, waits⟩).2]
  exact released.trans engine

/-- An event whose effect leaves a still port: what stands after it. -/
structure State.Still (E t : State) : Prop where
  pins : t.pins = E.pins
  mem : t.mem = E.mem
  tables : t.tables = E.tables
  lens : t.lens = E.lens
  time : t.time = E.time
  pending : t.pending = E.pending
  queue : t.queue = E.queue
  tport : { t.tport with raw := E.tport.raw } = E.tport

theorem State.still_event (E old : State) (h : E.PortStill) : E.Still ((E.settle old).finishEvent old) := by
  have steady := E.steady_settle old
  have apart := E.apart_settle_of_still old h
  generalize E.settle old = t at steady apart
  exact ⟨steady.pins, steady.mem, steady.tables, steady.lens, steady.time, steady.pending, apart.queue, apart.tport⟩

section Still

variable {E t : State} (h : E.Still t)

include h

theorem State.Still.state : t.tport.state = E.tport.state := (congrArg TetherPort.state h.tport :)
theorem State.Still.item : t.tport.item = E.tport.item := (congrArg TetherPort.item h.tport :)
theorem State.Still.td : t.tport.td = E.tport.td := (congrArg TetherPort.td h.tport :)
theorem State.Still.tstb : t.tport.tstb = E.tport.tstb := (congrArg TetherPort.tstb h.tport :)
theorem State.Still.verdictAt : t.tport.verdictAt = E.tport.verdictAt := (congrArg TetherPort.verdictAt h.tport :)
theorem State.Still.backdrop {s : State} (same : s.backdrop E) : s.backdrop t :=
  State.backdrop_trans same ⟨h.time, h.mem, h.pins, h.tables, h.pending⟩

end Still

/-! ### TLINK (R151) -/

/-- TLINK set to a level. -/
def State.withTlink (s : State) (level : Bool) : State := { s with pins := { s.pins with tlink := level } }

theorem State.followLink_of_open (s : State) (h : s.tport.state = .idle ∨ s.tport.state = .waitLink) : s.followLink = s.portIdle := by
  unfold State.followLink
  rcases h with h | h
  · rw [h]
  · rw [h]

theorem State.followLink_of_other (s : State) (h : s.tport.state ≠ .idle) (h' : s.tport.state ≠ .waitLink) : s.followLink = s := by
  unfold State.followLink
  split
  · contradiction
  · contradiction
  all_goals rfl

theorem exec_tlinkChange (s : State) (level : Bool) :
    exec (.tlinkChange level) s = .next (((s.withTlink level).followLink.settle s).finishEvent s) := rfl

/-- Settles O36: by the state of the port. -/
theorem linkChangesMoveThePort : Obligations.LinkChangesMoveThePort := by
  unfold Obligations.LinkChangesMoveThePort
  refine ⟨fun s level state inactive => ?_, fun s state empty => ?_, fun s level state => ?_, fun s level sending wait => ?_⟩
  · have followed : (s.withTlink level).followLink = (s.withTlink level).setPort .waitLink := by
      refine ((s.withTlink level).followLink_of_open state).trans ?_
      exact congrArg (s.withTlink level).setPort (if_neg (by rw [State.tlinkActive, beq_iff_eq]; exact inactive))
    have still := State.still_event ((s.withTlink level).setPort .waitLink) s ⟨.inl PortState.noConfusion, .inl PortState.noConfusion⟩
    rw [← followed] at still
    exact ⟨_, exec_tlinkChange s level, still.pins.trans (by rw [followed]; rfl), still.state.trans (by rw [followed]; rfl),
      still.queue.trans (by rw [followed]; rfl), still.mem.trans (by rw [followed]; rfl), still.tables.trans (by rw [followed]; rfl),
      still.lens.trans (by rw [followed]; rfl)⟩
  · have followed : (s.withTlink s.tables.tether.tlinkLevel).followLink = (s.withTlink s.tables.tether.tlinkLevel).setPort .idle := by
      refine ((s.withTlink s.tables.tether.tlinkLevel).followLink_of_open state).trans ?_
      exact congrArg (s.withTlink s.tables.tether.tlinkLevel).setPort (if_pos (beq_self_eq_true s.tables.tether.tlinkLevel))
    have still := State.still_event ((s.withTlink s.tables.tether.tlinkLevel).setPort .idle) s ⟨.inr empty, .inl PortState.noConfusion⟩
    rw [← followed] at still
    exact ⟨_, exec_tlinkChange s _, still.pins.trans (by rw [followed]; rfl), still.state.trans (by rw [followed]; rfl),
      still.queue.trans (by rw [followed]; rfl), still.mem.trans (by rw [followed]; rfl), still.tables.trans (by rw [followed]; rfl),
      still.lens.trans (by rw [followed]; rfl)⟩
  · have apart (p : PortState) (h : p ≠ .disabled ∧ p ≠ .halted ∧ p ≠ .awaitVerdict) : (s.withTlink level).tport.state ≠ p := by
      rintro rfl
      exact state.elim h.1 fun k => k.elim h.2.1 h.2.2
    have followed := State.followLink_of_other (s.withTlink level) (apart _ (by decide)) (apart _ (by decide))
    have still := State.still_event (s.withTlink level) s ⟨.inl (apart _ (by decide)), .inl (apart _ (by decide))⟩
    have next := exec_tlinkChange s level
    rw [followed] at next
    exact ⟨_, next, still.pins, still.state, still.queue, still.mem, still.tables, still.lens⟩
  · have apart (p : PortState) (h : p ≠ .sending) : (s.withTlink level).tport.state ≠ p := fun e => h (e.symm.trans sending)
    have followed := State.followLink_of_other (s.withTlink level) (apart _ (by decide)) (apart _ (by decide))
    have still := State.still_event (s.withTlink level) s ⟨.inl (apart _ (by decide)), .inr wait⟩
    have next := exec_tlinkChange s level
    rw [followed] at next
    exact ⟨_, next, still.pins, still.state.trans sending, still.item, still.td, still.tstb, still.verdictAt, still.queue, still.mem,
      still.tables, still.lens⟩

/-! ### Units (R157 to R160) -/

theorem State.nextWord_of_header (s : State) (it : Item) (high : it.highByte = false) (header : it.phase = .header) :
    s.nextWord it = some (it.header.getD it.word 0) := by
  rw [State.nextWord, high, header]
  rfl

/-- R158 step 1: a word is driven where no wait for READY stands before it. -/
theorem State.beginUnit_drives (s : State) (at_ : Nat) (it : Item) (w : Word16) (item : s.tport.item = some it)
    (word : s.nextWord it = some w) (ready : s.tables.tether.mode = .interlocked → s.trdyReady = true) :
    s.beginUnit at_ = { s with tport := { s.tport with
      td := unitData s.tables.tether.wide it.highByte w, tstb := false
      item := some { it with
        current := w, step := .settling (at_ + s.tables.tether.settle), slotEnd := at_ + s.tables.tether.wordPeriod } } } := by
  have fine : ¬ (s.tables.tether.mode = .interlocked ∧ ¬ s.trdyReady = true) := fun h => h.2 (ready h.1)
  rw [State.beginUnit, item]
  dsimp only
  rw [word]
  refine (if_neg fine).trans ?_
  simp [State.driveUnit, State.modifyItem, item]

theorem State.setStep_of (s : State) (h : Handshake) (it : Item) (item : s.tport.item = some it) :
    s.setStep h = { s with tport := { s.tport with item := some { it with step := h } } } := by
  simp [State.setStep, State.modifyItem, item]

/-- R158 step 1: an INTERLOCKED port waits for READY. -/
theorem State.beginUnit_waits (s : State) (at_ : Nat) (it : Item) (w : Word16) (item : s.tport.item = some it)
    (word : s.nextWord it = some w) (mode : s.tables.tether.mode = .interlocked) (busy : s.trdyReady = false) :
    s.beginUnit at_ = { s with tport := { s.tport with item := some { it with step := .waitReady at_ } } } := by
  rw [State.beginUnit, item]
  dsimp only
  rw [word]
  refine (if_pos ⟨mode, by rw [busy]; exact Bool.false_ne_true⟩).trans ?_
  exact s.setStep_of (.waitReady at_) it item

theorem State.feedPlace_of_developed (s : State) (i : Fin 2) (h : ∀ it, s.tport.item = some it → it.kind = .developed) :
    s.feedPlace i = s := by
  unfold State.feedPlace
  split
  · rfl
  · next it item => exact if_neg fun raw => TetherKind.noConfusion (raw.1.symm.trans (h it item))

/-- R154, R157: the end of a 16-bit unit of a header word, of an item that no cut asks to end. -/
theorem State.endUnit_of_header (s : State) (at_ : Nat) (it it' : Item) (item : s.tport.item = some it) (wide : s.tables.tether.wide = true)
    (kind : it.kind = .developed) (header : it.phase = .header) (uncut : it.cut = [])
    (next : it' = if it.word + 1 < 11 then { it with highByte := false, word := it.word + 1 }
      else { it with highByte := false, phase := .payload, word := 0 }) :
    s.endUnit at_ = ({ s with tport := { s.tport with tstb := false, item := some it' } } : State).followUnit at_ := by
  have after : ({ it with highByte := false } : Item).nextAfterWord = it' := by
    rw [next]
    unfold Item.nextAfterWord
    simp [header, uncut]
  have kind' : it'.kind = .developed := by
    rw [next]
    split <;> exact kind
  have held : ({ s with tport := { s.tport with tstb := false } } : State).handBack it =
      { s with tport := { s.tport with tstb := false } } := if_neg (by simp [header])
  have fed (u : State) (h : u.tport.item = some it') : u.feedRaw = u := by
    have developed (x : Item) (hx : u.tport.item = some x) : x.kind = .developed := by
      rw [h] at hx
      cases hx
      exact kind'
    rw [State.feedRaw, u.feedPlace_of_developed 0 developed, u.feedPlace_of_developed 1 developed]
  have set : ({ s with tport := { s.tport with tstb := false } } : State).modifyItem (fun _ => it') =
      { s with tport := { s.tport with tstb := false, item := some it' } } := by
    simp [State.modifyItem, item]
  rw [State.endUnit, item]
  dsimp only
  rw [if_neg (by simp [wide]), if_neg (by simp [header]), held, after, set, fed _ rfl]

end Sys2Proof.Machine
end

section
/-! SUPPORT. The handshake of a unit, its strobe and its slot. -/

namespace Sys2Proof.Machine

theorem State.stepNow_of (s : State) (it : Item) (sending : s.tport.state = .sending) (item : s.tport.item = some it) :
    s.stepNow = some it.step := by rw [State.stepNow, if_pos sending, item]; rfl

/-- A port in SENDING whose item does not wait for a word does nothing of itself. -/
theorem State.portStill_of_sending (s : State) (it : Item) (sending : s.tport.state = .sending) (item : s.tport.item = some it)
    (step : it.step ≠ .waitWord) : s.PortStill :=
  ⟨.inl (by rw [sending]; decide), .inr (by rw [item]; exact fun h => step (Option.some.inj h))⟩

/-- TRDY set to a level. -/
def State.withTrdy (s : State) (level : Bool) : State := { s with pins := { s.pins with trdy := level } }

theorem exec_trdyChange (s : State) (level : Bool) :
    exec (.trdyChange level) s = .next (((s.withTrdy level).trdyAdvance.settle s).finishEvent s) := rfl

theorem exec_settleWaitEnd (s : State) (it : Item) (e : Nat) (sending : s.tport.state = .sending) (item : s.tport.item = some it)
    (step : it.step = .settling e) (reached : e ≤ s.now) :
    exec .settleWaitEnd s = .next (((s.settleOver e).settle s).finishEvent s) := by
  have ended : s.settleWaitOver = s.event fun s => s.settleOver e := by
    rw [State.settleWaitOver, s.stepNow_of it sending item, step]
    exact if_pos reached
  exact congrArg Host.Outcome.next ended

theorem exec_strobeEnd (s : State) (it : Item) (e : Nat) (sending : s.tport.state = .sending) (item : s.tport.item = some it)
    (step : it.step = .strobe e) (reached : e ≤ s.now) :
    exec .strobeEnd s = .next (((s.strobeOver e).settle s).finishEvent s) := by
  have ended : s.strobeReached = s.event fun s => s.strobeOver e := by
    rw [State.strobeReached, s.stepNow_of it sending item, step]
    exact if_pos reached
  exact congrArg Host.Outcome.next ended

theorem exec_wordSlot (s : State) (it : Item) (sending : s.tport.state = .sending) (item : s.tport.item = some it)
    (timed : s.tables.tether.mode = .timed) (reached : it.slotEnd ≤ s.now) :
    exec .wordSlot s = .next (((s.endUnit it.slotEnd).settle s).finishEvent s) := by
  have ended : s.slotOver = s.event fun s => s.endUnit it.slotEnd := by
    rw [State.slotOver, item]
    exact if_pos ⟨sending, timed, reached⟩
  exact congrArg Host.Outcome.next ended

/-- R159, R160: where the payload's first word is not staged a TIMED item underruns: the END word of its trailer is driven. -/
theorem State.beginUnit_underruns (s : State) (at_ : Nat) (it : Item) (item : s.tport.item = some it) (word : s.nextWord it = none)
    (timed : s.tables.tether.mode = .timed) :
    s.beginUnit at_ = { s with tport := { s.tport with
      td := unitData s.tables.tether.wide false 0xC35A, tstb := false
      item := some { it.underrun with
        current := 0xC35A, step := .settling (at_ + s.tables.tether.settle), slotEnd := at_ + s.tables.tether.wordPeriod } } } := by
  rw [State.beginUnit, item]
  dsimp only
  rw [word]
  refine (if_pos timed).trans ?_
  simp [State.driveUnit, State.modifyItem, item, trailerWord, Item.underrun]

/-- An event that drives or ends a unit of a port in SENDING: what stands after it. -/
theorem State.unit_event (s E : State) (d : Word16) (b : Bool) (x : Item) (sending : s.tport.state = .sending) (step : x.step ≠ .waitWord)
    (effect : E = { s with tport := { s.tport with td := d, tstb := b, item := some x } }) :
    s.backdrop ((E.settle s).finishEvent s) ∧ ((E.settle s).finishEvent s).tport.state = .sending ∧
      ((E.settle s).finishEvent s).tport.tstb = b ∧ ((E.settle s).finishEvent s).tport.td = d ∧
      ((E.settle s).finishEvent s).tport.item = some x ∧ ((E.settle s).finishEvent s).queue = s.queue ∧
      ((E.settle s).finishEvent s).lens = s.lens := by
  have still := E.still_event s (E.portStill_of_sending x (by rw [effect]; exact sending) (by rw [effect]) step)
  exact ⟨still.backdrop (by rw [effect]; exact s.backdrop_refl), still.state.trans (by rw [effect]; exact sending),
    still.tstb.trans (by rw [effect]), still.td.trans (by rw [effect]), still.item.trans (by rw [effect]),
    still.queue.trans (by rw [effect]), still.lens.trans (by rw [effect])⟩

/-- Settles O39: by the strobe's end and the slot's end. -/
theorem strobesAndSlotsEnd : Obligations.StrobesAndSlotsEnd := by
  unfold Obligations.StrobesAndSlotsEnd
  refine ⟨fun s it e sending item step reached timed => ?_,
    fun s it e sending item step reached pulsed wide busy kind header inside uncut => ?_,
    fun s it sending item reached timed wide kind header inside uncut => ?_,
    fun s it sending item reached timed wide kind header last uncut unstaged => ?_⟩
  · have effect : s.strobeOver e = { s with tport := { s.tport with td := s.tport.td, tstb := false, item := some { it with step := .slotRest } } } := by
      rw [State.strobeOver, timed]
      exact State.setStep_of { s with tport := { s.tport with tstb := false } } .slotRest it item
    obtain ⟨backdrop, state, tstb, td, unit, queue, lens⟩ := s.unit_event _ _ _ _ sending Handshake.noConfusion effect
    exact ⟨_, exec_strobeEnd s it e sending item step reached, backdrop, state, tstb, td, unit, queue, lens⟩
  · obtain ⟨it', hit⟩ : ∃ it', it' = { it with highByte := false, word := it.word + 1 } := ⟨_, rfl⟩
    have effect : s.strobeOver e =
        { s with tport := { s.tport with td := s.tport.td, tstb := false, item := some { it' with step := .waitBetween e } } } := by
      have busy' : ¬ ({ s with tport := { s.tport with tstb := false, item := some it' } } : State).trdyReady = true :=
        fun h => Bool.false_ne_true (busy.symm.trans h)
      rw [State.strobeOver, pulsed]
      refine (s.endUnit_of_header e it it' item wide kind header uncut (by rw [if_pos inside, hit])).trans ?_
      rw [State.followUnit, pulsed]
      exact (if_neg busy').trans (State.setStep_of { s with tport := { s.tport with tstb := false, item := some it' } } (.waitBetween e) it' rfl)
    obtain ⟨backdrop, state, tstb, td, unit, queue, lens⟩ := s.unit_event _ _ _ _ sending Handshake.noConfusion effect
    rw [hit] at unit
    exact ⟨_, exec_strobeEnd s it e sending item step reached, backdrop, state, tstb, td, queue, lens, unit⟩
  · obtain ⟨it', hit⟩ : ∃ it', it' = { it with highByte := false, word := it.word + 1 } := ⟨_, rfl⟩
    obtain ⟨u, hu⟩ : ∃ u : State, u = { s with tport := { s.tport with tstb := false, item := some it' } } := ⟨_, rfl⟩
    have word := u.nextWord_of_header it' (by rw [hit]) (by rw [hit]; exact header)
    have ended : s.endUnit it.slotEnd = u.beginUnit it.slotEnd := by
      rw [s.endUnit_of_header it.slotEnd it it' item wide kind header uncut (by rw [if_pos inside, hit]), ← hu, State.followUnit,
        show u.tables.tether.mode = .timed by rw [hu]; exact timed]
    have driven := u.beginUnit_drives it.slotEnd it' _ (by rw [hu]) word
      (fun h => by rw [hu] at h; exact TetherMode.noConfusion (h.symm.trans timed))
    rw [hu] at driven
    have effect : s.endUnit it.slotEnd = { s with tport := { s.tport with
        td := it.header.getD (it.word + 1) 0, tstb := false
        item := some { it' with
          current := it.header.getD (it.word + 1) 0, step := .settling (it.slotEnd + s.tables.tether.settle)
          slotEnd := it.slotEnd + s.tables.tether.wordPeriod } } } := by
      rw [ended, hu, driven, wide, hit]
      rfl
    obtain ⟨backdrop, state, tstb, td, unit, queue, lens⟩ := s.unit_event _ _ _ _ sending Handshake.noConfusion effect
    rw [hit] at unit
    exact ⟨_, exec_wordSlot s it sending item timed reached, backdrop, state, tstb, td, queue, lens, unit⟩
  · obtain ⟨it', hit⟩ : ∃ it', it' = { it with highByte := false, phase := .payload, word := 0 } := ⟨_, rfl⟩
    obtain ⟨u, hu⟩ : ∃ u : State, u = { s with tport := { s.tport with tstb := false, item := some it' } } := ⟨_, rfl⟩
    have word : u.nextWord it' = none := by
      have staged : u.stagedBlock it' 0 = none := by
        rw [State.stagedBlock, hit]
        dsimp only
        rw [kind, hu]
        simp [unstaged]
      rw [State.nextWord, show it'.highByte = false by rw [hit], show it'.phase = .payload by rw [hit], show it'.word = 0 by rw [hit]]
      exact congrArg (Option.map _) staged
    have ended : s.endUnit it.slotEnd = u.beginUnit it.slotEnd := by
      rw [s.endUnit_of_header it.slotEnd it it' item wide kind header uncut (by rw [if_neg (by omega), hit]), ← hu, State.followUnit,
        show u.tables.tether.mode = .timed by rw [hu]; exact timed]
    have driven := u.beginUnit_underruns it.slotEnd it' (by rw [hu]) word (by rw [hu]; exact timed)
    rw [hu] at driven
    have effect : s.endUnit it.slotEnd = { s with tport := { s.tport with
        td := 0xC35A, tstb := false
        item := some { it'.underrun with
          current := 0xC35A, step := .settling (it.slotEnd + s.tables.tether.settle)
          slotEnd := it.slotEnd + s.tables.tether.wordPeriod } } } := by
      rw [ended, hu, driven, wide]
      rfl
    obtain ⟨backdrop, state, tstb, td, unit, queue, lens⟩ := s.unit_event _ _ _ _ sending Handshake.noConfusion effect
    rw [hit] at unit
    exact ⟨_, exec_wordSlot s it sending item timed reached, backdrop, state, tstb, td, queue, lens, unit⟩

/-! ### TRDY and SETTLE (R158, R159) -/

/-- A change of TRDY that drives or ends a unit: what stands after it. -/
theorem State.trdy_event (s : State) (level : Bool) (E : State) (d : Word16) (b : Bool) (x : Item) (sending : s.tport.state = .sending)
    (step : x.step ≠ .waitWord) (effect : E = { s.withTrdy level with tport := { s.tport with td := d, tstb := b, item := some x } }) :
    ((E.settle s).finishEvent s).pins = { s.pins with trdy := level } ∧ ((E.settle s).finishEvent s).tport.state = .sending ∧
      ((E.settle s).finishEvent s).tport.tstb = b ∧ ((E.settle s).finishEvent s).tport.td = d ∧
      ((E.settle s).finishEvent s).tport.item = some x ∧ ((E.settle s).finishEvent s).queue = s.queue ∧
      ((E.settle s).finishEvent s).mem = s.mem ∧ ((E.settle s).finishEvent s).tables = s.tables ∧
      ((E.settle s).finishEvent s).lens = s.lens := by
  have still := E.still_event s (E.portStill_of_sending x (by rw [effect]; exact sending) (by rw [effect]) step)
  exact ⟨still.pins.trans (by rw [effect]; rfl), still.state.trans (by rw [effect]; exact sending), still.tstb.trans (by rw [effect]),
    still.td.trans (by rw [effect]), still.item.trans (by rw [effect]), still.queue.trans (by rw [effect]; rfl),
    still.mem.trans (by rw [effect]; rfl), still.tables.trans (by rw [effect]; rfl), still.lens.trans (by rw [effect]; rfl)⟩

theorem State.trdyAdvance_ready (s : State) (it : Item) (since : Nat) (item : s.tport.item = some it)
    (step : it.step = .waitReady since ∨ it.step = .waitBetween since) (ready : s.trdyReady = true) :
    s.trdyAdvance = s.beginUnit s.now := by
  rw [State.trdyAdvance, item]
  rcases step with h | h
  · dsimp only
    rw [h]
    exact if_pos ready
  · dsimp only
    rw [h]
    exact if_pos ready

theorem State.trdyAdvance_busy (s : State) (it : Item) (since : Nat) (item : s.tport.item = some it) (step : it.step = .waitBusy since)
    (busy : s.trdyReady = false) : s.trdyAdvance = s.endUnit s.now := by
  rw [State.trdyAdvance, item]
  dsimp only
  rw [step]
  exact if_neg (by rw [busy]; exact Bool.false_ne_true)

end Sys2Proof.Machine
end

section
/-! SUPPORT. The handshake of a header word, and the raw blocks that TETHER grants stage. -/

namespace Sys2Proof.Machine

/-! ### TETHER grants (R50, R156) -/

theorem State.grant_tether (s u : State) (q : RawRequest) (rest : List RawRequest) (passage : s.passageWaits = false)
    (next : s.nextInternal = some .tether) (requests : s.port.tether = q :: rest)
    (hu : u = { s with port := { s.port with tether := rest, passageRun := 0, lastServed := .tether } }) :
    s.grant = (u.performRaw q).settle { s with port := { s.port with passageRun := 0, lastServed := .tether } } := by
  rw [s.grant_internal .tether (.inl passage) next, State.grantInternal, State.performInternal]
  dsimp only
  rw [requests, hu]

theorem RawPlace.block?_of_other (r : RawPlace) (b : Nat) (h : ∀ d, r ≠ .ready b d) : r.block? b = none := by
  unfold RawPlace.block?
  split
  · next n d => exact if_neg fun e => h d (by rw [e])
  · rfl
  · rfl

/-- R156: the block that one raw place holds READY, and no other, is the staged one. -/
theorem State.stagedBlock_of_ready (s : State) (it : Item) (b : Nat) (place : Fin 2) (d : List Byte) (kind : it.kind = .raw)
    (here : s.tport.raw[place] = .ready b d) (others : ∀ p d', p ≠ place → s.tport.raw[p] ≠ .ready b d') :
    s.stagedBlock it b = some d := by
  have found (i : Fin 2) : (s.tport.raw[i]).block? b = if i = place then some d else none := by
    by_cases same : i = place
    · rw [if_pos same, same, here]
      exact if_pos rfl
    · rw [if_neg same]
      exact RawPlace.block?_of_other _ _ fun d' => others i d' same
  rw [State.stagedBlock, kind]
  dsimp only
  simp only [found, show List.finRange 2 = [0, 1] from rfl, List.findSome?_cons, List.findSome?_nil]
  have either : place = 0 ∨ place = 1 := by omega
  rcases either with rfl | rfl
  · rfl
  · rfl

/-- The word of two bytes of a block read from DRAM. -/
theorem blockWord_readBytes (m : Memory) (off j : Nat) (h : j < 128) :
    blockWord (m.readBytes off 256) j =
      BitVec.ofNat 16 ((m.readByte (off + 2 * j)).toNat + 256 * (m.readByte (off + 2 * j + 1)).toNat) := by
  have length : (m.readBytes off 256).length = 256 := by simp [Memory.readBytes]
  have two : ((m.readBytes off 256).drop (2 * j)).take 2 = [m.readByte (off + 2 * j), m.readByte (off + 2 * j + 1)] := by
    rw [List.drop_eq_getElem_cons (by omega), List.drop_eq_getElem_cons (by omega)]
    simp [Memory.readBytes, Nat.add_assoc]
  rw [blockWord, two]
  simp [leNat]

/-- R156: a wanted read makes its place READY with the block it read. -/
theorem State.performRaw_of (s : State) (q : RawRequest) (b : Nat) (wanted : q.wanted = true) (reading : s.tport.raw[q.place] = .reading b) :
    s.performRaw q = { s with tport := { s.tport with raw := s.tport.raw.set q.place (.ready b (s.mem.readBytes q.offset 256)) } } := by
  refine (if_pos wanted).trans ?_
  rw [reading]
  rfl

/-- Settles O38: for a header word by the handshake's step, for a TETHER grant by what its place and the port wait for. -/
theorem unitsFollowTheHandshake : Obligations.UnitsFollowTheHandshake := by
  unfold Obligations.UnitsFollowTheHandshake
  refine ⟨fun s it since sending item step header low => ?_, fun s it e sending item step reached ready => ?_,
    fun s it since sending item step interlocked wide header inside uncut kind => ?_,
    fun s u q rest started passage next requests restful idle focus hu => ⟨fun unwanted quiet => ?_,
      fun b raw wanted reading hraw => ⟨fun quiet => ?_,
        fun it w j sending item step kind payload low inBlock word others untimed ready hw => ?_⟩⟩⟩
  · have ready : (s.withTrdy s.tables.tether.trdyLevel).trdyReady = true := beq_self_eq_true s.tables.tether.trdyLevel
    have effect := ((s.withTrdy s.tables.tether.trdyLevel).trdyAdvance_ready it since item step ready).trans
      (State.beginUnit_drives _ _ it _ item (State.nextWord_of_header _ it low header) fun _ => ready)
    obtain ⟨pins, state, tstb, td, unit, queue, mem, tables, lens⟩ := s.trdy_event _ _ _ _ _ sending Handshake.noConfusion effect
    rw [low] at td
    exact ⟨_, exec_trdyChange s _, pins, state, tstb, td, unit, queue, mem, tables, lens⟩
  · have effect : s.settleOver e = { s with tport := { s.tport with
        td := s.tport.td, tstb := true
        item := some { it with
          step := if s.tables.tether.mode = .interlocked then .waitBusy e else .strobe (e + s.tables.tether.strobeWidth) } } } := by
      have set (h : Handshake) := State.setStep_of { s with tport := { s.tport with tstb := true } } h it item
      unfold State.settleOver
      cases mode : s.tables.tether.mode with
      | interlocked => exact (if_pos (ready mode)).trans (set _)
      | pulsed => exact set _
      | timed => exact set _
    obtain ⟨backdrop, state, tstb, td, unit, queue, lens⟩ := s.unit_event _ _ _ _ sending (by split <;> exact Handshake.noConfusion) effect
    exact ⟨_, exec_settleWaitEnd s it e sending item step reached, backdrop, state, tstb, td, queue, lens, unit⟩
  · have busy : (s.withTrdy (!s.tables.tether.trdyLevel)).trdyReady = false := by
      show ((!s.tables.tether.trdyLevel) == s.tables.tether.trdyLevel) = false
      cases s.tables.tether.trdyLevel <;> rfl
    obtain ⟨it', hit⟩ : ∃ it', it' = { it with highByte := false, word := it.word + 1 } := ⟨_, rfl⟩
    obtain ⟨u, hu⟩ : ∃ u : State, u = { s.withTrdy (!s.tables.tether.trdyLevel) with
      tport := { s.tport with tstb := false, item := some it' } } := ⟨_, rfl⟩
    have mode : u.tables.tether.mode = .interlocked := by rw [hu]; exact interlocked
    have ended : (s.withTrdy (!s.tables.tether.trdyLevel)).trdyAdvance = u.followUnit s.now := by
      rw [hu]
      exact ((s.withTrdy (!s.tables.tether.trdyLevel)).trdyAdvance_busy it since item step busy).trans
        ((s.withTrdy (!s.tables.tether.trdyLevel)).endUnit_of_header s.now it it' item wide kind header uncut (by rw [if_pos inside, hit]))
    have waits := u.beginUnit_waits s.now it' _ (by rw [hu]) (u.nextWord_of_header it' (by rw [hit]) (by rw [hit]; exact header)) mode
      (by rw [hu]; exact busy)
    have effect : (s.withTrdy (!s.tables.tether.trdyLevel)).trdyAdvance = { s.withTrdy (!s.tables.tether.trdyLevel) with
        tport := { s.tport with td := s.tport.td, tstb := false, item := some { it' with step := .waitReady s.now } } } := by
      rw [ended, State.followUnit, mode]
      exact waits.trans (by rw [hu])
    obtain ⟨pins, state, tstb, td, unit, queue, mem, tables, lens⟩ := s.trdy_event _ _ _ _ _ sending Handshake.noConfusion effect
    rw [hit] at unit
    exact ⟨_, exec_trdyChange s _, pins, state, tstb, td, unit, queue, mem, tables, lens⟩
  · have granted := s.grant_tether u q rest passage next requests hu
    have performed : u.performRaw q = u := if_neg (by rw [unwanted]; exact Bool.false_ne_true)
    have calm : u.calm := by
      rw [hu]
      exact ⟨restful, quiet, idle, focus⟩
    rw [performed, u.settle_of_calm _ calm] at granted
    refine ⟨u.finishEvent s, (exec_memoryGrant s started).trans (by rw [granted]), rfl, ?_⟩
    rw [hu]
    exact (BitVec.or_zero (x := s.req.causes)).symm
  · have granted := s.grant_tether u q rest passage next requests hu
    obtain ⟨E, hE⟩ : ∃ E : State, E = { u with tport := { s.tport with raw := raw } } := ⟨_, rfl⟩
    have performed : u.performRaw q = E := (u.performRaw_of q b wanted (by rw [hu]; exact reading)).trans (by rw [hE, hraw, hu])
    have calm : E.calm := by
      rw [hE, hu]
      exact ⟨restful, quiet, idle, focus⟩
    rw [performed, E.settle_of_calm _ calm] at granted
    refine ⟨E.finishEvent s, (exec_memoryGrant s started).trans (by rw [granted]), by rw [hE]; rfl, ?_⟩
    rw [hE, hu]
    exact (BitVec.or_zero (x := s.req.causes)).symm
  · have granted := s.grant_tether u q rest passage next requests hu
    obtain ⟨E, hE⟩ : ∃ E : State, E = { u with tport := { s.tport with raw := raw } } := ⟨_, rfl⟩
    have performed : u.performRaw q = E := (u.performRaw_of q b wanted (by rw [hu]; exact reading)).trans (by rw [hE, hraw, hu])
    have itemE : E.tport.item = some it := by rw [hE]; exact item
    have staged : E.stagedBlock it b = some (s.mem.readBytes q.offset 256) := by
      refine E.stagedBlock_of_ready it b q.place _ kind ?_ fun p d other => ?_
      · rw [hE, hraw]
        exact Vector.getElem_set_self q.place.isLt
      · rw [hE, hraw]
        exact fun h => others p d other ((Vector.getElem_set_ne q.place.isLt p.isLt fun e => other (Fin.ext e.symm)).symm.trans h)
    have nextWord : E.nextWord it = some w := by
      have block : it.word / 128 = b := by omega
      have place : it.word % 128 = j := by omega
      rw [State.nextWord, low, payload]
      dsimp only
      rw [if_neg Bool.false_ne_true, block, staged, place, hw, ← blockWord_readBytes _ _ _ inBlock]
      rfl
    have settled : E.settle { s with port := { s.port with passageRun := 0, lastServed := .tether } } = E.beginUnit s.now := by
      have restE : E.restful := by rw [hE, hu]; exact restful
      have focused : E.deriveFocus = E := by
        have derived : E.focus.state = E.focusStateNow := by rw [hE, hu]; exact focus
        rw [State.deriveFocus, ← derived]
      have idleE : E.engineIdle := by rw [hE, hu]; exact idle
      have sendingE : E.tport.state = .sending := by rw [hE]; exact sending
      rw [E.settle_of_restful _ restE, focused, State.serveOut, E.takeNext_of_busy (.inl (by rw [sendingE]; decide)),
        E.engineSettle_of_idle idleE, State.resumeUnit, itemE]
      refine (if_pos ⟨step, sendingE, by rw [nextWord]; rfl⟩).trans ?_
      rw [hE, hu]
      rfl
    have driven := E.beginUnit_drives s.now it w itemE nextWord (by rw [hE, hu]; exact ready)
    rw [performed, settled, driven] at granted
    refine ⟨_, (exec_memoryGrant s started).trans (by rw [granted]), ?_, ?_⟩
    · rw [hE, hu, low]
      rfl
    · rw [hE, hu]
      exact (BitVec.or_zero (x := s.req.causes)).symm

end Sys2Proof.Machine
end

section
/-! SUPPORT. The taking of an item: an IDLE port and the head of the queue. -/

namespace Sys2Proof.Machine

/-! ### Feeding the raw places (R156) -/

/-- R156: the feeding of a raw place changes that place, the reads in flight, and the item's next block. -/
theorem State.feedPlace_of (s : State) (i : Fin 2) (it : Item) (item : s.tport.item = some it) :
    ∃ p raw n, s.feedPlace i = { s with
      port := p, tport := { s.tport with raw := raw, item := some { it with nextBlock := n } } } := by
  have same : s = { s with port := s.port, tport := { s.tport with raw := s.tport.raw, item := some { it with nextBlock := it.nextBlock } } } := by
    have eta : ({ it with nextBlock := it.nextBlock } : Item) = it := rfl
    rw [eta, ← item]
  unfold State.feedPlace
  rw [item]
  dsimp only
  split
  · split
    · exact ⟨_, _, it.nextBlock + 1, by rw [State.modifyItem, item]; rfl⟩
    · exact ⟨_, _, it.nextBlock + 1, by rw [State.modifyItem, item]; rfl⟩
  · exact ⟨_, _, _, same⟩

theorem State.feedRaw_of (s : State) (it : Item) (item : s.tport.item = some it) :
    ∃ p raw n, s.feedRaw = { s with port := p, tport := { s.tport with raw := raw, item := some { it with nextBlock := n } } } := by
  obtain ⟨p, raw, n, first⟩ := s.feedPlace_of 0 it item
  obtain ⟨p', raw', n', second⟩ := (s.feedPlace 0).feedPlace_of 1 { it with nextBlock := n } (by rw [first])
  exact ⟨p', raw', n', by rw [State.feedRaw, second, first]⟩

/-! ### R152 to R154 -/

theorem itemHeader_length (x : Shot) (t : TetherPart) : (itemHeader x t).length = 11 := rfl

/-- R152: what the port has taken before its first unit begins, the tether stream of a DEVELOPED item open. -/
theorem State.takeItem_of (s W : State) (r : ShotRef) (x y : Shot) (p : TetherPart) (used : s.record r.index = some x)
    (part : x.tether = some p) (hy : y = { x with tether := some { p with state := .sending } })
    (hW : W = { s with queue := s.queue.leave r }) :
    ∃ e q raw n, s.takeItem r x p = ({ W.setRecord r.index (some y) with
        engine := e, port := q
        tport := { s.tport with state := .sending, raw := raw, item := some { newItem r x p s.now with nextBlock := n } } } : State).beginUnit s.now ∧
      (p.kind = .developed → e.stream = some (itemStream r x p)) := by
  have sending : W.modifyShot r.index (fun x => x.withTetherState .sending) = W.setRecord r.index (some y) := by
    rw [State.modifyShot_of W r.index _ x (by rw [hW]; exact used), Shot.withTetherState, Shot.mapTether, part, hy]
    rfl
  have tport : (W.setRecord r.index (some y)).tport = s.tport := by rw [hW]; rfl
  rw [State.takeItem, ← hW]
  dsimp only
  rw [sending, tport]
  generalize W.setRecord r.index (some y) = V
  cases kind : p.kind with
  | developed => exact ⟨_, V.port, _, 0, rfl, fun _ => rfl⟩
  | raw =>
    obtain ⟨q, raw, n, fed⟩ := State.feedRaw_of (({ V with tport := { s.tport with
      item := some (newItem r x p s.now), raw := Vector.replicate 2 .empty } } : State).setPort .sending) (newItem r x p s.now) rfl
    exact ⟨V.engine, q, raw, n, congrArg (State.beginUnit · s.now) fed, fun h => TetherKind.noConfusion h⟩

/-- R157, R158: the first unit of a header word is driven, or waits for READY. -/
theorem State.beginUnit_of_header (s : State) (at_ : Nat) (it : Item) (item : s.tport.item = some it) (low : it.highByte = false)
    (header : it.phase = .header) :
    ∃ d b x, s.beginUnit at_ = { s with tport := { s.tport with td := d, tstb := b, item := some x } } ∧
      { x with current := it.current, step := it.step, slotEnd := it.slotEnd } = it ∧ x.step ≠ .waitWord ∧
      (s.tables.tether.mode ≠ .interlocked ∨ s.trdyReady = true →
        d = unitData s.tables.tether.wide false (it.header.getD it.word 0) ∧ x.step = .settling (at_ + s.tables.tether.settle)) ∧
      (s.tables.tether.mode = .interlocked → s.trdyReady = false → x.step = .waitReady at_) := by
  have word := s.nextWord_of_header it low header
  by_cases waits : s.tables.tether.mode = .interlocked ∧ s.trdyReady = false
  · refine ⟨s.tport.td, s.tport.tstb, _, s.beginUnit_waits at_ it _ item word waits.1 waits.2, rfl, Handshake.noConfusion,
      fun h => h.elim (fun other => absurd waits.1 other) fun ready => ?_, fun _ _ => rfl⟩
    rw [waits.2] at ready
    cases ready
  · have ready : s.tables.tether.mode = .interlocked → s.trdyReady = true := fun mode =>
      Bool.eq_true_of_not_eq_false fun busy => waits ⟨mode, busy⟩
    refine ⟨_, _, _, s.beginUnit_drives at_ it _ item word ready, rfl, Handshake.noConfusion, fun _ => ⟨?_, rfl⟩,
      fun mode busy => absurd ⟨mode, busy⟩ waits⟩
    rw [low]

theorem unitData_sync (wide : Bool) : unitData wide false 0x5AC3 = if wide then 0x5AC3 else 0xC3 := by
  cases wide <;> decide

/-- What the next state takes from the state its first unit has left: all but the engine, the lanes and the memory port. -/
theorem State.serveOut_of_taken (G C : State) (taken : G.takeNext = C) (still : C.tport.item.map (·.step) ≠ some .waitWord) :
    C.EngineOnly G.serveOut := by
  have acts := State.engineOnly_engineActs 128 C
  rw [State.serveOut, taken]
  unfold State.engineSettle
  rw [State.resumeUnit_of_still _ (.inr (by rw [acts.tport]; exact still))]
  exact acts

/-- Settles O37: by the taking of the item, its first unit, and the engine's part. -/
theorem anIdlePortTakesTheHead : Obligations.AnIdlePortTakesTheHead := by
  unfold Obligations.AnIdlePortTakesTheHead
  intro s r rest x p waiting restful order held part
  have used := s.shotAt_record r x held
  obtain ⟨y, hy⟩ : ∃ y, y = { x with tether := some { p with state := .sending } } := ⟨_, rfl⟩
  obtain ⟨F, hF⟩ : ∃ F : State, F = (s.withTlink s.tables.tether.tlinkLevel).setPort .idle := ⟨_, rfl⟩
  obtain ⟨G, hG⟩ : ∃ G : State, G = F.deriveFocus := ⟨_, rfl⟩
  obtain ⟨W, hW⟩ : ∃ W : State, W = { G with queue := G.queue.leave r } := ⟨_, rfl⟩
  have followed : (s.withTlink s.tables.tether.tlinkLevel).followLink = F :=
    ((s.withTlink s.tables.tether.tlinkLevel).followLink_of_open (.inr waiting)).trans
      ((congrArg (s.withTlink s.tables.tether.tlinkLevel).setPort (if_pos (beq_self_eq_true s.tables.tether.tlinkLevel))).trans hF.symm)
  have settled : F.settle s = G.serveOut := by
    rw [hG]
    exact F.settle_of_restful s (by rw [hF]; exact restful)
  have takes : G.takeNext = G.takeItem r x p := by
    have idle : G.tport.state = .idle := by rw [hG, hF]; rfl
    have orderG : G.queue.order = r :: rest := by rw [hG, hF]; exact order
    have heldG : G.shotAt r = some x := by rw [hG, hF]; exact held
    rw [State.takeNext, if_pos idle, orderG]
    dsimp only
    rw [heldG]
    dsimp only
    rw [part]
  obtain ⟨e, q, raw, n, taken, stream⟩ := G.takeItem_of W r x y p (by rw [hG, hF]; exact used) part hy hW
  obtain ⟨B, hB⟩ : ∃ B : State, B = { W.setRecord r.index (some y) with
    engine := e, port := q
    tport := { G.tport with state := .sending, raw := raw, item := some { newItem r x p G.now with nextBlock := n } } } := ⟨_, rfl⟩
  obtain ⟨d, b, it, began, core, word, driven, waits⟩ :=
    B.beginUnit_of_header G.now { newItem r x p G.now with nextBlock := n } (by rw [hB]) rfl rfl
  have after := takes.trans (taken.trans ((congrArg (State.beginUnit · G.now) hB.symm).trans began))
  obtain ⟨S, hS⟩ : ∃ S, G.serveOut = S := ⟨_, rfl⟩
  have only := G.serveOut_of_taken _ after fun h => word (Option.some.inj h)
  rw [hS] at only settled
  have next : exec (.tlinkChange s.tables.tether.tlinkLevel) s = .next (S.finishEvent s) := by
    rw [exec_tlinkChange, followed, settled]
  have tport := only.tport
  have now : G.now = s.now := by rw [hG, hF]; rfl
  have tables : B.tables = s.tables := by rw [hB, hW, hG, hF]; rfl
  have ready : B.trdyReady = s.trdyReady := by rw [State.trdyReady, tables, hB, hW, hG, hF]; rfl
  have queue : B.queue = s.queue.leave r := by rw [hB, hW, hG, hF]; rfl
  rw [tables, ready] at driven waits
  rw [now] at driven waits core
  have shots : B.record r.index = some y := by rw [hB]; exact W.setRecord_same r.index (some y)
  refine ⟨_, it, next, (congrArg TetherPort.state tport :).trans (by rw [hB]), (congrArg TetherPort.item tport :),
    (congrArg Item.source core :), (congrArg Item.attached core :), (congrArg Item.kind core :), (congrArg Item.attempt core :),
    (congrArg Item.geom core :), (congrArg Item.phase core :), (congrArg Item.word core :), (congrArg Item.highByte core :),
    (congrArg Item.cut core :), (congrArg (fun i => i.header.length) core :), (congrArg (fun i => i.header.getD 0 0) core :),
    (congrArg (fun i => i.header.getD 2 0) core :), (congrArg State.queue only.only :).trans queue,
    ((congrArg (State.record · r.index) only.only :).trans shots).trans (congrArg some hy), fun kind => ?_, fun h => ?_,
    fun mode busy => waits mode busy⟩
  · refine only.stream.trans ?_
    have engine : B.engine = e := by rw [hB]
    exact (congrArg (fun e : Engine => e.stream.map Stream.image) engine :).trans (congrArg (Option.map Stream.image) (stream kind))
  · obtain ⟨td, step⟩ := driven h
    refine ⟨(congrArg TetherPort.td tport :).trans (td.trans ?_), step⟩
    exact unitData_sync s.tables.tether.wide

end Sys2Proof.Machine
end

section
/-! SUPPORT. HOME_LENS: both groups start homing, and those at rest take their first homing boundary at once. -/

namespace Sys2Proof.Machine

theorem State.perform_homeLens (s : State) (slot : Fin 8) (a : Vector Beat 6) : s.perform slot (kindCode 5) (putArgs a []) = s.reqHomeLens slot := rfl

theorem State.within_homingStep (s : State) (g : Group) (b : Nat) : s.Within (s.homingStep g b) := by
  have set (d : GroupDrive) : s.Within (s.setGroup g d) := .of_req (s.setGroup_backdrop g d) (by cases g <;> rfl)
  unfold State.homingStep
  split
  · exact .refl s
  · dsimp only
    split
    · exact (set _).trans (State.Steady.raise _ _).within
    · exact set _

theorem State.homingStep_group (s : State) (g g' : Group) (l : Lens) (b : Nat) (table : s.tables.lens = some l) :
    (s.homingStep g b).lens.group g' =
      if g' = g then (s.lens.group g).homingAct (l.group g) b (s.pins.home g) else s.lens.group g' := by
  rw [s.homingStep_lens g l b table]
  split
  · next same => rw [same, State.setGroup_same]
  · next other => exact s.setGroup_other g g' _ other

theorem State.homingStep_homing (s : State) (g : Group) (b : Nat) : (s.homingStep g b).lens.homing = s.lens.homing := by
  unfold State.homingStep
  split
  · rfl
  · dsimp only
    split <;> exact s.setGroup_homing g _

theorem State.homingStep_focus (s : State) (g : Group) (b : Nat) : (s.homingStep g b).focus = s.focus := by
  unfold State.homingStep
  split
  · rfl
  · dsimp only
    split <;> cases g <;> rfl

/-- R114: a HOME_LENS goes on while a group homes. -/
theorem State.homingEnd_of_homing (s : State) (h : s.lens.g0.state = .homing ∨ s.lens.g1.state = .homing) : s.homingEnd = s := by
  unfold State.homingEnd
  split
  · rfl
  · exact if_pos h

/-- R112: what one group does first: a MOVING one keeps its boundary, another takes its first homing boundary at once. -/
def GroupDrive.home (d : GroupDrive) (c : GroupSettings) (now : Nat) (line : Bool) : GroupDrive :=
  if d.state = .moving then d.startHoming now else (d.startHoming now).homingAct c now line

/-- R112: what an accepted HOME_LENS leaves before its end is looked for. -/
structure State.Homes (s X : State) (slot : Fin 8) (l : Lens) : Prop where
  within : s.Within X
  windows : X.windows = s.windows
  homing : X.lens.homing = some slot
  mode : X.focus.mode = s.focus.mode
  group : ∀ g, X.lens.group g = (s.lens.group g).home (l.group g) s.now (s.pins.home g)

/-- A first homing boundary of a group at rest, and none of a MOVING one. -/
theorem State.firstHoming_of (s old : State) (g : Group) (l : Lens) (table : s.tables.lens = some l) :
    s.Within (s.firstHoming old g) ∧ (s.firstHoming old g).windows = s.windows ∧
      (s.firstHoming old g).lens.homing = s.lens.homing ∧ (s.firstHoming old g).focus = s.focus ∧
      ∀ g', (s.firstHoming old g).lens.group g' = if g' = g ∧ (old.lens.group g).state ≠ .moving then
        (s.lens.group g).homingAct (l.group g) s.now (s.pins.home g) else s.lens.group g' := by
  by_cases moving : (old.lens.group g).state = .moving
  · have same : s.firstHoming old g = s := if_pos moving
    rw [same]
    exact ⟨.refl s, rfl, rfl, rfl, fun g' => (if_neg fun h => h.2 moving).symm⟩
  · have step : s.firstHoming old g = s.homingStep g s.now := if_neg moving
    rw [step]
    refine ⟨s.within_homingStep g _, s.homingStep_windows g _, s.homingStep_homing g _, s.homingStep_focus g _, fun g' => ?_⟩
    rw [s.homingStep_group g g' l _ table]
    simp only [moving, ne_eq, not_false_eq_true, and_true]

theorem State.homes_of (s : State) (slot : Fin 8) (l : Lens) (table : s.tables.lens = some l) :
    s.Homes ((((s.startHoming slot).settle s).firstHoming s .g0).firstHoming s .g1) slot l := by
  have started : s.Within (s.startHoming slot) := .of_req s.backdrop_refl rfl
  have steady := State.steady_settle (s.startHoming slot) s
  have focus := State.settle_focus (s.startHoming slot) s
  generalize (s.startHoming slot).settle s = u at steady focus
  have tableU : u.tables.lens = some l := by rw [steady.tables]; exact table
  obtain ⟨within0, windows0, homing0, focus0, group0⟩ := u.firstHoming_of s .g0 l tableU
  generalize u.firstHoming s .g0 = v at within0 windows0 homing0 focus0 group0
  obtain ⟨within1, windows1, homing1, focus1, group1⟩ := v.firstHoming_of s .g1 l (by rw [within0.tables]; exact tableU)
  generalize v.firstHoming s .g1 = w at within1 windows1 homing1 focus1 group1
  have lens : u.lens = (s.startHoming slot).lens := steady.lens
  have nowU : u.now = s.now := by rw [State.now, steady.time]; rfl
  have nowV : v.now = s.now := by rw [State.now, within0.time]; exact nowU
  have pinsU : u.pins = s.pins := steady.pins
  have pinsV : v.pins = s.pins := within0.pins.trans pinsU
  refine ⟨((started.trans steady.within).trans within0).trans within1, ?_, ?_, ?_, fun g => ?_⟩
  · rw [windows1, windows0, steady.windows]; rfl
  · rw [homing1, homing0, lens]; rfl
  · rw [focus1, focus0, focus]; rfl
  · cases g
    · rw [group1, if_neg (fun h => by cases h.1), group0, lens, nowU, pinsU]
      by_cases moving : (s.lens.group .g0).state = .moving
      · rw [if_neg (fun h => h.2 moving), GroupDrive.home, if_pos moving]; rfl
      · rw [if_pos ⟨rfl, moving⟩, GroupDrive.home, if_neg moving]; rfl
    · have v1 : v.lens.group .g1 = u.lens.group .g1 := (group0 .g1).trans (if_neg fun h => by cases h.1)
      rw [group1, nowV, pinsV, v1, lens]
      by_cases moving : (s.lens.group .g1).state = .moving
      · rw [if_neg (fun h => h.2 moving), GroupDrive.home, if_pos moving]; rfl
      · rw [if_pos ⟨rfl, moving⟩, GroupDrive.home, if_neg moving]; rfl

/-- R112, R113: a group of which HOME is inactive homes on, with its first step taken where it was at rest. -/
theorem GroupDrive.home_of_away (d : GroupDrive) (c : GroupSettings) (now : Nat) (limit : 1 ≤ c.homeLimit) :
    d.home c now false = if d.state = .moving then d.startHoming now else { d.startHoming now with
      dir := false, step := true, stepEnd := some (now + c.stepPeriod / 2), boundary := some (now + c.stepPeriod), homingSteps := 1 } := by
  unfold GroupDrive.home
  split
  · rfl
  · exact (d.startHoming now).homingAct_step c now limit

theorem GroupDrive.home_of_home (d : GroupDrive) (c : GroupSettings) (now : Nat) (rest : d.state ≠ .moving) :
    d.home c now true = { d.startHoming now with state := .idle, position := 0, homingSteps := 0, boundary := none } := if_neg rest

/-- R112: the tests of HOME_LENS. -/
theorem State.reqHomeLens_of (s : State) (slot : Fin 8) (l : Lens) (table : s.tables.lens = some l) (ready : s.release.lready.active = true)
    (g0 : s.lens.g0.state ≠ .homing) (g1 : s.lens.g1.state ≠ .homing) : s.reqHomeLens slot =
      ((((s.startHoming slot).settle s).firstHoming s .g0).firstHoming s .g1).homingEnd.settle ((s.startHoming slot).settle s) :=
  (if_neg (by rw [table]; exact Bool.false_ne_true)).trans ((if_neg (by rw [ready]; exact Bool.false_ne_true)).trans
    (if_neg fun h => h.elim g0 g1))

/-- Settles O47: by the tests in their order, what each group does first, and the end of the homing. -/
theorem homeLensHomesBothGroups : Obligations.HomeLensHomesBothGroups := by
  unfold Obligations.HomeLensHomesBothGroups
  intro s slot tag hc
  have performed := State.perform_homeLens (s.begun slot (kindCode 5) tag []) slot s.req.slots[slot].args
  have tested (table : s.tables.lens ≠ none) : ¬ (s.begun slot (kindCode 5) tag []).tables.lens.isNone = true := fun h =>
    table (Option.isNone_iff_eq_none.mp h)
  refine ⟨fun none => ?_, fun table lost => ?_, fun table ready busy => ?_, fun l table ready g0 g1 => ?_⟩
  · refine s.quiet_request slot 5 tag [] .wrongState 0 s hc s.backdrop_refl (performed.trans ?_)
    exact if_pos (Option.isNone_iff_eq_none.mpr none)
  · refine s.quiet_request slot 5 tag [] .noLens 0 s hc s.backdrop_refl (performed.trans ?_)
    exact (if_neg (tested table)).trans (if_pos (congrArg not lost))
  · refine s.quiet_request slot 5 tag [] .busy 0 s hc s.backdrop_refl (performed.trans ?_)
    exact (if_neg (tested table)).trans ((if_neg (fun h => Bool.false_ne_true ((congrArg not ready).symm.trans h))).trans (if_pos busy))
  · have effect := performed.trans ((s.begun slot (kindCode 5) tag []).reqHomeLens_of slot l table ready g0 g1)
    have homes := (s.begun slot (kindCode 5) tag []).homes_of slot l table
    generalize (s.begun slot (kindCode 5) tag []).startHoming slot = z at effect homes
    generalize ((z.settle (s.begun slot (kindCode 5) tag [])).firstHoming (s.begun slot (kindCode 5) tag []) .g0).firstHoming
      (s.begun slot (kindCode 5) tag []) .g1 = X at effect homes
    have group (g : Group) : X.lens.group g = (s.lens.group g).home (l.group g) s.now (s.pins.home g) := homes.group g
    refine ⟨fun away => ?_, fun home => ?_⟩
    · have drive (g : Group) := (group g).trans
        ((congrArg ((s.lens.group g).home (l.group g) s.now) (away g).1).trans ((s.lens.group g).home_of_away (l.group g) s.now (away g).2))
      have homing (g : Group) : (X.lens.group g).state = .homing := by
        rw [drive g]
        split <;> rfl
      have still : X.homingEnd = X := X.homingEnd_of_homing (.inl (homing .g0))
      rw [still] at effect
      obtain ⟨t, next, backdrop, others, taken, -, -, left⟩ := s.command_unfinished slot 5 tag [] X _ hc homes.within effect
      have steady := X.steady_settle (z.settle (s.begun slot (kindCode 5) tag []))
      have focus := X.settle_focus (z.settle (s.begun slot (kindCode 5) tag []))
      generalize X.settle (z.settle (s.begun slot (kindCode 5) tag [])) = v at left steady focus
      have lens : t.lens = X.lens := by rw [left, State.finishEvent_lens, steady.lens]
      refine ⟨t, next, backdrop, others, by rw [lens, homes.homing], taken, ?_, fun on => ?_, fun g => ?_⟩
      · rw [left, State.finishEvent_windows, steady.windows, homes.windows]
        rfl
      · have unhomed : X.lensHomed = false := by
          have g0 := homing .g0
          rw [State.lensHomed, show X.lens.g0.state = .homing from g0]
          rfl
        have mode : X.focus.mode ≠ .off := by rw [homes.mode]; exact on
        have state : t.focus.state = X.focusStateNow := by rw [left]; exact congrArg Focus.state focus
        rw [state, State.focusStateNow, unhomed]
        cases kind : X.focus.mode with
        | off => exact absurd kind mode
        | single => rfl
        | tracking => rfl
      · rw [lens, drive g]
        by_cases moving : (s.lens.group g).state = .moving
        · rw [if_pos moving]
          exact ⟨rfl, rfl, rfl, rfl, rfl, fun _ => ⟨rfl, if_pos moving, rfl⟩, fun h => absurd moving h⟩
        · rw [if_neg moving]
          exact ⟨rfl, rfl, rfl, rfl, rfl, fun h => absurd h moving, fun _ => ⟨rfl, rfl, rfl, rfl⟩⟩
    · have drive (g : Group) := (group g).trans
        ((congrArg ((s.lens.group g).home (l.group g) s.now) (home g).1).trans ((s.lens.group g).home_of_home (l.group g) s.now (home g).2))
      have g0 : X.lens.g0 = _ := drive .g0
      have g1 : X.lens.g1 = _ := drive .g1
      obtain ⟨E, hE⟩ : ∃ E, E = ({ X with lens := { X.lens with homing := none } } : State).raise .lensHomed := ⟨_, rfl⟩
      have ended : X.homingEnd = E.complete slot .done (results [2, 0, 2, 0]) := by
        have beat : X.lens.homingResults = results [2, 0, 2, 0] := by rw [LensDrive.homingResults, g0, g1]; rfl
        unfold State.homingEnd
        rw [homes.homing]
        dsimp only
        rw [if_neg (by rw [g0, g1]; rintro (h | h) <;> cases h), if_pos (by rw [g0, g1]; exact ⟨rfl, rfl⟩), hE, beat]
      rw [ended] at effect
      have within : (s.begun slot (kindCode 5) tag []).Within E := by
        rw [hE]
        exact (homes.within.trans (.of_req (t := { X with lens := { X.lens with homing := none } }) X.backdrop_refl rfl)).trans
          (State.Steady.raise _ _).within
      obtain ⟨t, next, served, windows, lens, -⟩ := s.settled_effect slot 5 tag [] .done _ E _ hc within effect
      have left := (Host.Outcome.next.inj next).symm.trans (s.command_settled slot 5 tag [] .done _ E _ hc effect)
      refine ⟨t, next, served, by rw [lens, hE]; rfl, ?_, by rw [windows, hE]; exact homes.windows, fun g => ?_⟩
      · have steady := (E.complete slot .done (results [2, 0, 2, 0])).steady_settle (z.settle (s.begun slot (kindCode 5) tag []))
        generalize (E.complete slot .done (results [2, 0, 2, 0])).settle (z.settle (s.begun slot (kindCode 5) tag [])) = v at left steady
        rw [left]
        refine steady.causes .lensHomed ?_
        rw [State.pendingCause, State.complete_causes, hE]
        exact pending_or _ _ _ (State.pendingCause_raise _ _)
      · have kept : t.lens.group g = X.lens.group g := by rw [lens, hE]; cases g <;> rfl
        rw [kept, drive g]
        exact ⟨rfl, rfl, rfl⟩

end Sys2Proof.Machine
end

section
/-! SUPPORT. SELECT_CAPTURE: the evictions that a smaller depth brings about. -/

namespace Sys2Proof.Machine

/-! ### Evictions in order (R22) -/

section Evictions

theorem State.evict_queue (s : State) (i : Fin 48) : (s.evict i).queue = s.queue := (s.apart_freeShot i).queue

theorem State.evict_counter (s : State) (i : Fin 48) : (s.evict i).shots.counter = s.shots.counter := s.freeShot_counter i

theorem State.evict_causes (s : State) (i : Fin 48) : (s.evict i).req.causes = s.req.causes ||| Cause.preEvicted.bit :=
  congrArg (fun r : RequestUnit => r.causes ||| Cause.preEvicted.bit) (s.freeShot_req i)

theorem State.evict_fireless (s : State) (i : Fin 48) (h : s.fireless) : (s.evict i).fireless := s.freeShot_fireless i h

theorem State.evictAll_fireless (l : List (Fin 48)) (s : State) (h : s.fireless) : (s.evictAll l).fireless := by
  induction l generalizing s with
  | nil => exact h
  | cons i l ih => exact ih _ (s.evict_fireless i h)

theorem filter_dropElem (i : Fin 48) (l m : List (Fin 48)) :
    (dropElem i m).filter (fun j => decide (j ∉ l)) = m.filter fun j => decide (j ∉ i :: l) := by
  rw [dropElem, List.filter_filter]
  refine List.filter_congr fun j _ => ?_
  simp only [List.mem_cons, not_or, ne_eq, decide_not, Bool.decide_and, Bool.and_comm]

/-- What the evictions of different shots leave of a state. -/
structure State.Evicted (s t : State) (l : List (Fin 48)) : Prop where
  record : ∀ j, t.record j = if j ∈ l then none else s.record j
  preList : t.shots.preList = s.shots.preList.filter fun j => decide (j ∉ l)
  counter : t.shots.counter = s.shots.counter
  queue : t.queue = s.queue
  pool : t.pool = { s.pool with free := s.pool.free ++ l.flatMap fun j => pagesOf (s.record j) }
  causes : t.req.causes = s.req.causes ||| if l = [] then 0 else Cause.preEvicted.bit

theorem State.evictAll_evicted (l : List (Fin 48)) (s : State) (nodup : l.Nodup) (used : ∀ j ∈ l, (s.record j).isSome = true) :
    s.Evicted (s.evictAll l) l := by
  induction l generalizing s with
  | nil => exact ⟨fun j => by simp [State.evictAll], by simp [State.evictAll], rfl, rfl, by simp [State.evictAll], by simp [State.evictAll]⟩
  | cons i l ih =>
    obtain ⟨fresh, nodup⟩ := List.nodup_cons.mp nodup
    obtain ⟨x, hx⟩ := Option.isSome_iff_exists.mp (used i List.mem_cons_self)
    have apart (j : Fin 48) (h : j ∈ l) : j ≠ i := fun e => fresh (e ▸ h)
    have kept (j : Fin 48) (h : j ∈ l) : (s.evict i).record j = s.record j := (s.evict_record i j).trans (if_neg (apart j h))
    have preList := s.evict_preList i x hx
    have record := s.evict_record i
    have pool := s.evict_pool i
    have causes := s.evict_causes i
    have queue := s.evict_queue i
    have counter := s.evict_counter i
    have rest := ih (s.evict i) nodup fun j h => by rw [kept j h]; exact used j (List.mem_cons_of_mem i h)
    have all : s.evictAll (i :: l) = (s.evict i).evictAll l := rfl
    rw [all]
    generalize s.evict i = u at rest preList record pool causes queue counter kept
    generalize u.evictAll l = t at rest
    refine ⟨fun j => ?_, ?_, rest.counter.trans counter, rest.queue.trans queue, ?_, ?_⟩
    · rw [rest.record, record]
      by_cases first : j = i
      · simp [first]
      · simp [first]
    · rw [rest.preList, preList]
      exact filter_dropElem i l _
    · have pages : (l.flatMap fun j => pagesOf (u.record j)) = l.flatMap fun j => pagesOf (s.record j) :=
        List.flatMap_congr fun j h => by rw [kept j h]
      rw [rest.pool, pages, pool, List.flatMap_cons]
      exact congrArg (fun f => ({ s.pool with free := f } : Pool)) (List.append_assoc _ _ _)
    · rw [rest.causes, causes, if_neg (List.cons_ne_nil i l)]
      split
      · exact BitVec.or_zero
      · rw [BitVec.or_assoc, BitVec.or_self]

end Evictions

/-! ### SELECT_CAPTURE (R55) -/

theorem State.selectable_of (s : State) (i : Fin 4) (p : Capture) (h : s.tables.captures[i] = some p) : s.selectable i.val = some i := by
  refine (dif_pos i.isLt).trans (if_pos ?_)
  rw [show s.tables.captures[i.val] = some p from h]
  rfl

theorem State.selectable_none (s : State) (c : Nat) (h : 3 < c ∨ ∃ i : Fin 4, c = i.val ∧ s.tables.captures[i] = none) :
    s.selectable c = none := by
  rcases h with high | ⟨i, rfl, bad⟩
  · exact dif_neg (by omega)
  · refine (dif_pos i.isLt).trans (if_neg ?_)
    rw [show s.tables.captures[i.val] = none from bad]
    exact Bool.false_ne_true

theorem State.unviewed_used (s : State) (j : Fin 48) (h : j ∈ s.unviewedList) : (s.record j).isSome = true := by
  have unviewed := (List.mem_filter.mp h).2
  unfold State.unviewed at unviewed
  split at unviewed
  · next x used => rw [used]; rfl
  · cases unviewed

/-- Settles O45: by the tests, and by whether the depth falls. -/
theorem selectCaptureActivates : Obligations.SelectCaptureActivates := by
  unfold Obligations.SelectCaptureActivates
  intro s slot tag c hc
  have performed := State.perform_selectCapture (s.begun slot (kindCode 3) tag [c]) slot s.req.slots[slot].args c
  have refused (h : (s.begun slot (kindCode 3) tag [c]).selectable c.toNat = none) :
      s.answersOnly (.selectCapture slot tag c) slot 3 tag .badValue 0 := by
    refine s.quiet_request slot 3 tag [c] .badValue 0 s hc s.backdrop_refl (performed.trans ?_)
    rw [State.reqSelectCapture, h]
    rfl
  refine ⟨fun high => refused (State.selectable_none _ _ (.inl high)), fun i same bad => refused (State.selectable_none _ _ (.inr ⟨i, same, bad⟩)),
    fun i p same profile => ?_⟩
  obtain ⟨A, hA⟩ : ∃ A : State, A = { s.begun slot (kindCode 3) tag [c] with
    release := { (s.begun slot (kindCode 3) tag [c]).release with active := some i } } := ⟨_, rfl⟩
  have depth : A.depth = p.depth := by
    rw [State.depth, A.activeProfile_of i p (by rw [hA]) (by rw [hA]; exact profile)]
  have effect : (s.begun slot (kindCode 3) tag [c]).perform slot (kindCode 3) (putArgs s.req.slots[slot].args [c]) =
      ((A.depthFalls (s.begun slot (kindCode 3) tag [c])).complete slot .done (results [i.val])).settle (s.begun slot (kindCode 3) tag [c]) := by
    rw [performed, State.reqSelectCapture, same, State.selectable_of (s.begun slot (kindCode 3) tag [c]) i p profile, hA]
  have falls : A.depthFalls (s.begun slot (kindCode 3) tag [c]) = if p.depth < s.depth then A.depthCheck else A := by
    rw [State.depthFalls, depth]
    rfl
  have steady : A.Steady (A.depthFalls (s.begun slot (kindCode 3) tag [c])) := by
    rw [falls]
    split
    · exact A.steady_depthCheck
    · exact .refl A
  have aside : A.Aside (A.depthFalls (s.begun slot (kindCode 3) tag [c])) := by
    rw [falls]
    split
    · exact A.aside_depthCheck
    · exact .refl A
  have within : (s.begun slot (kindCode 3) tag [c]).Within A := by
    rw [hA]
    exact .of_req (State.backdrop_refl _) rfl
  generalize A.depthFalls (s.begun slot (kindCode 3) tag [c]) = E at effect falls steady aside
  obtain ⟨t, next, served, windows, lens, -, calm, fireless⟩ := s.settled_effect slot 3 tag [c] .done (results [i.val]) E _ hc
    (within.trans steady.within) effect
  have left := (Host.Outcome.next.inj next).symm.trans (s.command_settled slot 3 tag [c] .done (results [i.val]) E _ hc effect)
  have switches := (E.complete slot .done (results [i.val])).switches_settle (s.begun slot (kindCode 3) tag [c])
  generalize (E.complete slot .done (results [i.val])).settle (s.begun slot (kindCode 3) tag [c]) = v at left switches
  refine ⟨t, next, served, ?_, ?_, ?_, fun rest deep => ?_, fun old gone rest shallow nodup hold hgone => ?_⟩
  · have active : t.release.active = v.release.active := by rw [left]; rfl
    exact active.trans (switches.active.trans ((congrArg ReleaseUnit.active aside.release).trans (by rw [hA])))
  · exact windows.trans (steady.windows.trans (by rw [hA]; rfl))
  · exact lens.trans (steady.lens.trans (by rw [hA]; rfl))
  · have same : E = A := falls.trans (if_neg (Nat.not_lt.mpr deep))
    rw [same, hA] at calm
    exact State.became_of_causes (calm rest) rfl
  · have list : A.unviewedList = old := by
      rw [hold, State.unviewedList_eq, hA]
      rfl
    have evictions : E = A.evictAll gone := by
      rw [falls, if_pos shallow, State.depthCheck, list, depth, hgone]
    have from_old (j : Fin 48) (h : j ∈ gone) : j ∈ A.unviewedList := by
      rw [hgone] at h
      rw [list]
      exact List.mem_of_mem_take h
    have distinct : gone.Nodup := by
      rw [hgone, hold]
      exact (nodup.filter _).sublist (List.take_sublist _ _)
    have evicted := A.evictAll_evicted gone distinct fun j h => A.unviewed_used j (from_old j h)
    have firelessE := A.evictAll_fireless gone (by rw [hA]; exact rest)
    rw [← evictions] at evicted firelessE
    obtain ⟨r, became⟩ := fireless firelessE
    have record (j : Fin 48) : A.record j = s.record j := by rw [hA]; rfl
    refine ⟨fun j => ?_, ?_, ?_, ?_, ?_, ?_, ?_⟩
    · exact (became.record j).trans ((evicted.record j).trans (by rw [record]))
    · exact (congrArg ShotTable.counter became.shots :).trans (evicted.counter.trans (by rw [hA]; rfl))
    · exact (congrArg ShotTable.preList became.shots :).trans (evicted.preList.trans (by rw [hA]; rfl))
    · exact became.queue.trans (evicted.queue.trans (by rw [hA]; rfl))
    · exact became.intake.trans (aside.intake.trans (by rw [hA]; rfl))
    · refine became.pool.trans (evicted.pool.trans ?_)
      rw [hA]
      rfl
    · rw [became.2, evicted.causes, hA, BitVec.or_assoc, BitVec.or_comm (if gone = [] then 0 else _), ← BitVec.or_assoc]
      rfl

end Sys2Proof.Machine
end

section
/-! SUPPORT. The presses: the promotion and the lapse of the provisional shots, and what the release unit does to the records in use. -/

namespace Sys2Proof.Machine

/-! ### Shots that leave the pre-capture list (R25, R26) -/

/-- What a state becomes when the shots of `l` leave the pre-capture list: those of `gone` freed in order, the others changed by
`y`, the queue's NORMAL class longer by `entries`. -/
structure State.Left (s t : State) (l gone : List (Fin 48)) (y : Shot → Shot) (entries : List ShotRef) : Prop where
  record : ∀ j, t.record j = if j ∈ l then (if j ∈ gone then none else (s.record j).map y) else s.record j
  counter : t.shots.counter = s.shots.counter
  pool : t.pool = { s.pool with free := s.pool.free ++ gone.flatMap fun j => pagesOf (s.record j) }
  queue : t.queue = { s.queue with normal := s.queue.normal ++ entries }

theorem State.Left.refl (s : State) (y : Shot → Shot) : s.Left s [] [] y [] :=
  ⟨fun _ => rfl, rfl, by simp, by simp⟩

theorem State.Left.trans {s u t : State} {i : Fin 48} {l gone gone' : List (Fin 48)} {y : Shot → Shot} {entries entries' : List ShotRef}
    (h : s.Left u [i] gone y entries) (k : u.Left t l gone' y entries') (fresh : i ∉ l) (one : ∀ j ∈ gone, j = i) (within : gone' ⊆ l) :
    s.Left t (i :: l) (gone ++ gone') y (entries ++ entries') := by
  have apart (j : Fin 48) (hj : j ∈ l) : j ≠ i := fun e => fresh (e ▸ hj)
  have kept (j : Fin 48) (hj : j ∈ l) : u.record j = s.record j := (h.record j).trans (if_neg (by simpa using apart j hj))
  refine ⟨fun j => ?_, k.counter.trans h.counter, ?_, ?_⟩
  · rw [k.record]
    by_cases later : j ∈ l
    · have notOne : j ∉ gone := fun hj => apart j later (one j hj)
      rw [if_pos later, if_pos (List.mem_cons_of_mem i later), kept j later]
      simp only [List.mem_append, notOne, false_or]
    · have notLater : j ∉ gone' := fun hj => later (within hj)
      rw [if_neg later, h.record]
      simp only [List.mem_append, notLater, or_false, List.mem_cons, later, List.not_mem_nil]
  · have pages : (gone'.flatMap fun j => pagesOf (u.record j)) = gone'.flatMap fun j => pagesOf (s.record j) :=
      List.flatMap_congr fun j hj => by rw [kept j (within hj)]
    rw [k.pool, h.pool, pages, List.flatMap_append]
    exact congrArg (fun f => ({ s.pool with free := f } : Pool)) (List.append_assoc _ _ _)
  · rw [k.queue, h.queue]
    exact congrArg (fun q => ({ s.queue with normal := q } : TetherQueue)) (List.append_assoc _ _ _)

/-- Shots that leave one by one leave in order. -/
theorem State.left_foldl (f : State → Fin 48 → State) (y : Shot → Shot) (lost : Shot → Bool) (entry : Fin 48 → Shot → Option ShotRef)
    (one : ∀ (s : State) (i : Fin 48), s.Left (f s i) [i] ([i].filter fun j => (s.record j).any lost) y
      ([i].filterMap fun j => (s.record j).bind (entry j)))
    (l : List (Fin 48)) (s : State) (nodup : l.Nodup) :
    s.Left (l.foldl f s) l (l.filter fun j => (s.record j).any lost) y (l.filterMap fun j => (s.record j).bind (entry j)) := by
  induction l generalizing s with
  | nil => exact .refl s y
  | cons i l ih =>
    obtain ⟨fresh, nodup⟩ := List.nodup_cons.mp nodup
    have first := one s i
    have rest := ih (f s i) nodup
    have kept (j : Fin 48) (hj : j ∈ l) : (f s i).record j = s.record j :=
      (first.record j).trans (if_neg fun h => fresh (by rw [← List.mem_singleton.mp h]; exact hj))
    have sameGone : (l.filter fun j => ((f s i).record j).any lost) = l.filter fun j => (s.record j).any lost :=
      List.filter_congr fun j hj => by rw [kept j hj]
    have sameEntries : (l.filterMap fun j => ((f s i).record j).bind (entry j)) = l.filterMap fun j => (s.record j).bind (entry j) :=
      List.filterMap_congr fun j hj => by rw [kept j hj]
    rw [sameGone, sameEntries] at rest
    have all := first.trans rest fresh (fun j hj => List.mem_singleton.mp (List.mem_of_mem_filter hj)) (List.filter_subset_self _)
    rwa [← List.filter_append, ← List.filterMap_append] at all

theorem State.modifyShot_of_free (s : State) (i : Fin 48) (f : Shot → Shot) (h : s.record i = none) : s.modifyShot i f = s := by
  have same : s.shots.records.set i ((s.record i).map f) = s.shots.records := by
    rw [h, Option.map_none, ← h]
    exact Vector.set_getElem_self i.isLt
  rw [State.modifyShot, State.setRecord, same]

/-- R13: the shot that becomes KEPT is lost where neither hold nor view keeps it. -/
def Shot.unkept (x : Shot) : Bool := decide (x.kept.holds = Holds.empty ∧ x.views = 0)

/-- R13, R170: the entry of the queue that a tether policy makes. -/
def Shot.entry (i : Fin 48) (x : Shot) : Option ShotRef := if x.policy = .none then none else some { index := i, number := x.number }

/-- Where a shot has a tether policy its tether hold keeps it. -/
theorem Shot.kept_of_policy (x : Shot) (h : x.policy ≠ .none) : x.unkept = false ∧ ∃ p, x.kept.tether = some p ∧ p.cls = .normal ∧ p.state = .queued := by
  have hold : x.kept.holds.tether = true := by simp [Shot.kept, h]
  refine ⟨decide_eq_false fun lost => ?_, ?_⟩
  · rw [lost.1] at hold
    cases hold
  · unfold Shot.kept TetherPolicy.part
    cases policy : x.policy with
    | none => exact absurd policy h
    | raw => exact ⟨_, rfl, rfl, rfl⟩
    | developed => exact ⟨_, rfl, rfl, rfl⟩

/-- Everything of a list but the change of one record. -/
theorem State.left_one (s t : State) (i : Fin 48) (y : Shot → Shot) (record : t.record i = (s.record i).map y)
    (others : ∀ j, j ≠ i → t.record j = s.record j) (counter : t.shots.counter = s.shots.counter) (pool : t.pool = s.pool)
    (entries : List ShotRef) (queue : t.queue = { s.queue with normal := s.queue.normal ++ entries }) : s.Left t [i] [] y entries := by
  refine ⟨fun j => ?_, counter, pool.trans (by simp), queue⟩
  by_cases same : j = i
  · rw [same, record]
    simp
  · rw [others j same, if_neg (by simpa using same)]

/-- A freed record after a change that kept its pages. -/
theorem State.left_freed (s u : State) (i : Fin 48) (y : Shot → Shot) (h : s.Left u [i] [] y []) (pages : pagesOf (u.record i) = pagesOf (s.record i)) :
    s.Left (u.freeShot i) [i] [i] y [] := by
  have same : u.pool = s.pool := h.pool.trans (by simp)
  refine ⟨fun j => ?_, (u.freeShot_counter i).trans h.counter, ?_, ?_⟩
  · rw [u.freeShot_record, h.record]
    by_cases same : j = i
    · simp [same]
    · simp [same]
  · rw [u.freeShot_pool, pages, same]
    simp
  · exact (u.apart_freeShot i).queue.trans h.queue

/-- R13: one shot becomes KEPT, and is freed where nothing keeps it. -/
theorem State.becomeKept_left (s : State) (i : Fin 48) :
    s.Left (s.becomeKept i) [i] ([i].filter fun j => (s.record j).any Shot.unkept) Shot.kept
      ([i].filterMap fun j => (s.record j).bind (Shot.entry j)) := by
  cases used : s.record i with
  | none =>
    have none : s.becomeKept i = s.raise .shotKept := by
      have notQueued : s.enqueue i false = s := by rw [State.enqueue, used]
      rw [State.becomeKept, s.modifyShot_of_free i _ used, notQueued]
      rw [show (s.raise .shotKept).record i = none from used]
    rw [none]
    simp only [used, Option.any_none, List.filter_cons, List.filter_nil, List.filterMap_cons, Option.bind_none, List.filterMap_nil]
    exact s.left_one (s.raise .shotKept) i _ (by rw [used]; exact used) (fun _ _ => rfl) rfl rfl [] (by simp)
  | some x =>
    have set := s.modifyShot_of i Shot.kept x used
    have shows : (s.setRecord i (some x.kept)).record i = some x.kept := s.setRecord_same i _
    by_cases policy : x.policy = .none
    · have part : x.kept.tether = none := by simp [Shot.kept, policy, TetherPolicy.part]
      have notQueued : (s.setRecord i (some x.kept)).enqueue i false = s.setRecord i (some x.kept) := by
        rw [State.enqueue, shows]
        dsimp only
        rw [part]
      have entries : ([i].filterMap fun j => (s.record j).bind (Shot.entry j)) = [] := by simp [used, Shot.entry, policy]
      have left : s.Left ((s.setRecord i (some x.kept)).raise .shotKept) [i] [] Shot.kept [] :=
        s.left_one ((s.setRecord i (some x.kept)).raise .shotKept) i _ ((s.setRecord_same i _).trans (by rw [used]; rfl)) (fun j other => s.setRecord_other i j _ other) rfl rfl [] (by simp)
      have became : s.becomeKept i = if x.kept.holds = Holds.empty ∧ x.views = 0 then
          ((s.setRecord i (some x.kept)).raise .shotKept).freeShot i else (s.setRecord i (some x.kept)).raise .shotKept := by
        rw [State.becomeKept, set, notQueued]
        rw [show ((s.setRecord i (some x.kept)).raise .shotKept).record i = some x.kept from shows]
        rfl
      rw [entries, became]
      by_cases lost : x.kept.holds = Holds.empty ∧ x.views = 0
      · have gone : ([i].filter fun j => (s.record j).any Shot.unkept) = [i] := by simp [used, Shot.unkept, lost]
        rw [gone, if_pos lost]
        exact s.left_freed _ i _ left (by
          rw [show ((s.setRecord i (some x.kept)).raise .shotKept).record i = some x.kept from shows, used]
          rfl)
      · have gone : ([i].filter fun j => (s.record j).any Shot.unkept) = [] := by simp [used, Shot.unkept, lost]
        rw [gone, if_neg lost]
        exact left
    · obtain ⟨kept, p, part, normal, queued⟩ := x.kept_of_policy policy
      have lost : ¬ (x.kept.holds = Holds.empty ∧ x.views = 0) := of_decide_eq_false kept
      have whole : x.kept = { x.kept with tether := some { p with state := .queued } } := by
        rw [← queued, ← part]
      have enqueued := State.enqueue_of (s.setRecord i (some x.kept)) _ i false x.kept x.kept p shows part whole rfl
      have entries : ([i].filterMap fun j => (s.record j).bind (Shot.entry j)) = [{ index := i, number := x.number }] := by
        simp [used, Shot.entry, policy]
      have gone : ([i].filter fun j => (s.record j).any Shot.unkept) = [] := by simp [used, kept]
      obtain ⟨u, hu⟩ : ∃ u, ((s.setRecord i (some x.kept)).enqueue i false).raise .shotKept = u := ⟨_, rfl⟩
      have record : u.record i = some x.kept := by
        rw [← hu, enqueued]
        exact State.setRecord_same _ i _
      have others (j : Fin 48) (other : j ≠ i) : u.record j = s.record j := by
        rw [← hu, enqueued]
        exact (State.setRecord_other _ i j _ other).trans (s.setRecord_other i j _ other)
      have became : s.becomeKept i = u := by
        rw [State.becomeKept, set, hu]
        rw [record]
        exact if_neg lost
      rw [entries, gone, became]
      refine s.left_one u i _ (record.trans (by rw [used]; rfl)) others ?_ ?_ _ ?_
      · rw [← hu, enqueued]; rfl
      · rw [← hu, enqueued]; rfl
      · rw [← hu, enqueued, normal]; rfl

/-- R26: a provisional shot is freed, or with views is DISCARDED. -/
def Shot.lapsing (x : Shot) : Shot := { x with state := .discarded, holds := Holds.empty }

/-- R26: one shot lapses. -/
theorem State.lapseShot_left (s : State) (i : Fin 48) :
    s.Left (s.lapseShot i) [i] ([i].filter fun j => (s.record j).any fun x => decide (x.views = 0)) Shot.lapsing
      ([i].filterMap fun j => (s.record j).bind fun _ => none) := by
  have entries : ([i].filterMap fun j => (s.record j).bind fun _ => (none : Option ShotRef)) = [] := by
    cases used : s.record i <;> simp [used]
  have stays (h : s.unviewed i = false) : s.Left (s.lapseShot i) [i] [] Shot.lapsing [] := by
    have lapsed : s.lapseShot i = s.modifyShot i Shot.lapsing := if_neg (by rw [h]; exact Bool.false_ne_true)
    rw [lapsed]
    exact s.left_one _ i _ (s.modifyShot_same i _) (fun j other => s.modifyShot_other i j _ other) rfl rfl [] (by simp)
  rw [entries]
  cases used : s.record i with
  | none =>
    have gone : ([i].filter fun j => (s.record j).any fun x => decide (x.views = 0)) = [] := by simp [used]
    rw [gone]
    exact stays (by rw [State.unviewed, used])
  | some x =>
    by_cases unviewed : x.views = 0
    · have gone : ([i].filter fun j => (s.record j).any fun x => decide (x.views = 0)) = [i] := by simp [used, unviewed]
      have lapsed : s.lapseShot i = s.freeShot i := if_pos (by rw [State.unviewed, used]; simp [unviewed])
      rw [gone, lapsed]
      refine ⟨fun j => ?_, s.freeShot_counter i, (s.freeShot_pool i).trans (by simp), ((s.apart_freeShot i).queue).trans (by simp)⟩
      rw [s.freeShot_record]
      by_cases same : j = i
      · simp [same]
      · simp [same]
    · have gone : ([i].filter fun j => (s.record j).any fun x => decide (x.views = 0)) = [] := by simp [used, unviewed]
      rw [gone]
      exact stays (by rw [State.unviewed, used]; simp [unviewed])

/-! ### The filling record (R25, R26) -/

theorem State.modifyFilling_record (s : State) (g : Shot → Shot) (j : Fin 48) :
    (s.modifyFilling g).record j = if s.fillingIndex = some j then (s.record j).map g else s.record j := by
  unfold State.modifyFilling
  split
  · next i filling =>
    rw [filling]
    by_cases same : i = j
    · rw [same, s.modifyShot_same, if_pos rfl]
    · rw [s.modifyShot_other i j g (Ne.symm same), if_neg fun h => same (Option.some.inj h)]
  · next filling => simp [filling]

/-- What becomes of the shot table when the pre-capture list is emptied: its shots leave, and the filling shot is changed by `g`. -/
structure State.Emptied (s t : State) (gone : List (Fin 48)) (y g : Shot → Shot) (entries : List ShotRef) : Prop where
  record : ∀ j, t.record j = if j ∈ s.shots.preList then (if j ∈ gone then none else (s.record j).map y)
    else if s.fillingIndex = some j then (s.record j).map g else s.record j
  preList : t.shots.preList = []
  counter : t.shots.counter = s.shots.counter
  pool : t.pool = { s.pool with free := s.pool.free ++ gone.flatMap fun j => pagesOf (s.record j) }
  queue : t.queue = { s.queue with normal := s.queue.normal ++ entries }

/-- The list is emptied of shots that the filling record's change does not concern. -/
theorem State.emptied_of (s u : State) (gone : List (Fin 48)) (y g : Shot → Shot) (entries : List ShotRef)
    (h : s.Left u s.shots.preList gone y entries) (aside : s.Aside u) (none : ∀ x, g (y x) = y x) :
    s.Emptied (({ u with shots := { u.shots with preList := [] } } : State).modifyFilling g) gone y g entries := by
  have filling : u.fillingIndex = s.fillingIndex := by rw [State.fillingIndex, aside.intake]; rfl
  have shots : (({ u with shots := { u.shots with preList := [] } } : State).modifyFilling g).shots.preList = [] ∧
      (({ u with shots := { u.shots with preList := [] } } : State).modifyFilling g).shots.counter = u.shots.counter ∧
      (({ u with shots := { u.shots with preList := [] } } : State).modifyFilling g).pool = u.pool ∧
      (({ u with shots := { u.shots with preList := [] } } : State).modifyFilling g).queue = u.queue := by
    unfold State.modifyFilling
    split <;> exact ⟨rfl, rfl, rfl, rfl⟩
  obtain ⟨preList, counter, pool, queue⟩ := shots
  refine ⟨fun j => ?_, preList, counter.trans h.counter, pool.trans h.pool, queue.trans h.queue⟩
  refine (State.modifyFilling_record _ g j).trans ?_
  rw [show ({ u with shots := { u.shots with preList := [] } } : State).fillingIndex = u.fillingIndex from rfl,
    show ({ u with shots := { u.shots with preList := [] } } : State).record j = u.record j from rfl, filling, h.record]
  by_cases listed : j ∈ s.shots.preList
  · rw [if_pos listed, if_pos listed]
    have same : Option.map g (if j ∈ gone then Option.none else (s.record j).map y) = if j ∈ gone then Option.none else (s.record j).map y := by
      rw [apply_ite (Option.map g), Option.map_map, show g ∘ y = y from funext none]
      rfl
    rw [same, ite_self]
  · rw [if_neg listed, if_neg listed]

/-! ### Presses (R25, R26, R59) -/

/-- R25: the filling shot's destiny at a full press. -/
def Shot.promoting (x : Shot) : Shot := if x.fillingProvisional && !x.lapsed then { x with destiny := some .kept } else x

/-- R26: the filling shot's LAPSED flag at a half-press end. -/
def Shot.expiring (x : Shot) : Shot := if x.fillingProvisional then { x with lapsed := true } else x

theorem State.promote_emptied (s : State) (nodup : s.shots.preList.Nodup) :
    s.Emptied s.promote (s.shots.preList.filter fun j => (s.record j).any Shot.unkept) Shot.kept Shot.promoting
      (s.shots.preList.filterMap fun j => (s.record j).bind (Shot.entry j)) :=
  s.emptied_of _ _ _ _ _ (State.left_foldl State.becomeKept Shot.kept Shot.unkept Shot.entry State.becomeKept_left _ s nodup)
    (.foldl State.aside_becomeKept _ s) fun _ => rfl

theorem State.lapse_emptied (s : State) (nodup : s.shots.preList.Nodup) :
    s.Emptied s.lapse (s.shots.preList.filter fun j => (s.record j).any fun x => decide (x.views = 0)) Shot.lapsing Shot.expiring
      (s.shots.preList.filterMap fun j => (s.record j).bind fun _ => none) :=
  s.emptied_of _ _ _ _ _ (State.left_foldl State.lapseShot Shot.lapsing (fun x => decide (x.views = 0)) (fun _ _ => none)
    State.lapseShot_left _ s nodup) (.foldl State.aside_lapseShot _ s) fun _ => rfl

/-- R13: SHOT_KEPT is raised by every shot that becomes KEPT. -/
theorem State.becomeKept_raises (s : State) (i : Fin 48) : (s.becomeKept i).pendingCause .shotKept = true := by
  have raised (u : State) : (u.raise .shotKept).pendingCause .shotKept = true := State.pendingCause_raise _ _
  unfold State.becomeKept
  dsimp only
  split
  · split
    · exact (State.steady_freeShot _ i).causes _ (raised _)
    · exact raised _
  · exact raised _

theorem State.promote_raises (s : State) (h : s.shots.preList ≠ []) : s.promote.pendingCause .shotKept = true := by
  obtain ⟨i, l, list⟩ := List.exists_cons_of_ne_nil h
  have all : (s.shots.preList.foldl State.becomeKept s).pendingCause .shotKept = true := by
    rw [list]
    exact (State.Steady.foldl _ State.steady_becomeKept l (s.becomeKept i)).causes _ (s.becomeKept_raises i)
  exact ((State.Steady.shots _ _).trans (State.steady_modifyFilling _ _)).causes _ all

/-- R26: a lapse raises no cause. -/
theorem State.lapse_causes (s : State) : s.lapse.req.causes = s.req.causes := by
  have one (s : State) (i : Fin 48) : (s.lapseShot i).req.causes = s.req.causes := by
    unfold State.lapseShot
    split
    · exact congrArg RequestUnit.causes (s.freeShot_req i)
    · rfl
  have all (l : List (Fin 48)) (s : State) : (l.foldl State.lapseShot s).req.causes = s.req.causes := by
    induction l generalizing s with
    | nil => rfl
    | cons i l ih => exact (ih _).trans (one s i)
  unfold State.lapse State.modifyFilling
  dsimp only
  split <;> exact all _ s

/-- A debounced change of a press line that counts, up to what follows. -/
theorem State.pressed_of (s u : State) (l : Line) (hl : l ≠ .lready)
    (hu : u = s.setDebouncer l { active := !(s.debouncer l).active, since := none }) : s.countChange l = u.pressEvents s := by
  rw [hu]
  cases l with
  | lready => exact absurd rfl hl
  | s1 | s2 | remote => rfl

/-- R59: at a full press the provisional shots are promoted, and MISSED_TRIGGER is raised with a camera that is not ready. -/
theorem State.pressEvents_full (s u : State) (was : s.fullPress = false) (now : u.fullPress = true) :
    u.pressEvents s = u.promote.requestBurst := by
  have half : u.halfPress = true := by rw [State.halfPress, now, Bool.or_true]
  rw [State.pressEvents, was, now, half]
  cases s.halfPress <;> rfl

/-- R26: at the end of a half press the provisional shots lapse. -/
theorem State.pressEvents_half (s u : State) (was : s.fullPress = false) (now : u.fullPress = false) (held : s.halfPress = true)
    (ended : u.halfPress = false) : u.pressEvents s = u.lapse := by
  rw [State.pressEvents, was, now, held, ended]
  rfl

/-- R59: a request for a burst changes the release unit, and raises MISSED_TRIGGER where the camera is not ready. -/
theorem State.requestBurst_of (s : State) : ∃ r q, s.requestBurst = { s with release := r, req := q } ∧
    (s.readyToShoot = false → s.requestBurst.pendingCause .missedTrigger = true) := by
  unfold State.requestBurst
  split
  · exact ⟨s.release, _, rfl, fun _ => State.pendingCause_raise _ _⟩
  · next accepted =>
    have unready (t : State) (h : s.readyToShoot = false) : t.pendingCause .missedTrigger = true := absurd (by rw [h]; rfl) accepted
    split
    · exact ⟨s.release, s.req, rfl, unready s⟩
    · split
      · exact ⟨s.release, _, rfl, unready _⟩
      · exact ⟨_, s.req, rfl, unready _⟩

/-! ### The records in use under the release unit -/

/-- With the pre-capture list empty the release unit keeps it so, and no record in use changes. -/
structure State.UsedKept (s t : State) : Prop where
  preList : t.shots.preList = s.shots.preList
  record : ∀ j x, s.record j = some x → t.record j = some x

theorem State.Ledger.usedKept {s t : State} (h : s.Ledger t) : s.UsedKept t :=
  ⟨by rw [h.shots], fun j x used => by rw [State.record, h.shots]; exact used⟩

theorem State.UsedKept.trans {s t u : State} (h : s.UsedKept t) (k : t.UsedKept u) : s.UsedKept u :=
  ⟨k.preList.trans h.preList, fun j x used => k.record j x (h.record j x used)⟩

theorem State.usedKept_openRecord (s : State) (i : Fin 48) (x : Option Shot) (n m : Nat) (free : s.record i = none) :
    s.UsedKept { s.setRecord i x with
      shots := { (s.setRecord i x).shots with counter := n }
      pool := { (s.setRecord i x).pool with reservation := m } } := by
  refine ⟨rfl, fun j y used => ?_⟩
  have other : j ≠ i := by
    rintro rfl
    rw [free] at used
    cases used
  exact (s.setRecord_other i j _ other).trans used

theorem State.usedKept_openShot (s : State) (i : Fin 48) (c : Fin 4) (p : Capture) (d : Destiny) (free : s.record i = none) :
    s.UsedKept (s.openShot i c p d) := s.usedKept_openRecord i _ _ _ free

/-- A shot trigger opens a record that was FREE. -/
theorem State.usedKept_fireShot (s : State) (k : TriggerKind) : s.UsedKept (s.fireShot k) := by
  unfold State.fireShot
  split
  · next c p i active profile free =>
    exact (s.usedKept_openShot i c p _ (s.lowestFree_spec i free)).trans
      ((State.ledger_release _ _).trans (State.ledger_openFrame _ _ _)).usedKept
  · exact (State.Ledger.refl s).usedKept

theorem State.usedKept_testTrigger (s : State) (k : TriggerKind) (empty : s.shots.preList = []) : s.UsedKept (s.testTrigger k) := by
  have noRoom : s.roomFor k = s := by
    have none : s.unviewedList = [] := by rw [State.unviewedList, empty]; rfl
    rw [State.roomFor, none]
    exact ite_self s
  unfold State.testTrigger
  rw [noRoom]
  dsimp only
  split
  · exact (s.usedKept_fireShot k).trans (State.ledger_deriveRelease _ s).usedKept
  · next r _ =>
    have waits : s.UsedKept (s.waitFor r) := by
      unfold State.waitFor
      dsimp only
      split <;> exact ⟨rfl, fun _ _ used => used⟩
    exact waits.trans (State.ledger_syncLive _ s).usedKept

theorem State.usedKept_updateRelease (s old : State) (empty : s.shots.preList = []) : s.UsedKept (s.updateRelease old) := by
  have derived := (s.ledger_deriveRelease old).usedKept
  have tested (k : TriggerKind) : s.UsedKept ((s.deriveRelease old).testTrigger k) :=
    derived.trans ((s.deriveRelease old).usedKept_testTrigger k (derived.preList.trans empty))
  unfold State.updateRelease
  dsimp only
  split
  · exact derived
  · split
    · split
      · exact tested _
      · exact derived
    · split
      · exact tested _
      · exact derived

/-- What follows an event keeps an empty list, and a record in use without a tether part. -/
theorem State.settle_usedKept (s old : State) (empty : s.shots.preList = []) :
    (s.settle old).shots.preList = [] ∧ ∀ j x, s.record j = some x → x.tether = none → (s.settle old).record j = some x := by
  have kept := State.usedKept_updateRelease s.deriveFocus old empty
  rw [State.settle_eq]
  generalize s.deriveFocus.updateRelease old = u at kept
  refine ⟨u.serveOut_preList.trans (kept.preList.trans empty), fun j x used part => ?_⟩
  have usedU := kept.record j x used
  exact (u.serveOut_record j fun y hy => by rw [usedU] at hy; cases hy; exact part).trans usedU

theorem State.syncLive_state (s old : State) : (s.syncLive old).release.state = s.release.state := by
  have live (due : Nat) : (s.liveFallsDue due).release.state = s.release.state := by
    unfold State.liveFallsDue
    dsimp only
    split
    · have dropped (u : State) := u.beyond_dropLive
      exact (congrArg ReleaseUnit.state (dropped _ _).release :)
    · rfl
  unfold State.syncLive
  split
  · exact live _
  · split <;> rfl

theorem State.deriveRelease_state (s old : State) : (s.deriveRelease old).release.state = s.releaseStateNow := by
  unfold State.deriveRelease
  refine (State.syncLive_state _ old).trans ?_
  unfold State.dropUnwanted
  split <;> rfl

/-- R56: with no press, no request and no FIRE count the part is in LIVE or in STANDBY. -/
theorem State.releaseStateNow_of_unpressed (s : State) (half : s.halfPress = false) (pending : s.release.singlePending = false)
    (count : s.release.fireCount = 0) : s.releaseStateNow = if s.tables.live.enabled then .live else .standby := by
  have press : s.fullPress = false := by
    rw [State.halfPress, Bool.or_eq_false_iff] at half
    exact half.2
  rw [State.releaseStateNow, press, pending, count, half, Bool.and_false]
  rfl

/-- R56: with no press, no request and no FIRE count no shot trigger is wanted, and the records and the pool stay. -/
theorem State.settle_unpressed (s old : State) (half : s.halfPress = false) (pending : s.release.singlePending = false)
    (count : s.release.fireCount = 0) :
    (s.settle old).pool = s.pool ∧ (s.settle old).shots.preList = s.shots.preList ∧
      ∀ j, s.record j = none → (s.settle old).record j = none := by
  have state := State.deriveRelease_state s.deriveFocus old
  have ledger := State.ledger_deriveRelease s.deriveFocus old
  rw [State.releaseStateNow_of_unpressed s.deriveFocus half pending count] at state
  have updated : s.deriveFocus.updateRelease old = s.deriveFocus.deriveRelease old := by
    have unwanted : (s.deriveFocus.deriveRelease old).wantedTrigger = none := by
      rw [State.wantedTrigger, state]
      cases s.deriveFocus.tables.live.enabled <;> rfl
    rw [State.updateRelease, unwanted]
  rw [State.settle_eq, updated]
  generalize s.deriveFocus.deriveRelease old = u at ledger
  refine ⟨u.serveOut_pool.trans ledger.pool, u.serveOut_preList.trans (congrArg ShotTable.preList ledger.shots :), fun j free => ?_⟩
  have freeU : u.record j = none := by rw [State.record, ledger.shots]; exact free
  exact (u.serveOut_record j fun y hy => by rw [freeU] at hy; cases hy).trans freeU

theorem Shot.promoting_eq : Shot.promoting = fun x =>
    if x.state = .filling ∧ x.destiny = some .provisional ∧ x.lapsed = false then { x with destiny := some .kept } else x := by
  funext x
  simp [Shot.promoting, Shot.fillingProvisional, and_assoc]

theorem Shot.expiring_eq : Shot.expiring = fun x =>
    if x.state = .filling ∧ x.destiny = some .provisional then { x with lapsed := true } else x := by
  funext x
  simp [Shot.expiring, Shot.fillingProvisional]

theorem State.fillingIndex_iff (s : State) (f : Frame) (j : Fin 48) (frame : s.intake.frame = some f) :
    s.fillingIndex = some j ↔ f.kind = .shot j := by
  rw [State.fillingIndex, frame]
  dsimp only
  cases kind : f.kind with
  | live => simp
  | shot i => simp

/-- With a frame in flight and a port that takes no item, only the release unit, the engine, the lanes and the port change. -/
theorem State.settle_of_busyFrame (s old : State) (frame : s.intake.frame.isSome = true) (port : s.tport.state ≠ .idle) :
    ∃ f r, ({ s with focus := f, release := r } : State).Beyond (s.settle old) := by
  obtain ⟨w, due, settled⟩ := s.settle_of_frame old frame
  rw [settled]
  exact ⟨_, _, State.beyond_serveOut (s.deriveFocus.awaiting s.deriveFocus.releaseStateNow w due) (.inl port)⟩

/-- Settles O25: by what becomes of the list and of the filling shot, and by what follows the press. -/
theorem pressesPromoteAndLapse : Obligations.PressesPromoteAndLapse := by
  unfold Obligations.PressesPromoteAndLapse
  refine ⟨fun s since i x line lasted press list used policy card => ?_,
    fun s since i x line lasted press pending count list used unviewed => ?_,
    fun s f since list gone pages frame port press hlist nodup hpages => ⟨fun y line lasted hy hgone => ?_, fun line lasted hgone => ?_⟩⟩
  · obtain ⟨u, hu⟩ : ∃ u, u = s.setDebouncer .s2 { active := !(s.debouncer .s2).active, since := none } := ⟨_, rfl⟩
    have full : u.fullPress = true := by
      rw [hu]
      show ((!s.release.s2.active) || _) = true
      rw [line]
      rfl
    have next := exec_debouncedChange s .s2 (s.debounceOver_of .s2 since (congrArg Debouncer.since line) lasted)
    have counted := (s.pressed_of u .s2 (by decide) hu).trans (State.pressEvents_full s u press full)
    have listU : u.shots.preList = [i] := by rw [hu]; exact list
    have usedU : u.record i = some x := by rw [hu]; exact used
    have emptied := u.promote_emptied (by rw [listU]; exact List.nodup_singleton i)
    have raised := u.promote_raises (by rw [listU]; exact List.cons_ne_nil i [])
    have ready : u.promote.readyToShoot = s.readyToShoot := by
      rw [State.readyToShoot, u.steady_promote.configured, u.aside_promote.release, hu]
      rfl
    have kept : u.promote.record i = some x.kept := by
      have held : x.unkept = false := decide_eq_false fun lost => by
        have hold := congrArg Holds.card lost.1
        simp [Shot.kept, card, Holds.empty] at hold
      have stays : ¬ i ∈ u.shots.preList.filter fun j => (u.record j).any Shot.unkept := by
        intro h
        have lost := (List.mem_filter.mp h).2
        rw [usedU] at lost
        exact Bool.false_ne_true (held.symm.trans lost)
      rw [emptied.record, listU, if_pos (List.mem_singleton.mpr rfl), if_neg (by rw [← listU]; exact stays), usedU]
      rfl
    obtain ⟨r, q, burst, missed⟩ := u.promote.requestBurst_of
    have steady := u.promote.steady_requestBurst
    have settled := State.settle_usedKept u.promote.requestBurst s (by rw [burst]; exact emptied.preList)
    have causes := State.steady_settle u.promote.requestBurst s
    rw [State.countAndSettle, counted] at next
    generalize u.promote.requestBurst.settle s = t at next settled causes
    have part : x.kept.tether = none := by simp [Shot.kept, policy, TetherPolicy.part]
    refine ⟨_, next, settled.1, causes.causes _ (steady.causes _ raised), ?_, fun unready => causes.causes _ (missed (ready.trans unready))⟩
    refine (settled.2 i x.kept (by rw [burst]; exact kept) part).trans ?_
    simp [Shot.kept, policy, card, TetherPolicy.part]
  · obtain ⟨u, hu⟩ : ∃ u, u = s.setDebouncer .s1 { active := !(s.debouncer .s1).active, since := none } := ⟨_, rfl⟩
    have next := exec_debouncedChange s .s1 (s.debounceOver_of .s1 since (congrArg Debouncer.since line) lasted)
    have fullU : u.fullPress = false := by rw [hu]; exact press
    have halfU : u.halfPress = false := by
      rw [State.halfPress, fullU, Bool.or_false, hu]
      show (!s.release.s1.active) = false
      rw [line]
      rfl
    have counted := (s.pressed_of u .s1 (by decide) hu).trans
      (State.pressEvents_half s u press fullU (by rw [State.halfPress, line]; rfl) halfU)
    have listU : u.shots.preList = [i] := by rw [hu]; exact list
    have usedU : u.record i = some x := by rw [hu]; exact used
    have emptied := u.lapse_emptied (by rw [listU]; exact List.nodup_singleton i)
    have gone : (u.shots.preList.filter fun j => (u.record j).any fun x => decide (x.views = 0)) = [i] := by
      rw [listU]
      simp [usedU, unviewed]
    rw [gone] at emptied
    have release : u.lapse.release = u.release := u.aside_lapse.release
    have tables : u.lapse.tables = u.tables := u.steady_lapse.tables
    have halfL : u.lapse.halfPress = false := by rw [State.halfPress, State.fullPress, release, tables]; exact halfU
    have settled := State.settle_unpressed u.lapse s halfL (by rw [release, hu]; exact pending) (by rw [release, hu]; exact count)
    rw [State.countAndSettle, counted] at next
    generalize u.lapse.settle s = t at next settled
    obtain ⟨pool, preList, free⟩ := settled
    refine ⟨_, next, preList.trans emptied.preList, free i ?_, ?_⟩
    · rw [emptied.record, listU, if_pos (List.mem_singleton.mpr rfl), if_pos (List.mem_singleton.mpr rfl)]
    · refine (congrArg Pool.free (pool.trans emptied.pool) :).trans ?_
      rw [List.flatMap_singleton, usedU, hu]
      rfl
  · obtain ⟨u, hu⟩ : ∃ u, u = s.setDebouncer .s2 { active := !(s.debouncer .s2).active, since := none } := ⟨_, rfl⟩
    have full : u.fullPress = true := by
      rw [hu]
      show ((!s.release.s2.active) || _) = true
      rw [line]
      rfl
    have next := exec_debouncedChange s .s2 (s.debounceOver_of .s2 since (congrArg Debouncer.since line) lasted)
    have lines := (s.countAndSettle_lines .s2).1
    have counted := (s.pressed_of u .s2 (by decide) hu).trans (State.pressEvents_full s u press full)
    have listU : u.shots.preList = list := by rw [hu, hlist]; rfl
    have recordU (j : Fin 48) : u.record j = s.record j := by rw [hu]; rfl
    have emptied := u.promote_emptied (by rw [listU]; exact nodup)
    have change : Shot.kept = y := funext fun x => (hy x).symm
    have lost : (u.shots.preList.filter fun j => (u.record j).any Shot.unkept) = gone := by
      rw [listU, hgone, ← change]
      exact List.filter_congr fun j _ => by rw [recordU]; rfl
    rw [lost, change] at emptied
    have ready : u.promote.readyToShoot = s.readyToShoot := by
      rw [State.readyToShoot, u.steady_promote.configured, u.aside_promote.release, hu]
      rfl
    have raised := u.promote_raises
    have intake : u.promote.intake = s.intake := u.aside_promote.intake.trans (by rw [hu]; rfl)
    have state : u.promote.tport.state = s.tport.state := u.offPort_promote.portState.trans (by rw [hu]; rfl)
    obtain ⟨r, q, burst, missed⟩ := u.promote.requestBurst_of
    have steady := u.promote.steady_requestBurst
    obtain ⟨fo, re, beyond⟩ := State.settle_of_busyFrame u.promote.requestBurst s (by rw [burst]; exact intake ▸ frame ▸ rfl)
      (by rw [burst]; exact state ▸ port)
    have causes := State.steady_settle u.promote.requestBurst s
    rw [State.countAndSettle, counted] at next lines
    generalize u.promote.requestBurst.settle s = t at next beyond causes lines
    rw [burst] at beyond
    refine ⟨_, next, lines, beyond.intake.trans intake, (congrArg ShotTable.preList beyond.shots :).trans emptied.preList,
      (congrArg ShotTable.counter beyond.shots :).trans (emptied.counter.trans (by rw [hu]; rfl)),
      beyond.pool.trans (emptied.pool.trans ?_), fun some => causes.causes _ (steady.causes _ (raised (by rw [listU]; exact some))),
      fun unready => causes.causes _ (missed (ready.trans unready)), beyond.queue.trans (emptied.queue.trans ?_), fun j => ?_⟩
    · rw [hpages, hu]
      rfl
    · rw [listU, hu]
      rfl
    · refine (beyond.record j).trans ((emptied.record j).trans ?_)
      simp only [listU, recordU, Shot.promoting_eq, u.fillingIndex_iff f j (by rw [hu]; exact frame)]
  · obtain ⟨u, hu⟩ : ∃ u, u = s.setDebouncer .s1 { active := !(s.debouncer .s1).active, since := none } := ⟨_, rfl⟩
    have next := exec_debouncedChange s .s1 (s.debounceOver_of .s1 since (congrArg Debouncer.since line) lasted)
    have lines := (s.countAndSettle_lines .s1).1
    have fullU : u.fullPress = false := by rw [hu]; exact press
    have halfU : u.halfPress = false := by
      rw [State.halfPress, fullU, Bool.or_false, hu]
      show (!s.release.s1.active) = false
      rw [line]
      rfl
    have counted := (s.pressed_of u .s1 (by decide) hu).trans
      (State.pressEvents_half s u press fullU (by rw [State.halfPress, line]; rfl) halfU)
    have listU : u.shots.preList = list := by rw [hu, hlist]; rfl
    have recordU (j : Fin 48) : u.record j = s.record j := by rw [hu]; rfl
    have emptied := u.lapse_emptied (by rw [listU]; exact nodup)
    have lost : (u.shots.preList.filter fun j => (u.record j).any fun x => decide (x.views = 0)) = gone := by
      rw [listU, hgone]
      exact List.filter_congr fun j _ => by rw [recordU]
    have entries : (u.shots.preList.filterMap fun j => (u.record j).bind fun _ => (none : Option ShotRef)) = [] := by simp
    rw [lost, entries] at emptied
    have raised : u.lapse.req.causes = s.req.causes := u.lapse_causes.trans (by rw [hu]; rfl)
    have intake : u.lapse.intake = s.intake := u.aside_lapse.intake.trans (by rw [hu]; rfl)
    have state : u.lapse.tport.state = s.tport.state := u.offPort_lapse.portState.trans (by rw [hu]; rfl)
    obtain ⟨fo, re, beyond⟩ := State.settle_of_busyFrame u.lapse s (intake ▸ frame ▸ rfl) (state ▸ port)
    rw [State.countAndSettle, counted] at next lines
    generalize u.lapse.settle s = t at next beyond lines
    refine ⟨_, next, lines, beyond.intake.trans intake, (congrArg ShotTable.preList beyond.shots :).trans emptied.preList,
      (congrArg ShotTable.counter beyond.shots :).trans (emptied.counter.trans (by rw [hu]; rfl)),
      beyond.pool.trans (emptied.pool.trans ?_), beyond.queue.trans (emptied.queue.trans ?_), ?_, fun j => ?_⟩
    · rw [hpages, hu]
      rfl
    · rw [hu]
      exact congrArg (fun q => ({ s.queue with normal := q } : TetherQueue)) (List.append_nil _)
    · exact congrArg (fun c : BitVec 20 => c.getLsbD Cause.preEvicted.code)
        ((congrArg RequestUnit.causes beyond.req :).trans raised)
    · refine (beyond.record j).trans ((emptied.record j).trans ?_)
      simp only [listU, recordU, Shot.expiring_eq, u.fillingIndex_iff f j (by rw [hu]; exact frame)]
      rfl

end Sys2Proof.Machine
end

section
/-! SUPPORT. CLEAR_BUFFER: the freeing of every record, and what follows in a part with nothing wanted. -/

namespace Sys2Proof.Machine

/-! ### A dark engine (R136, R148) -/

/-- R148: no run, no tether stream and no entry. -/
structure Engine.Dark (e : Engine) : Prop where
  run : e.run = none
  stream : e.stream = none
  keys : ∀ p : Fin 4, e.places[p].key? = none

theorem Engine.Dark.lookup {e : Engine} (h : e.Dark) (k : Key) : e.lookup k = none :=
  List.find?_eq_none.mpr fun p _ => by rw [h.keys p]; simp

theorem Engine.dropEntries_keys (e : Engine) (hit : Source → Bool) (p : Fin 4) (h : e.places[p].key? = none ∨ ∀ x, hit x = true) :
    (e.dropEntries hit).places[p].key? = none := by
  have place : (e.dropEntries hit).places[p] = (e.places[p]).drop hit := by simp [Engine.dropEntries]
  rw [place]
  generalize e.places[p] = q at h
  cases q with
  | empty => rfl
  | discarding => rfl
  | filling k d n =>
    rcases h with absent | all
    · cases absent
    · simp [Place.drop, all, Place.key?]
  | valid k d =>
    rcases h with absent | all
    · cases absent
    · simp [Place.drop, all, Place.key?]

theorem Engine.Dark.dropEntries {e : Engine} (h : e.Dark) (hit : Source → Bool) : (e.dropEntries hit).Dark :=
  ⟨h.run, h.stream, fun p => e.dropEntries_keys hit p (.inl (h.keys p))⟩

theorem State.answerLane_of (s : State) (f : LaneRead → List Byte) : ∃ l, s.answerLane f = { s with link := l } := by
  unfold State.answerLane
  split
  · exact ⟨s.link, rfl⟩
  · exact ⟨_, rfl⟩

/-- R148: CLEAR_BUFFER leaves a dark engine. -/
theorem State.clearEngine_of (s : State) : ∃ e l, s.clearEngine = { s with engine := e, link := l } ∧ e.Dark := by
  have keys (p : Fin 4) := s.engine.dropEntries_keys (fun _ => true) p (.inr fun _ => rfl)
  unfold State.clearEngine State.endRun
  dsimp only
  split
  · next none => exact ⟨_, s.link, rfl, none, rfl, keys⟩
  · next r _ =>
    cases r.client with
    | tether => exact ⟨_, s.link, rfl, rfl, rfl, keys⟩
    | lane =>
      obtain ⟨l, answered⟩ := State.answerLane_of
        ({ s.dropEntries fun _ => true with engine := { (s.dropEntries fun _ => true).engine with run := none } } : State) LaneRead.zeros
      dsimp only
      rw [answered]
      exact ⟨_, l, rfl, rfl, rfl, keys⟩

/-- R136: with every view UNMAPPED a dark engine answers the reads of its lane with zeros. -/
theorem State.engineActs_of_dark (n : Nat) (s : State) (dark : s.engine.Dark) (unmapped : ∀ v : Fin 4, s.windows.views[v] = none) :
    ∃ l, s.engineActs n = { s with link := l } := by
  induction n generalizing s with
  | zero => exact ⟨s.link, rfl⟩
  | succ n ih =>
    have pick : s.engineAct = s.pickRun := by rw [State.engineAct, dark.run]
    cases lane : s.link.develop with
    | nil =>
      have wants : s.streamWants = none := by rw [State.streamWants, dark.stream]
      have none : s.engineAct = none := by rw [pick, State.pickRun, lane, wants]
      exact ⟨s.link, by rw [State.engineActs, none]⟩
    | cons r rest =>
      have void : s.laneRun r = none := by rw [State.laneRun, unmapped]
      have act : s.engineAct = some (s.answerLane LaneRead.zeros) := by rw [pick, State.pickRun, lane]; dsimp only; rw [void]
      obtain ⟨l, answered⟩ := s.answerLane_of LaneRead.zeros
      rw [answered] at act
      obtain ⟨l', acts⟩ := ih { s with link := l } dark unmapped
      exact ⟨l', by rw [State.engineActs, act]; exact acts⟩

/-! ### The freeing of every record (R28) -/

theorem State.freeShot_dark (s : State) (i : Fin 48) (h : s.engine.Dark) : (s.freeShot i).engine.Dark := by
  cases used : s.record i with
  | none => rw [s.freeShot_of_free i used]; exact h
  | some x =>
    have dropped := State.dropFreedShot_of_noRun { s with pool := { s.pool with free := s.pool.free ++ x.pages } } i x.number
      fun r hr => by rw [h.run] at hr; cases hr
    have engine : (s.freeShot i).engine = s.engine.dropEntries (Source.isShot i x.number) := by
      rw [s.freeShot_of_used i x used]
      show (s.disowned i x).engine = _
      rw [State.disowned, State.dropItemPages_engine, dropped]
      rfl
    rw [engine]
    exact h.dropEntries _

/-- What the freeing of different records leaves. -/
structure State.Freed (s t : State) (l : List (Fin 48)) : Prop where
  steady : s.Steady t
  aside : s.Aside t
  apart : s.Apart t
  dark : s.engine.Dark → t.engine.Dark
  record : ∀ j, t.record j = if j ∈ l then none else s.record j
  counter : t.shots.counter = s.shots.counter
  pool : t.pool = { s.pool with free := s.pool.free ++ l.flatMap fun j => pagesOf (s.record j) }

theorem State.freed_foldl (l : List (Fin 48)) (s : State) (nodup : l.Nodup) : s.Freed (l.foldl State.freeShot s) l := by
  induction l generalizing s with
  | nil => exact ⟨.refl s, .refl s, .refl s, id, fun _ => rfl, rfl, by simp⟩
  | cons i l ih =>
    obtain ⟨fresh, nodup⟩ := List.nodup_cons.mp nodup
    have rest := ih (s.freeShot i) nodup
    have kept (j : Fin 48) (h : j ∈ l) : (s.freeShot i).record j = s.record j :=
      (s.freeShot_record i j).trans (if_neg fun (e : j = i) => fresh (e ▸ h))
    refine ⟨(s.steady_freeShot i).trans rest.steady, (s.aside_freeShot i).trans rest.aside, (s.apart_freeShot i).trans rest.apart,
      fun h => rest.dark (s.freeShot_dark i h), fun j => ?_, rest.counter.trans (s.freeShot_counter i), ?_⟩
    · rw [List.foldl_cons, rest.record, s.freeShot_record]
      by_cases first : j = i
      · simp [first]
      · simp [first]
    · have pages : (l.flatMap fun j => pagesOf ((s.freeShot i).record j)) = l.flatMap fun j => pagesOf (s.record j) :=
        List.flatMap_congr fun j h => by rw [kept j h]
      rw [List.foldl_cons, rest.pool, pages, s.freeShot_pool, List.flatMap_cons]
      exact congrArg (fun f => ({ s.pool with free := f } : Pool)) (List.append_assoc _ _ _)

/-- R28: what CLEAR_BUFFER leaves of a state. -/
structure State.Cleared (s t : State) : Prop where
  within : s.Within t
  windows : t.windows = { s.windows with views := Vector.replicate 4 none }
  lens : t.lens = s.lens
  intake : t.intake = { s.intake with frame := none }
  row : t.phase.row = none
  release : t.release = { s.release with fireCount := 0, singlePending := false, waiting := none, shotTimer := none }
  focus : t.focus = s.focus
  tport : ({ t.tport with raw := s.tport.raw } : TetherPort) = s.detachItem.tport
  dark : t.engine.Dark
  record : ∀ j, t.record j = none
  preList : t.shots.preList = []
  counter : t.shots.counter = s.shots.counter
  pool : t.pool = { s.pool with free := s.pool.free ++ s.recordPages, reservation := 0 }
  queue : t.queue = { urgent := [], normal := [] }

/-- R28, R75: what stands before the engine and the records are cleared. -/
def State.stopped (s : State) : State := s.clearQueue.clearViews.clearFrame.clearRelease

/-- What `State.stopped` has changed, but for the phase-detection unit. -/
structure State.Stopped (s t : State) : Prop where
  mem : t.mem = s.mem
  req : t.req = s.req
  windows : t.windows = { s.windows with views := Vector.replicate 4 none }
  lens : t.lens = s.lens
  intake : t.intake = { s.intake with frame := none }
  row : t.phase.row = none
  release : t.release = { s.release with fireCount := 0, singlePending := false, waiting := none, shotTimer := none }
  focus : t.focus = s.focus
  tport : t.tport = s.detachItem.tport
  counter : t.shots.counter = s.shots.counter
  pool : t.pool = { s.pool with reservation := 0 }
  queue : t.queue = { urgent := [], normal := [] }
  record : ∀ j, t.record j = (s.record j).map fun x => { x with views := 0 }

theorem State.stopped_of (s : State) : s.Stopped s.stopped := by
  have record (s : State) (j : Fin 48) : s.clearViews.record j = (s.record j).map fun x => { x with views := 0 } :=
    Vector.getElem_map _ _
  have recordA := record s.clearQueue
  have queueA : s.clearQueue = { s with tport := s.detachItem.tport, queue := { urgent := [], normal := [] } } := rfl
  unfold State.stopped
  rw [queueA] at recordA ⊢
  generalize hp : s.detachItem.tport = p at recordA
  obtain ⟨x, cleared, counter⟩ : ∃ x, State.clearViews { s with tport := p, queue := { urgent := [], normal := [] } } = { s with
      tport := p, queue := { urgent := [], normal := [] }
      windows := { s.windows with views := Vector.replicate 4 none }, shots := x } ∧ x.counter = s.shots.counter := ⟨_, rfl, rfl⟩
  rw [cleared] at recordA ⊢
  exact ⟨rfl, rfl, rfl, rfl, rfl, rfl, rfl, rfl, hp.symm, counter, rfl, rfl, recordA⟩

theorem State.clearAll_cleared (s : State) : s.Cleared s.clearAll := by
  have within := s.within_clearAll
  have halted := s.stopped_of
  have rawA : s.detachItem.tport.raw = s.tport.raw := rfl
  have all : s.clearAll = s.stopped.clearEngine.clearRecords := rfl
  rw [all] at within ⊢
  generalize s.stopped = A at halted within
  obtain ⟨e, l, cleared, dark⟩ := A.clearEngine_of
  rw [cleared] at within ⊢
  have pages (j : Fin 48) : pagesOf (A.record j) = pagesOf (s.record j) := by
    rw [halted.record]
    cases s.record j <;> rfl
  have free : (List.finRange 48).flatMap (fun j => pagesOf (A.record j)) = s.recordPages := List.flatMap_congr fun j _ => pages j
  have freed := State.freed_foldl (List.finRange 48) { A with engine := e, link := l } (List.nodup_finRange 48)
  unfold State.clearRecords at within ⊢
  dsimp only at within ⊢
  generalize (List.finRange 48).foldl State.freeShot { A with engine := e, link := l } = C at freed within
  refine ⟨within, freed.steady.windows.trans halted.windows, freed.steady.lens.trans halted.lens, freed.aside.intake.trans halted.intake,
    (congrArg PhaseUnit.row freed.aside.phase :).trans halted.row, freed.aside.release.trans halted.release, freed.aside.focus.trans halted.focus, ?_,
    freed.dark dark, fun j => (freed.record j).trans (if_pos (List.mem_finRange j)), rfl, freed.counter.trans halted.counter, ?_,
    freed.apart.queue.trans halted.queue⟩
  · rw [← rawA, ← halted.tport]
    exact freed.apart.tport
  · refine freed.pool.trans ?_
    show ({ A.pool with free := A.pool.free ++ (List.finRange 48).flatMap fun j => pagesOf (A.record j) } : Pool) = _
    rw [free, halted.pool]

/-! ### What follows in STANDBY (R56) -/

/-- R56, R57, R64: in STANDBY nothing waits and no live trigger falls due. -/
theorem State.updateRelease_of_standby (s old : State) (now : s.releaseStateNow = .standby) :
    s.updateRelease old = { s with release := { s.release with state := .standby, waiting := none, liveTimer := none } } := by
  have derived : s.deriveRelease old = { s with release := { s.release with state := .standby, waiting := none, liveTimer := none } } := by
    rw [State.deriveRelease, now]
    rfl
  rw [State.updateRelease, derived]
  rfl

theorem State.settle_of_standby (s old : State) (half : s.halfPress = false) (pending : s.release.singlePending = false)
    (count : s.release.fireCount = 0) (live : s.tables.live.enabled = false) (queue : s.queue.order = []) (dark : s.engine.Dark)
    (unmapped : ∀ v : Fin 4, s.windows.views[v] = none) (item : s.tport.item.map (·.step) ≠ some .waitWord) :
    ∃ l, s.settle old = { s.deriveFocus with
      release := { s.release with state := .standby, waiting := none, liveTimer := none }, link := l } := by
  have now : s.deriveFocus.releaseStateNow = .standby := by
    refine (State.releaseStateNow_of_unpressed s.deriveFocus half pending count).trans (if_neg ?_)
    rw [show s.deriveFocus.tables.live.enabled = s.tables.live.enabled from rfl, live]
    exact Bool.false_ne_true
  obtain ⟨W, hW⟩ : ∃ W : State, W = { s.deriveFocus with
    release := { s.release with state := .standby, waiting := none, liveTimer := none } } := ⟨_, rfl⟩
  have updated : s.deriveFocus.updateRelease old = W := (State.updateRelease_of_standby s.deriveFocus old now).trans hW.symm
  obtain ⟨l, acts⟩ := W.engineActs_of_dark 128 (by rw [hW]; exact dark) (by rw [hW]; exact unmapped)
  have itemW : ({ W with link := l } : State).tport.item.map (·.step) ≠ some .waitWord := by rw [hW]; exact item
  rw [State.settle_eq, updated, State.serveOut, W.takeNext_of_busy (.inr (by rw [hW]; exact queue))]
  unfold State.engineSettle
  rw [acts, State.resumeUnit_of_quiet _ itemW, hW]
  exact ⟨l, rfl⟩

/-! ### CLEAR_BUFFER (R190) -/

/-- R190: what CLEAR_BUFFER does beside what it clears, by the port's item. -/
theorem State.reqClearBuffer_of (s A : State) (slot : Fin 8) (hA : A = s.clearAll) :
    (A.tport.item = none → s.reqClearBuffer slot = (A.complete slot .done (results [A.pool.free.length, s.usedRecords])).settle s) ∧
      ∀ it, A.tport.item = some it → s.reqClearBuffer slot = (A.askCut (.clearBuffer slot s.usedRecords)).settle s := by
  subst hA
  unfold State.reqClearBuffer
  refine ⟨fun none => ?_, fun it item => ?_⟩
  · dsimp only
    rw [none]
  · dsimp only
    rw [item]

/-- What stands when CLEAR_BUFFER's effects have been followed, with the request unit and the port as they then are. -/
theorem State.Cleared.settled {s A : State} (cleared : s.Cleared A) (E old s0 : State) (q : RequestUnit) (p : TetherPort)
    (hE : E = { A with req := q, tport := p }) (half : s.halfPress = false) (live : s.tables.live.enabled = false)
    (item : p.item.map (·.step) ≠ some .waitWord) (t : State) (ht : t = (E.settle old).finishEvent s0) :
    t.lens = s.lens ∧
      t.windows = { s.windows with views := Vector.replicate 4 none } ∧ t.intake = { s.intake with frame := none } ∧
      t.phase.row = none ∧ (∀ i, t.record i = none) ∧ t.shots.preList = [] ∧ t.shots.counter = s.shots.counter ∧
      t.pool = { s.pool with free := s.pool.free ++ s.recordPages, reservation := 0 } ∧ t.queue.order = [] ∧
      t.release.fireCount = 0 ∧ t.release.singlePending = false ∧ t.release.waiting = none ∧ t.release.state = .standby ∧
      t.release.shotTimer = none ∧ t.engine.run = none ∧ t.engine.stream = none ∧ (∀ k, t.engine.lookup k = none) ∧
      t.tport = p := by
  have tables := cleared.within.tables
  have halfE : E.halfPress = false := by
    have releaseE : E.release = A.release := by rw [hE]
    have tablesE : E.tables = A.tables := by rw [hE]
    rw [State.halfPress, State.fullPress, releaseE, tablesE, cleared.release, tables]
    exact half
  obtain ⟨l, settled⟩ := E.settle_of_standby old halfE (by rw [hE]; exact congrArg ReleaseUnit.singlePending cleared.release)
    (by rw [hE]; exact congrArg ReleaseUnit.fireCount cleared.release) (by rw [hE]; exact (congrArg (·.live.enabled) tables).trans live)
    (by rw [hE]; exact congrArg TetherQueue.order cleared.queue) (by rw [hE]; exact cleared.dark)
    (fun v => by
      have views : E.windows.views = Vector.replicate 4 none := by rw [hE]; exact congrArg Windows.views cleared.windows
      rw [views]
      simp)
    (by rw [hE]; exact item)
  rw [settled] at ht
  have release : t.release = { E.release with state := .standby, waiting := none, liveTimer := none } := by rw [ht]; rfl
  have engine : t.engine = A.engine := by rw [ht, hE]; rfl
  have releaseE : E.release = { s.release with fireCount := 0, singlePending := false, waiting := none, shotTimer := none } := by
    rw [hE]
    exact cleared.release
  rw [releaseE] at release
  refine ⟨by rw [ht, hE]; exact cleared.lens, by rw [ht, hE]; exact cleared.windows, by rw [ht, hE]; exact cleared.intake,
    by rw [ht, hE]; exact cleared.row, fun j => by rw [ht, hE]; exact cleared.record j, by rw [ht, hE]; exact cleared.preList,
    by rw [ht, hE]; exact cleared.counter, by rw [ht, hE]; exact cleared.pool, ?_, by rw [release], by rw [release], by rw [release],
    by rw [release], by rw [release], by rw [engine]; exact cleared.dark.run, by rw [engine]; exact cleared.dark.stream,
    fun k => by rw [engine]; exact cleared.dark.lookup k, by rw [ht, hE]; rfl⟩
  rw [ht, hE]
  exact congrArg TetherQueue.order cleared.queue

/-- Settles O59: by what is cleared, what follows in STANDBY, and whether an item is on the port. -/
theorem clearBufferEmptiesTheBuffer : Obligations.ClearBufferEmptiesTheBuffer := by
  unfold Obligations.ClearBufferEmptiesTheBuffer
  intro s slot tag hc half live port
  have performed := State.perform_clearBuffer (s.begun slot (kindCode 18) tag []) slot (putArgs s.req.slots[slot].args [])
  have cleared := (s.begun slot (kindCode 18) tag []).clearAll_cleared
  obtain ⟨A, hA⟩ : ∃ A, A = (s.begun slot (kindCode 18) tag []).clearAll := ⟨_, rfl⟩
  rw [← hA] at cleared
  obtain ⟨ofNone, ofItem⟩ := State.reqClearBuffer_of _ A slot hA
  have state : A.tport.state = s.tport.state := (congrArg TetherPort.state cleared.tport :)
  have item : A.tport.item = s.tport.item.map fun it => { it with attached := false } := (congrArg TetherPort.item cleared.tport :)
  rcases port with none | ⟨it, held, sending, underWay⟩
  · have noItem : A.tport.item = Option.none := by rw [item, none]; rfl
    have free : A.pool.free.length = s.pool.free.length + s.recordPages.length := by
      rw [cleared.pool]
      exact List.length_append
    have effect := performed.trans (ofNone noItem)
    rw [free] at effect
    obtain ⟨t, next, served, -⟩ := s.settled_effect slot 18 tag [] .done _ A _ hc cleared.within effect
    have left := (Host.Outcome.next.inj next).symm.trans (s.command_settled slot 18 tag [] .done _ A _ hc effect)
    obtain ⟨lens, windows, intake, row, record, preList, counter, pool, queue, count, pending, waiting, standby, timer, run, stream, lookup, tport⟩ :=
      cleared.settled _ _ s _ A.tport rfl half live (by rw [noItem]; simp) t left
    obtain ⟨-, backdrop, others, causes⟩ := id served
    exact ⟨t, next, backdrop, others, lens, windows, intake, row, record, preList, counter, pool, queue, count, pending, waiting, standby,
      timer, run, stream, lookup, (congrArg TetherPort.state tport).trans state, causes,
      fun _ => ⟨(congrArg TetherPort.item tport).trans noItem, served⟩, fun it held => by rw [none] at held; cases held⟩
  · obtain ⟨it', hit⟩ : ∃ it' : Item, it' = { it with attached := false } := ⟨_, rfl⟩
    have detached : A.tport.item = some it' := by rw [item, held, hit]; rfl
    have effect := performed.trans (ofItem it' detached)
    have asked := A.askCut_of_sending (.clearBuffer slot s.usedRecords) it' (state.trans sending) detached (by rw [hit]; exact underWay)
    obtain ⟨E, hE⟩ : ∃ E, E = A.askCut (.clearBuffer slot s.usedRecords) := ⟨_, rfl⟩
    obtain ⟨p, hp⟩ : ∃ p : TetherPort, p = { A.tport with item := some { it' with cut := it'.cut ++ [.clearBuffer slot s.usedRecords] } } := ⟨_, rfl⟩
    rw [← hE, ← hp] at asked
    rw [show (s.begun slot (kindCode 18) tag []).usedRecords = s.usedRecords from rfl, ← hE] at effect
    have withinE : A.Within E := by
      rw [asked]
      exact .of_req A.backdrop_refl rfl
    obtain ⟨t, next, backdrop, others, taken, kept, causes, left⟩ :=
      s.command_unfinished slot 18 tag [] E _ hc (cleared.within.trans withinE) effect
    have unwaiting : p.item.map (·.step) ≠ some .waitWord := by
      rw [hp, hit]
      intro wait
      rw [show it.step = .waitWord from Option.some.inj wait] at underWay
      cases underWay
    obtain ⟨lens, windows, intake, row, record, preList, counter, pool, queue, count, pending, waiting, standby, timer, run, stream, lookup, tport⟩ :=
      cleared.settled E _ s A.req p asked half live unwaiting t left
    refine ⟨t, next, backdrop, others, lens, windows, intake, row, record, preList, counter, pool, queue, count, pending, waiting, standby,
      timer, run, stream, lookup, (congrArg TetherPort.state tport).trans (by rw [hp]; exact state), causes,
      fun noItem => by (rw [noItem] at held; cases held), fun other same => ?_⟩
    rw [held] at same
    cases same
    exact ⟨(congrArg TetherPort.item tport).trans (by rw [hp, hit]), taken, kept⟩

end Sys2Proof.Machine
end

section
/-! SUPPORT. The ordinary lane: the service of its oldest waiting transfer. -/

namespace Sys2Proof.Machine

/-! ### Look-up and outcome (R34) -/

theorem exec_ordinaryLaneService (s t : State) (served : s.serve = t) : exec .ordinaryLaneService s = .next (t.finishEvent s) := by
  rw [← served]
  rfl

theorem State.serve_of (s : State) (k : Nat) (e : LaneEntry) (oldest : waitingAt s.link.ordinary = some k)
    (entry : s.link.ordinary[k]? = some e) : s.serve = (s.lookUp e.transfer).1.outcome k e.transfer (s.lookUp e.transfer).2 := by
  rw [State.serve, oldest]
  dsimp only
  rw [entry]

section LookUp

variable (s : State) (t : Transfer)

theorem State.lookUp_of_malformed (h : malformed t.addr t.count = true) : s.lookUp t = (s.raise .voidAccess, none) := if_pos h

theorem State.lookUp_of_write (addr : BitVec 29) (bytes : List (Option Byte)) (h : malformed addr (bytes.length / 8) = false) :
    s.lookUp (.write addr bytes) = s.writeTarget (byteAddr addr) :=
  (if_neg (by rw [show malformed (Transfer.write addr bytes).addr (Transfer.write addr bytes).count = false from h]; exact Bool.false_ne_true)).trans
    (if_pos rfl)

theorem State.lookUp_of_read (tag : BitVec 5) (addr : BitVec 29) (count : Nat) (h : malformed addr count = false) :
    s.lookUp (.read tag addr count) = s.readTarget (byteAddr addr) :=
  (if_neg (by rw [show malformed (Transfer.read tag addr count).addr (Transfer.read tag addr count).count = false from h]; exact Bool.false_ne_true)).trans
    (if_neg Bool.false_ne_true)

/-- R37: a transfer of the direct window is issued at its link address. -/
theorem State.lookUp_direct (h : malformed t.addr t.count = false) (direct : byteAddr t.addr < 0x80000000) :
    s.lookUp t = (s, some (byteAddr t.addr, if t.isWrite then .slots else .none)) := by
  have window : windowOf (byteAddr t.addr) = .direct := if_pos direct
  cases t with
  | write addr bytes =>
    rw [s.lookUp_of_write addr bytes h, State.writeTarget, show windowOf (byteAddr addr) = .direct from window]
    rfl
  | read tag addr count =>
    rw [s.lookUp_of_read tag addr count h, State.readTarget, show windowOf (byteAddr addr) = .direct from window]
    rfl

end LookUp

theorem State.outcome_issued (s : State) (k : Nat) (t : Transfer) (off : Nat) (n : Notice) :
    s.outcome k t (some (off, n)) = { s with link := { s.link with
      ordinary := s.link.ordinary.modify k fun e => { e with service := .issued off n } } } := rfl

theorem State.outcome_dropped (s : State) (k : Nat) (addr : BitVec 29) (bytes : List (Option Byte)) :
    s.outcome k (.write addr bytes) none = { s with link := { s.link with
      ordinary := s.link.ordinary.eraseIdx k, credits := s.link.credits + 1 } } := rfl

/-- R34: reads that wait send nothing. -/
theorem flushReads_of_waiting (l : List LaneEntry) (h : ∀ e ∈ l, e.service = .waiting) : flushReads l = (l, []) := by
  induction l with
  | nil => rfl
  | cons e l ih =>
    obtain ⟨waits, rest⟩ := List.forall_mem_cons.mp h
    obtain ⟨transfer, service⟩ := e
    cases transfer with
    | write addr bytes => rw [flushReads, ih rest]
    | read tag addr count => rw [show service = .waiting from waits, flushReads]

/-- R31, R34: a read at the head of the lane whose data are ready is answered. -/
theorem State.flush_ready (s : State) (tag : BitVec 5) (addr : BitVec 29) (count : Nat) (service : Service) (rest : List LaneEntry)
    (data : List Byte) (lane : s.link.ordinary = { transfer := .read tag addr count, service := service } :: rest)
    (waits : ∀ e ∈ rest, e.service = .waiting) :
    (s.setOrdinary (setService s.link.ordinary 0 (.ready data))).flush = { s with link := { s.link with
      ordinary := rest, sent := s.link.sent ++ [{ tag := tag, data := data }], credits := s.link.credits + 1 } } := by
  have set : setService s.link.ordinary 0 (.ready data) = { transfer := .read tag addr count, service := .ready data } :: rest := by
    rw [lane]
    rfl
  have out : flushReads ({ transfer := .read tag addr count, service := .ready data } :: rest) = (rest, [{ tag := tag, data := data }]) := by
    rw [flushReads, flushReads_of_waiting rest waits]
  rw [set, State.flush, State.setOrdinary]
  dsimp only
  rw [out]
  rfl

/-- Settles O16: by the look-up of the target, and its outcome. -/
theorem ordinaryTransfersAreServed : Obligations.OrdinaryTransfersAreServed := by
  unfold Obligations.OrdinaryTransfersAreServed
  refine ⟨fun s k tr oldest entry formed direct => ?_, fun s k addr bytes cause oldest entry dropped => ?_,
    fun s tag addr count rest lane waits void => ?_⟩
  · have served := s.serve_of k _ oldest entry
    rw [s.lookUp_direct tr formed direct, State.outcome_issued] at served
    exact ⟨_, exec_ordinaryLaneService s _ served, rfl, (BitVec.or_zero (x := s.req.causes)).symm⟩
  · have served := s.serve_of k _ oldest entry
    have target : s.lookUp (.write addr bytes) = (s.raise cause, none) := by
      rcases dropped with ⟨bad, rfl⟩ | ⟨formed, window⟩
      · exact s.lookUp_of_malformed (.write addr bytes) bad
      · rw [s.lookUp_of_write addr bytes formed, State.writeTarget]
        rcases window with ⟨void, rfl⟩ | ⟨capture, noFrame, rfl⟩ | ⟨v, view, unmapped, rfl⟩
        · rw [void]
        · rw [capture]
          dsimp only
          rw [State.captureWrite, noFrame]
        · rw [view]
          dsimp only
          rw [State.viewWriteTarget, unmapped]
    rw [target, State.outcome_dropped] at served
    exact ⟨_, exec_ordinaryLaneService s _ served, rfl, rfl⟩
  · have oldest : waitingAt s.link.ordinary = some 0 := by rw [lane]; rfl
    have served := s.serve_of 0 _ oldest (by rw [lane]; rfl)
    have target : s.lookUp (.read tag addr count) = (s.raise .voidAccess, none) := by
      by_cases bad : malformed addr count = true
      · exact s.lookUp_of_malformed (.read tag addr count) bad
      · rw [s.lookUp_of_read tag addr count (Bool.eq_false_iff.mpr bad), State.readTarget, void.resolve_left bad]
    have zeros : (s.raise .voidAccess).outcome 0 (.read tag addr count) none =
        ((s.raise .voidAccess).setOrdinary (setService (s.raise .voidAccess).link.ordinary 0 (.ready (zeroBeats count)))).flush := rfl
    rw [target, zeros, (s.raise .voidAccess).flush_ready tag addr count .waiting rest _ lane waits] at served
    exact ⟨_, exec_ordinaryLaneService s _ served, rfl, rfl⟩

end Sys2Proof.Machine
end

section
/-! SUPPORT. The taking of a post: what the performance of a request leaves of every slot copy. -/

namespace Sys2Proof.Machine

/-! ### Slot copies and marks (R181 to R184) -/

/-- R181, R183: a slot copy's kind, tag and arguments stay, with those of its request, and it does not become FREE. -/
structure Slot.Stands (a b : Slot) : Prop where
  kind : b.kind = a.kind
  tag : b.tag = a.tag
  args : b.args = a.args
  used : a.state ≠ .free → b.state ≠ .free
  taken : b.taken.map (fun q => (q.kind, q.tag, q.args)) = a.taken.map fun q => (q.kind, q.tag, q.args)

theorem Slot.Stands.refl (a : Slot) : a.Stands a := ⟨rfl, rfl, rfl, id, rfl⟩

theorem Slot.Stands.trans {a b c : Slot} (h : a.Stands b) (k : b.Stands c) : a.Stands c :=
  ⟨k.kind.trans h.kind, k.tag.trans h.tag, k.args.trans h.args, k.used ∘ h.used, k.taken.trans h.taken⟩

theorem Slot.stands_withResult (a : Slot) (code : ResultCode) (beat : Beat) : a.Stands (a.withResult code beat) :=
  ⟨rfl, rfl, rfl, fun _ => SlotState.noConfusion, by rw [Slot.withResult, Option.map_map]; rfl⟩

/-- The DRAM, the slot copies and the marks through what is done within an event. -/
structure State.Copies (s t : State) : Prop where
  mem : t.mem = s.mem
  slots : ∀ i : Fin 8, s.req.slots[i].Stands t.req.slots[i]
  marks : s.req.marks ⊆ t.req.marks

theorem State.Copies.of_req {s t : State} (mem : t.mem = s.mem) (req : t.req = s.req) : s.Copies t :=
  ⟨mem, fun i => by rw [req]; exact .refl _, by rw [req]; exact List.Subset.refl _⟩

theorem State.Copies.refl (s : State) : s.Copies s := .of_req rfl rfl

theorem State.Copies.trans {s t u : State} (h : s.Copies t) (k : t.Copies u) : s.Copies u :=
  ⟨k.mem.trans h.mem, fun i => (h.slots i).trans (k.slots i), List.Subset.trans h.marks k.marks⟩

theorem State.Copies.after {s t u : State} (k : t.Copies u) (mem : t.mem = s.mem) (req : t.req = s.req) : s.Copies u :=
  (State.Copies.of_req mem req).trans k

theorem State.Copies.ite {s t u : State} (p : Prop) [Decidable p] (ht : s.Copies t) (hu : s.Copies u) : s.Copies (if p then t else u) := by
  split
  · exact ht
  · exact hu

theorem State.Copies.foldl {α : Type} {f : State → α → State} (hf : ∀ (s : State) (a : α), s.Copies (f s a)) (l : List α) (s : State) :
    s.Copies (l.foldl f s) := by
  induction l generalizing s with
  | nil => exact .refl s
  | cons a l ih => exact (hf s a).trans (ih _)

theorem State.Copies.of_steady {s t : State} (h : s.Steady t) (marks : s.req.marks ⊆ t.req.marks) : s.Copies t :=
  ⟨h.mem, fun i => by rw [h.slots]; exact .refl _, marks⟩

theorem State.Beyond.copies {s t : State} (h : s.Beyond t) : s.Copies t := .of_req h.mem h.req

section Operations

variable (s : State)

theorem State.copies_raise (c : Cause) : s.Copies (s.raise c) :=
  ⟨rfl, fun _ => .refl _, List.subset_append_left _ _⟩

theorem State.copies_mark (r : ReportRecord) : s.Copies (s.mark r) :=
  ⟨rfl, fun _ => .refl _, List.subset_append_left _ _⟩

theorem State.copies_complete (slot : Fin 8) (code : ResultCode) (beat : Beat) : s.Copies (s.complete slot code beat) := by
  have set : s.Copies (s.setSlot slot (s.req.slots[slot].withResult code beat)) := by
    refine ⟨rfl, fun i => ?_, List.Subset.refl _⟩
    by_cases same : i = slot
    · rw [same, show (s.setSlot slot (s.req.slots[slot].withResult code beat)).req.slots[slot] = s.req.slots[slot].withResult code beat from
        Vector.getElem_set_self slot.isLt]
      exact Slot.stands_withResult _ _ _
    · rw [show (s.setSlot slot (s.req.slots[slot].withResult code beat)).req.slots[i] = s.req.slots[i] from
        Vector.getElem_set_ne slot.isLt i.isLt fun e => same (Fin.ext e.symm)]
      exact .refl _
  exact (set.trans (State.copies_mark _ _)).trans (State.copies_raise _ _)

theorem State.copies_settle (old : State) : s.Copies (s.settle old) := .of_steady (s.steady_settle old) (s.marks_settle old)

theorem State.copies_freeShot (i : Fin 48) : s.Copies (s.freeShot i) := .of_req (s.steady_freeShot i).mem (s.freeShot_req i)

theorem State.copies_evict (i : Fin 48) : s.Copies (s.evict i) := (s.copies_freeShot i).trans (State.copies_raise _ _)

theorem State.copies_depthCheck : s.Copies s.depthCheck := .foldl State.copies_evict _ s

theorem State.copies_modifyShot (i : Fin 48) (f : Shot → Shot) : s.Copies (s.modifyShot i f) := .of_req rfl rfl

theorem State.copies_freeingCheck (i : Fin 48) : s.Copies (s.freeingCheck i) := by
  unfold State.freeingCheck
  split
  · exact .refl s
  · split
    · exact .ite _ (s.copies_freeShot i) (.refl s)
    · exact .ite _ (s.copies_freeShot i) (.refl s)
    · exact .ite _ s.copies_depthCheck (.refl s)
    · exact .refl s

theorem State.copies_enqueue (i : Fin 48) (b : Bool) : s.Copies (s.enqueue i b) := by
  unfold State.enqueue
  split
  · split
    · exact (State.copies_mark _ _).after rfl rfl
    · exact .refl s
  · exact .refl s

theorem State.copies_homingStep (g : Group) (b : Nat) : s.Copies (s.homingStep g b) := by
  have set (d : GroupDrive) : s.Copies (s.setGroup g d) := by cases g <;> exact .of_req rfl rfl
  unfold State.homingStep
  split
  · exact .refl s
  · exact .ite _ ((set _).trans (State.copies_raise _ _)) (set _)

theorem State.copies_homingEnd : s.Copies s.homingEnd := by
  have lens : s.Copies { s with lens := { s.lens with homing := none } } := .of_req rfl rfl
  unfold State.homingEnd
  split
  · exact .refl s
  · exact .ite _ (.refl s) (.ite _ ((lens.trans (State.copies_raise _ _)).trans (State.copies_complete _ _ _ _))
      (lens.trans (State.copies_complete _ _ _ _)))

theorem State.copies_handTargets (p : TargetPair) : s.Copies (s.handTargets p) := by
  unfold State.handTargets
  split <;> exact .of_req rfl rfl

theorem State.copies_endItem : s.Copies s.endItem := .of_req rfl rfl

theorem State.copies_answerCut (c : CutBy) : s.Copies (s.answerCut c) := by
  cases c with
  | disable slot => exact s.copies_complete _ _ _
  | clearBuffer slot freed => exact s.copies_complete _ _ _
  | discard | dropTether => exact .refl s

theorem State.copies_endCut (it : Item) (b : Bool) : s.Copies (s.endCut it b) := by
  have returned : s.Copies (s.endItem.returnShot it true) := s.copies_endItem.trans (.ite _ (State.copies_enqueue _ _ _) (.refl _))
  have ported (u : State) (p q : Prop) [Decidable p] [Decidable q] : u.Copies (if p then u.setPort .disabled else if q then u.setPort .halted
    else u.portIdle) := .ite _ (.of_req rfl rfl) (.ite _ (.of_req rfl rfl) (.of_req rfl rfl))
  have raised (u : State) (c : Cause) (p : Prop) [Decidable p] : u.Copies (if p then u.raise c else u) := .ite _ (u.copies_raise c) (.refl u)
  exact (((returned.trans (ported _ _ _)).trans (raised _ _ _)).trans (raised _ _ _)).trans (.foldl State.copies_answerCut _ _)

theorem State.copies_askCut (c : CutBy) : s.Copies (s.askCut c) := by
  have item (u : State) (f : Item → Item) : u.Copies (u.modifyItem f) := .of_req rfl rfl
  unfold State.askCut
  split
  · exact .refl s
  · refine .ite _ ((item s _).trans (State.copies_endCut _ _ _)) (.ite _ (item s _) ?_)
    exact .ite _ ((State.beyond_beginUnit _ _).copies.after rfl rfl) (.of_req rfl rfl)

theorem State.copies_withdraw (r : ShotRef) (c : CutBy) : s.Copies (s.withdraw r c) := by
  have left : s.Copies { s with queue := s.queue.leave r } := .of_req rfl rfl
  exact .ite _ ((State.copies_askCut _ c).after rfl rfl) left

theorem State.copies_leaveBuffer (i : Fin 48) (x : Shot) : s.Copies (s.leaveBuffer i x) := .ite _ (s.copies_freeShot i) (.of_req rfl rfl)

theorem State.copies_discardShot (r : ShotRef) (x : Shot) : s.Copies (s.discardShot r x) := by
  unfold State.discardShot
  split
  · exact .of_req rfl rfl
  · exact (State.copies_leaveBuffer _ _ _).after rfl rfl
  · exact (s.copies_withdraw _ _).trans (State.copies_leaveBuffer _ _ _)
  · exact .refl s

theorem State.copies_dropTether (r : ShotRef) : s.Copies (s.dropTether r) :=
  ((s.copies_withdraw _ _).trans (State.copies_modifyShot _ _ _)).trans (State.copies_freeingCheck _ _)

theorem State.copies_prioritiseShot (r : ShotRef) (x : Shot) (t : TetherPart) : s.Copies (s.prioritiseShot r x t) := by
  unfold State.prioritiseShot
  refine .ite _ ?_ (.refl s)
  split
  · exact (State.copies_mark _ _).after rfl rfl
  · exact .of_req rfl rfl
  · exact .of_req rfl rfl
  · exact .refl s

theorem State.copies_clearAll : s.Copies s.clearAll := by
  have all : s.clearAll = s.stopped.clearEngine.clearRecords := rfl
  have stopped := s.stopped_of
  rw [all]
  generalize s.stopped = A at stopped
  obtain ⟨e, l, cleared, -⟩ := A.clearEngine_of
  rw [cleared]
  have freed : State.Copies { A with engine := e, link := l } (State.clearRecords { A with engine := e, link := l }) := by
    have all : State.Copies { A with engine := e, link := l } ((List.finRange 48).foldl State.freeShot { A with engine := e, link := l }) :=
      .foldl State.copies_freeShot _ _
    unfold State.clearRecords
    dsimp only
    generalize (List.finRange 48).foldl State.freeShot { A with engine := e, link := l } = C at all
    exact all.trans (.of_req rfl rfl)
  exact freed.after stopped.mem stopped.req

end Operations

/-! ### Requests (R183) -/

section Requests

variable (s : State) (slot : Fin 8)

theorem State.copies_refuse (code : ResultCode) : s.Copies (s.refuse slot code) := s.copies_complete slot code 0

theorem State.Copies.done {s t : State} (h : s.Copies t) (slot : Fin 8) (code : ResultCode) (beat : Beat) : s.Copies (t.complete slot code beat) :=
  h.trans (State.copies_complete _ _ _ _)

theorem State.Copies.answered {s t : State} (h : s.Copies t) (slot : Fin 8) (code : ResultCode) (beat : Beat) (old : State) :
    s.Copies ((t.complete slot code beat).settle old) := (h.done slot code beat).trans (State.copies_settle _ _)

theorem State.copies_reqConfigurePool (f l lp : Nat) : s.Copies (s.reqConfigurePool slot f l lp) := by
  have set : s.Copies (s.setPool f l lp) := by
    unfold State.setPool
    exact (State.beyond_dropLive _ _).copies.after rfl rfl
  exact .ite _ (s.copies_refuse _ _) (.ite _ (s.copies_refuse _ _) (set.answered _ _ _ _))

theorem State.copies_reqLoadSettings (table index : Nat) : s.Copies (s.reqLoadSettings slot table index) := by
  unfold State.reqLoadSettings
  split
  · exact s.copies_refuse _ _
  · exact .ite _ (s.copies_refuse _ _) (.of_req rfl rfl)

theorem State.copies_reqSelectCapture (c : Nat) : s.Copies (s.reqSelectCapture slot c) := by
  have falls (i : Fin 4) : s.Copies (({ s with release := { s.release with active := some i } } : State).depthFalls s) := by
    unfold State.depthFalls
    split
    · exact (State.copies_depthCheck _).after rfl rfl
    · exact .of_req rfl rfl
  unfold State.reqSelectCapture
  split
  · exact s.copies_refuse _ _
  · exact (falls _).answered _ _ _ _

theorem State.copies_reqSetFocus (mode sel zone policy : Nat) : s.Copies (s.reqSetFocus slot mode sel zone policy) := by
  have replaced (m : FocusMode) (z : Selection) (k : Fin 12) (p : Bool) : s.Copies (s.replaceFocus m z k p) := by
    unfold State.replaceFocus
    dsimp only
    split <;> exact .of_req rfl rfl
  unfold State.reqSetFocus
  split
  · split
    · exact .ite _ ((replaced _ _ _ _).answered _ _ _ _) (s.copies_refuse _ _)
    · exact s.copies_refuse _ _
  · exact s.copies_refuse _ _

theorem State.copies_reqHomeLens : s.Copies (s.reqHomeLens slot) := by
  have begins : s.Copies (s.startHoming slot) := .of_req rfl rfl
  have started := begins.trans (State.copies_settle _ s)
  have first (u : State) (g : Group) : u.Copies (u.firstHoming s g) := .ite _ (.refl u) (u.copies_homingStep g _)
  exact .ite _ (s.copies_refuse _ _) (.ite _ (s.copies_refuse _ _) (.ite _ (s.copies_refuse _ _)
    ((((started.trans (first _ .g0)).trans (first _ .g1)).trans (State.copies_homingEnd _)).trans (State.copies_settle _ _))))

theorem State.copies_reqMoveLens (target : Nat) : s.Copies (s.reqMoveLens slot target) := by
  have moved (p : TargetPair) : s.Copies (s.moveTo p) := (s.copies_handTargets p).trans (.of_req rfl rfl)
  unfold State.reqMoveLens
  refine .ite _ (s.copies_refuse _ _) ?_
  split
  · exact s.copies_refuse _ _
  · exact .ite _ (s.copies_refuse _ _) (.ite _ (s.copies_refuse _ _) ((moved _).answered _ _ _ _))

theorem State.copies_reqFire (n : Nat) : s.Copies (s.reqFire slot n) := by
  have counted : s.Copies { s with release := { s.release with fireCount := s.release.fireCount + n } } := .of_req rfl rfl
  exact .ite _ (s.copies_refuse _ _) (.ite _ (s.copies_refuse _ _) (counted.answered _ _ _ _))

theorem State.copies_reqMapView (view source shot mode profile stream : Nat) :
    s.Copies (s.reqMapView slot view source shot mode profile stream) := by
  have set (v : Fin 4) (e : Option View) : s.Copies (s.setView v e) := .of_req rfl rfl
  refine .ite _ (s.copies_refuse _ _) (.ite _ (s.copies_refuse _ _) (.ite _ ?_ ((set _ _).done _ _ _)))
  unfold State.mapShot
  split
  · exact s.copies_refuse _ _
  · split
    · exact s.copies_refuse _ _
    · exact .ite _ (((set _ _).trans (State.copies_modifyShot _ _ _)).done _ _ _) (s.copies_refuse _ _)

theorem State.copies_reqUnmapView (view : Nat) : s.Copies (s.reqUnmapView slot view) := by
  have set (v : Fin 4) : s.Copies (s.setView v none) := .of_req rfl rfl
  unfold State.reqUnmapView
  refine .ite _ (s.copies_refuse _ _) ?_
  dsimp only
  split
  · exact s.copies_refuse _ _
  · split
    · exact (set _).done _ _ _
    · exact (((set _).trans (State.copies_modifyShot _ _ _)).trans (State.copies_freeingCheck _ _)).answered _ _ _ _

theorem State.copies_reqReleaseCard (n : Nat) : s.Copies (s.reqReleaseCard slot n) := by
  unfold State.reqReleaseCard
  split
  · exact s.copies_refuse _ _
  · exact .ite _ (((s.copies_modifyShot _ _).trans (State.copies_freeingCheck _ _)).answered _ _ _ _) (s.copies_complete _ _ _)

theorem State.copies_reqProtect (n : Nat) : s.Copies (s.reqProtect slot n) := by
  unfold State.reqProtect
  split
  · exact s.copies_refuse _ _
  · exact .ite _ ((s.copies_modifyShot _ _).done _ _ _) (s.copies_complete _ _ _)

theorem State.copies_reqUnprotect (n : Nat) : s.Copies (s.reqUnprotect slot n) := by
  unfold State.reqUnprotect
  split
  · exact s.copies_refuse _ _
  · exact .ite _ (.ite _ (((s.copies_modifyShot _ _).trans (State.copies_freeingCheck _ _)).answered _ _ _ _)
      (s.copies_complete _ _ _)) (s.copies_complete _ _ _)

theorem State.copies_reqDiscard (n : Nat) : s.Copies (s.reqDiscard slot n) := by
  unfold State.reqDiscard
  split
  · exact s.copies_refuse _ _
  · exact (s.copies_discardShot _ _).answered _ _ _ _

theorem State.copies_reqPrioritise (n : Nat) : s.Copies (s.reqPrioritise slot n) := by
  unfold State.reqPrioritise
  split
  · exact s.copies_refuse _ _
  · split
    · exact (s.copies_prioritiseShot _ _ _).done _ _ _
    · exact s.copies_complete _ _ _

theorem State.copies_reqRequeue (n : Nat) : s.Copies (s.reqRequeue slot n) := by
  unfold State.reqRequeue
  split
  · exact s.copies_refuse _ _
  · exact .ite _ (((s.copies_modifyShot _ _).trans (State.copies_enqueue _ _ _)).answered _ _ _ _) (s.copies_complete _ _ _)

theorem State.copies_reqDropTether (n : Nat) : s.Copies (s.reqDropTether slot n) := by
  unfold State.reqDropTether
  split
  · exact s.copies_refuse _ _
  · exact .ite _ ((s.copies_dropTether _).answered _ _ _ _) (s.copies_complete _ _ _)

theorem State.copies_reqTetherControl (action : Nat) : s.Copies (s.reqTetherControl slot action) := by
  have idle : s.Copies s.portIdle := .of_req rfl rfl
  have disabled : s.Copies (s.setPort .disabled) := .of_req rfl rfl
  unfold State.reqTetherControl
  split
  · exact .ite _ (idle.answered _ _ _ _) (s.copies_complete _ _ _)
  · unfold State.reqDisable
    split
    · exact disabled.done _ _ _
    · exact disabled.done _ _ _
    · exact disabled.done _ _ _
    · exact disabled.done _ _ _
    · exact (s.copies_askCut _).trans (State.copies_settle _ _)
    · exact (s.copies_askCut _).trans (State.copies_settle _ _)
  · exact .ite _ (idle.answered _ _ _ _) (s.copies_complete _ _ _)
  · exact s.copies_complete _ _ _

theorem State.copies_reqClearBuffer : s.Copies (s.reqClearBuffer slot) := by
  have cleared := s.copies_clearAll
  obtain ⟨A, hA⟩ : ∃ A, A = s.clearAll := ⟨_, rfl⟩
  obtain ⟨ofNone, ofItem⟩ := s.reqClearBuffer_of A slot hA
  rw [← hA] at cleared
  cases item : A.tport.item with
  | none =>
    rw [ofNone item]
    exact cleared.answered _ _ _ _
  | some it =>
    rw [ofItem it item]
    exact (cleared.trans (State.copies_askCut _ _)).trans (State.copies_settle _ _)

theorem State.copies_reqClearCauses (v : Nat) : s.Copies (s.reqClearCauses slot v) := by
  have cleared (set : BitVec 20) : s.Copies (s.clearCauseSet set) := ⟨rfl, fun _ => .refl _, List.subset_append_left _ _⟩
  exact .ite _ (s.copies_refuse _ _) ((cleared _).done _ _ _)

theorem State.copies_reqSetMask (v : Nat) : s.Copies (s.reqSetMask slot v) := by
  have masked (m : BitVec 20) : s.Copies (s.replaceMask m) := ⟨rfl, fun _ => .refl _, List.subset_append_left _ _⟩
  exact .ite _ (s.copies_refuse _ _) ((masked _).done _ _ _)

theorem State.copies_perform (kind : Byte) (a : Vector Beat 6) : s.Copies (s.perform slot kind a) := by
  unfold State.perform
  split
  case h_1 => exact s.copies_reqConfigurePool _ _ _ _
  case h_2 => exact s.copies_reqLoadSettings _ _ _
  case h_3 => exact s.copies_reqSelectCapture _ _
  case h_4 => exact s.copies_reqSetFocus _ _ _ _ _
  case h_5 => exact s.copies_reqHomeLens _
  case h_6 => exact s.copies_reqMoveLens _ _
  case h_7 => exact s.copies_reqFire _ _
  case h_8 => exact s.copies_reqMapView _ _ _ _ _ _ _
  case h_9 => exact s.copies_reqUnmapView _ _
  case h_10 => exact s.copies_reqReleaseCard _ _
  case h_11 => exact s.copies_reqProtect _ _
  case h_12 => exact s.copies_reqUnprotect _ _
  case h_13 => exact s.copies_reqDiscard _ _
  case h_14 => exact s.copies_reqPrioritise _ _
  case h_15 => exact s.copies_reqRequeue _ _
  case h_16 => exact s.copies_reqDropTether _ _
  case h_17 => exact s.copies_reqTetherControl _ _
  case h_18 => exact s.copies_reqClearBuffer _
  case h_19 => exact s.copies_reqClearCauses _ _
  case h_20 => exact s.copies_reqSetMask _ _
  case h_21 => exact s.copies_refuse _ _

end Requests

end Sys2Proof.Machine
end

section
/-! SUPPORT. The performance of PASSAGE requests: the hand-over of a write in the request slots, and the drop of a RAW view's entries. -/

namespace Sys2Proof.Machine

/-! ### Bytes of a word (R1) -/

theorem leByte_getLsbD {n : Nat} (w : BitVec n) (j k : Nat) (hk : k < 8) : (leByte w.toNat j).getLsbD k = w.getLsbD (8 * j + k) := by
  rw [leByte, BitVec.getLsbD_ofNat, Nat.testBit_shiftRight]
  simp [hk, BitVec.getLsbD]

theorem testBit_byteMask (i m : Nat) : (0xFF <<< (8 * i)).testBit m = (decide (8 * i ≤ m) && decide (m < 8 * i + 8)) := by
  rw [Nat.testBit_shiftLeft, show 0xFF = 2 ^ 8 - 1 from rfl, Nat.testBit_two_pow_sub_one]
  by_cases low : 8 * i ≤ m
  · have same : (m - 8 * i < 8) = (m < 8 * i + 8) := by simp only [eq_iff_iff]; omega
    simp [low, same]
  · simp [low]

/-- A byte of a word after one of its bytes has been replaced. -/
theorem leByte_setByte {n : Nat} (w : BitVec n) (i j : Nat) (b : Byte) (hi : 8 * i + 8 ≤ n) :
    leByte (setByte w i b).toNat j = if j = i then b else leByte w.toNat j := by
  refine BitVec.eq_of_getLsbD_eq fun k hk => ?_
  rw [leByte_getLsbD _ _ _ hk, setByte, BitVec.getLsbD_or, BitVec.getLsbD_and, BitVec.getLsbD_not, BitVec.getLsbD_ofNat, BitVec.getLsbD_ofNat,
    testBit_byteMask, Nat.testBit_shiftLeft]
  by_cases same : j = i
  · have inside : 8 * i + k < n := by omega
    rw [if_pos same, same]
    simp [inside, hk, BitVec.getLsbD]
  · rw [if_neg same, leByte_getLsbD _ _ _ hk]
    have mask : (decide (8 * i ≤ 8 * j + k) && decide (8 * j + k < 8 * i + 8)) = false := by
      rw [← Bool.decide_and, decide_eq_false_iff_not]
      omega
    have byte : (decide (8 * j + k ≥ 8 * i) && b.toNat.testBit (8 * j + k - 8 * i)) = false := by
      by_cases low : 8 * i ≤ 8 * j + k
      · have beyond : 8 ≤ 8 * j + k - 8 * i := by omega
        rw [Nat.testBit_lt_two_pow (lt_of_lt_of_le b.isLt (Nat.pow_le_pow_right (by decide) beyond)), Bool.and_false]
      · rw [show decide (8 * j + k ≥ 8 * i) = false from decide_eq_false low, Bool.false_and]
    rw [mask, byte]
    by_cases inside : 8 * j + k < n
    · simp [inside]
    · simp [BitVec.getLsbD_of_ge w (8 * j + k) (Nat.not_lt.mp inside)]

/-! ### Slot copies (R181) -/

/-- The byte of a slot copy at an offset of its slot, 0 where no byte is copied. -/
def Slot.byteAt (sl : Slot) (x : Nat) : Byte :=
  if x = 0 then sl.kind
  else if 4 ≤ x ∧ x < 8 then leByte sl.tag.toNat (x - 4)
  else if h : 8 ≤ x ∧ x < 56 then leByte (sl.args[x / 8 - 1]'(by omega)).toNat (x % 8)
  else 0

/-- The offsets of a slot whose bytes are copied. -/
def copied (x : Nat) : Prop := x = 0 ∨ 4 ≤ x ∧ x < 56

theorem Slot.byteAt_kind (sl : Slot) : sl.byteAt 0 = sl.kind := rfl

theorem Slot.byteAt_tag (sl : Slot) (j : Nat) (h : j < 4) : sl.byteAt (4 + j) = leByte sl.tag.toNat j := by
  rw [Slot.byteAt, if_neg (by omega), if_pos (by omega), Nat.add_sub_cancel_left]

theorem Slot.byteAt_args (sl : Slot) (b : Fin 6) (j : Nat) (h : j < 8) : sl.byteAt (8 + 8 * b.val + j) = leByte (sl.args[b]).toNat j := by
  have place : (8 + 8 * b.val + j) / 8 - 1 = b.val := by omega
  have rest : (8 + 8 * b.val + j) % 8 = j := by omega
  rw [Slot.byteAt, if_neg (by omega), if_neg (by omega), dif_pos (by omega), rest]
  simp only [place]
  rfl

/-- R181: an enabled byte reaches its place of the copy and no other. -/
theorem Slot.byteAt_putByte (sl : Slot) (o x : Nat) (b : Byte) (hx : copied x) :
    (sl.putByte o b).byteAt x = if x = o then b else sl.byteAt x := by
  by_cases kind : o = 0
  · rw [Slot.putByte, if_pos kind]
    by_cases same : x = o
    · rw [if_pos same, Slot.byteAt, if_pos (same.trans kind)]
    · have away : x ≠ 0 := fun e => same (e.trans kind.symm)
      rw [if_neg same, Slot.byteAt, Slot.byteAt, if_neg away, if_neg away]
  · by_cases tag : 4 ≤ o ∧ o < 8
    · rw [Slot.putByte, if_neg kind, if_pos tag]
      by_cases here : 4 ≤ x ∧ x < 8
      · have away : x ≠ 0 := by omega
        rw [Slot.byteAt, Slot.byteAt, if_neg away, if_neg away, if_pos here, if_pos here, leByte_setByte _ _ _ _ (by omega)]
        have same : (x - 4 = o - 4) = (x = o) := by simp only [eq_iff_iff]; omega
        simp only [same]
      · rw [if_neg (by omega)]
        unfold Slot.byteAt
        rw [if_neg here, if_neg here]
    · by_cases args : 8 ≤ o ∧ o < 56
      · rw [Slot.putByte, if_neg kind, if_neg tag, dif_pos args]
        by_cases here : 8 ≤ x ∧ x < 56
        · have away : x ≠ 0 := by omega
          have apart : ¬ (4 ≤ x ∧ x < 8) := by omega
          rw [Slot.byteAt, Slot.byteAt, if_neg away, if_neg away, if_neg apart, if_neg apart, dif_pos here, dif_pos here]
          by_cases word : x / 8 = o / 8
          · have same : (x % 8 = o % 8) = (x = o) := by simp only [eq_iff_iff]; omega
            simp only [word, Vector.getElem_set_self]
            rw [leByte_setByte _ _ _ _ (by omega)]
            simp only [same]
          · have other : o / 8 - 1 ≠ x / 8 - 1 := by omega
            rw [Vector.getElem_set_ne _ _ other, if_neg (fun e => word (by rw [e]))]
        · rw [if_neg (by omega)]
          unfold Slot.byteAt
          rw [dif_neg here, dif_neg here]
      · have nothing : sl.putByte o b = sl := by rw [Slot.putByte, if_neg kind, if_neg tag, dif_neg args]
        rw [nothing, if_neg]
        rintro rfl
        rcases hx with zero | inside
        · exact kind zero
        · omega

/-- R181: the enabled bytes of a write reach the copy in address order, and its state and its request stay. -/
theorem Slot.byteAt_putBytes (bs : List (Option Byte)) (sl : Slot) (o x : Nat) (hx : copied x) :
    (sl.putBytes o bs).byteAt x = (if o ≤ x then (bs[x - o]?).join else none).getD (sl.byteAt x) := by
  induction bs generalizing sl o with
  | nil => simp [Slot.putBytes]
  | cons b bs ih =>
    have later (h : o + 1 ≤ x) : (b :: bs)[x - o]? = bs[x - (o + 1)]? := by
      rw [show x - o = (x - (o + 1)) + 1 by omega]
      rfl
    have put : (sl.putBytes o (b :: bs)) = (match b with | none => sl | some c => sl.putByte o c).putBytes (o + 1) bs := by
      cases b <;> rfl
    rw [put, ih]
    by_cases after : o + 1 ≤ x
    · have before : o ≤ x := by omega
      have away : x ≠ o := by omega
      rw [if_pos after, if_pos before, later after]
      cases b with
      | none => rfl
      | some c =>
        dsimp only
        rw [sl.byteAt_putByte o x c hx, if_neg away]
    · rw [if_neg after]
      by_cases here : x = o
      · rw [if_pos (by omega), here, Nat.sub_self]
        cases b with
        | none => rfl
        | some c =>
          dsimp only
          rw [sl.byteAt_putByte o o c (here ▸ hx), if_pos rfl]
          rfl
      · rw [if_neg (by omega)]
        cases b with
        | none => rfl
        | some c =>
          dsimp only
          rw [sl.byteAt_putByte o x c hx, if_neg here]

theorem Slot.putByte_request (sl : Slot) (o : Nat) (b : Byte) : (sl.putByte o b).state = sl.state ∧ (sl.putByte o b).taken = sl.taken := by
  unfold Slot.putByte
  split
  · exact ⟨rfl, rfl⟩
  · split
    · exact ⟨rfl, rfl⟩
    · split <;> exact ⟨rfl, rfl⟩

theorem Slot.putBytes_request (bs : List (Option Byte)) (sl : Slot) (o : Nat) :
    (sl.putBytes o bs).state = sl.state ∧ (sl.putBytes o bs).taken = sl.taken := by
  induction bs generalizing sl o with
  | nil => exact ⟨rfl, rfl⟩
  | cons b bs ih =>
    cases b with
    | none => exact ih sl (o + 1)
    | some c =>
      obtain ⟨state, taken⟩ := sl.putByte_request o c
      obtain ⟨state', taken'⟩ := ih (sl.putByte o c) (o + 1)
      exact ⟨state'.trans state, taken'.trans taken⟩

/-- R181: the byte of slot `i` that a write from DRAM offset `off` enables. -/
theorem slotPart_byte (i : Fin 8) (off : Nat) (bytes : List (Option Byte)) (x : Nat) (hx : x < 64) :
    (if (slotPart i off bytes).1 ≤ x then ((slotPart i off bytes).2[x - (slotPart i off bytes).1]?).join else none) =
      if off ≤ 0x100 + 64 * i.val + x then (bytes[0x100 + 64 * i.val + x - off]?).join else none := by
  unfold slotPart slotOffset
  dsimp only
  by_cases before : off < 0x100 + 64 * i.val
  · rw [if_pos before, if_pos (Nat.zero_le x), if_pos (by omega), Nat.sub_zero, List.getElem?_take_of_lt hx, List.getElem?_drop]
    congr 2
    omega
  · rw [if_neg before]
    by_cases reached : off ≤ 0x100 + 64 * i.val + x
    · rw [if_pos (by omega), if_pos reached, List.getElem?_take_of_lt (by omega)]
      congr 2
      omega
    · rw [if_neg (by omega), if_neg reached]

/-! ### The hand-over (R38, R181, R182) -/

/-- R182: the writes that carry a post to slot `i`. -/
theorem posts_iff (i : Fin 8) (off : Nat) (bytes : List (Option Byte)) :
    posts i off bytes = true ↔ (if off ≤ 0x101 + 64 * i.val then (bytes[0x101 + 64 * i.val - off]?).join else none) = some 1 := by
  have place : 0x101 + 64 * i.val = 0x100 + 64 * i.val + 1 := by omega
  rw [place, ← slotPart_byte i off bytes 1 (by decide), posts]
  by_cases reached : (slotPart i off bytes).1 ≤ 1
  · simp [reached]
  · simp [reached]

theorem State.setSlot_same (s : State) (j : Fin 8) (x : Slot) : (s.setSlot j x).req.slots[j] = x := Vector.getElem_set_self j.isLt

theorem State.setSlot_other (s : State) (i j : Fin 8) (x : Slot) (h : i ≠ j) : (s.setSlot j x).req.slots[i] = s.req.slots[i] :=
  Vector.getElem_set_ne j.isLt i.isLt fun e => h (Fin.ext e.symm)

/-- R38: DRAM, and the bytes of every slot copy, stay. -/
structure State.Copied (s t : State) : Prop where
  mem : t.mem = s.mem
  kind : ∀ i : Fin 8, t.req.slots[i].kind = s.req.slots[i].kind
  tag : ∀ i : Fin 8, t.req.slots[i].tag = s.req.slots[i].tag
  args : ∀ i : Fin 8, t.req.slots[i].args = s.req.slots[i].args

theorem State.Copied.refl (s : State) : s.Copied s := ⟨rfl, fun _ => rfl, fun _ => rfl, fun _ => rfl⟩

theorem State.Copied.trans {s t u : State} (h : s.Copied t) (k : t.Copied u) : s.Copied u :=
  ⟨k.mem.trans h.mem, fun i => (k.kind i).trans (h.kind i), fun i => (k.tag i).trans (h.tag i), fun i => (k.args i).trans (h.args i)⟩

theorem State.Copies.copied {s t : State} (h : s.Copies t) : s.Copied t :=
  ⟨h.mem, fun i => (h.slots i).kind, fun i => (h.slots i).tag, fun i => (h.slots i).args⟩

theorem State.copied_take (s : State) (j : Fin 8) : s.Copied (s.take j) := by
  have slot (i : Fin 8) : (s.take j).req.slots[i] = if i = j then s.req.slots[j].take else s.req.slots[i] := by
    by_cases same : i = j
    · rw [if_pos same, same]
      exact s.setSlot_same j _
    · rw [if_neg same]
      exact s.setSlot_other i j _ same
  have each (i : Fin 8) : (s.take j).req.slots[i].kind = s.req.slots[i].kind ∧ (s.take j).req.slots[i].tag = s.req.slots[i].tag ∧
      (s.take j).req.slots[i].args = s.req.slots[i].args := by
    rw [slot i]
    by_cases same : i = j
    · rw [if_pos same, same]
      exact ⟨rfl, rfl, rfl⟩
    · rw [if_neg same]
      exact ⟨rfl, rfl, rfl⟩
  exact ⟨rfl, fun i => (each i).1, fun i => (each i).2.1, fun i => (each i).2.2⟩

theorem State.copied_postIn (s : State) (j : Fin 8) : s.Copied (s.postIn j) := by
  have posted : s.Copied (s.post j) := by
    unfold State.post
    split
    · exact (s.copies_raise _).copied
    · exact (s.copied_take j).trans (State.copies_perform _ _ _ _).copied
  exact posted.trans ⟨rfl, fun _ => rfl, fun _ => rfl, fun _ => rfl⟩

theorem State.copied_handOver (s : State) (off : Nat) (bytes : List (Option Byte)) : (s.copyBytes off bytes).Copied (s.handOver off bytes) := by
  unfold State.handOver
  generalize s.copyBytes off bytes = c
  induction List.finRange 8 generalizing c with
  | nil => exact .refl c
  | cons i l ih =>
    refine State.Copied.trans (t := if posts i off bytes then c.postIn i else c) ?_ (ih _)
    split
    · exact c.copied_postIn i
    · exact .refl c

/-- R182: a request taken from a slot holds its copy's kind, tag and arguments, and the slot leaves FREE and is reported. -/
theorem State.postIn_taken (s : State) (j : Fin 8) (free : s.req.slots[j].state ≠ .taken) :
    (s.postIn j).req.slots[j].state ≠ .free ∧ .slot j ∈ (s.postIn j).req.marks ∧
      (s.postIn j).req.slots[j].taken.map (fun q => (q.kind, q.tag, q.args)) =
        some ((s.postIn j).req.slots[j].kind, (s.postIn j).req.slots[j].tag, (s.postIn j).req.slots[j].args) := by
  have acted : s.postIn j = ((s.take j).perform j s.req.slots[j].kind s.req.slots[j].args).markMirrors s := by
    rw [State.postIn, State.post, if_neg free]
  have kept := (s.take j).copies_perform j s.req.slots[j].kind s.req.slots[j].args
  have slot : (s.take j).req.slots[j] = s.req.slots[j].take := s.setSlot_same j _
  have stands := kept.slots j
  have marked : .slot j ∈ (s.take j).req.marks := List.mem_append_right _ (List.mem_singleton_self _)
  rw [slot] at stands
  rw [acted]
  generalize (s.take j).perform j s.req.slots[j].kind s.req.slots[j].args = P at kept stands
  refine ⟨stands.used SlotState.noConfusion, List.mem_append_left _ (kept.marks marked), ?_⟩
  show P.req.slots[j].taken.map _ = some (P.req.slots[j].kind, P.req.slots[j].tag, P.req.slots[j].args)
  rw [stands.taken, stands.kind, stands.tag, stands.args]
  rfl

theorem foldl_ite_none {α β : Type} (f : β → α → β) (p : α → Bool) (l : List α) (b : β) (h : ∀ a ∈ l, p a = false) :
    l.foldl (fun b a => if p a then f b a else b) b = b := by
  induction l generalizing b with
  | nil => rfl
  | cons a l ih =>
    obtain ⟨here, rest⟩ := List.forall_mem_cons.mp h
    rw [List.foldl_cons, here]
    exact ih b rest

/-- A fold that acts at one element of a list without repeats. -/
theorem foldl_ite_one {α β : Type} [DecidableEq α] (f : β → α → β) (p : α → Bool) (l : List α) (b : β) (c : α) (nodup : l.Nodup) (mem : c ∈ l)
    (acts : p c = true) (only : ∀ a ∈ l, a ≠ c → p a = false) :
    l.foldl (fun b a => if p a then f b a else b) b = f b c := by
  induction l generalizing b with
  | nil => cases mem
  | cons a l ih =>
    obtain ⟨fresh, nodup⟩ := List.nodup_cons.mp nodup
    obtain ⟨here, rest⟩ := List.forall_mem_cons.mp only
    rw [List.foldl_cons]
    by_cases same : a = c
    · rw [same, acts]
      exact foldl_ite_none f p l _ fun x hx => rest x hx fun e => fresh (by rw [same, ← e]; exact hx)
    · rw [here same]
      exact ih b nodup ((List.mem_cons.mp mem).resolve_left (Ne.symm same)) rest

theorem State.handOver_quiet (s : State) (off : Nat) (bytes : List (Option Byte)) (h : ∀ i : Fin 8, posts i off bytes = false) :
    s.handOver off bytes = s.copyBytes off bytes := foldl_ite_none _ _ _ _ fun i _ => h i

theorem State.handOver_post (s : State) (off : Nat) (bytes : List (Option Byte)) (j : Fin 8) (post : posts j off bytes = true)
    (only : ∀ i : Fin 8, i ≠ j → posts i off bytes = false) : s.handOver off bytes = (s.copyBytes off bytes).postIn j :=
  foldl_ite_one _ _ _ _ j (List.nodup_finRange 8) (List.mem_finRange j) post fun i _ => only i

section CopyBytes

variable (s : State) (off : Nat) (bytes : List (Option Byte)) (i : Fin 8)

theorem State.copyBytes_slot :
    (s.copyBytes off bytes).req.slots[i] = s.req.slots[i].putBytes (slotPart i off bytes).1 (slotPart i off bytes).2 :=
  Vector.getElem_ofFn i.isLt

theorem State.copyBytes_request : (s.copyBytes off bytes).req.slots[i].state = s.req.slots[i].state ∧
    (s.copyBytes off bytes).req.slots[i].taken = s.req.slots[i].taken := by
  rw [s.copyBytes_slot off bytes i]
  exact Slot.putBytes_request _ _ _

/-- R181: the copied bytes of a slot after the hand-over. -/
theorem State.copyBytes_byteAt (x : Nat) (hx : copied x) : ((s.copyBytes off bytes).req.slots[i]).byteAt x =
    (if off ≤ 0x100 + 64 * i.val + x then (bytes[0x100 + 64 * i.val + x - off]?).join else none).getD (s.req.slots[i].byteAt x) := by
  have inside : x < 64 := by
    rcases hx with rfl | h
    · decide
    · omega
  rw [s.copyBytes_slot off bytes i, Slot.byteAt_putBytes _ _ _ _ hx, slotPart_byte i off bytes x inside]

end CopyBytes

/-! ### The grant (R38, R43, R50) -/

theorem passageWaits_of (s : State) (k : Nat) (h : issuedAt s.link.ordinary = some k) : s.passageWaits = true := by
  rw [State.passageWaits, h]
  rfl

/-- The state in which a granted write is told. -/
def State.afterWrite (s : State) (k off : Nat) (bytes : List (Option Byte)) : State :=
  { s with
    mem := s.mem.writeMasked off bytes
    link := { s.link with ordinary := s.link.ordinary.eraseIdx k, credits := s.link.credits + 1 }
    port := { s.port with passageRun := min 8 (s.port.passageRun + 1) } }

theorem State.grant_write (s : State) (k off : Nat) (addr : BitVec 29) (bytes : List (Option Byte)) (n : Notice)
    (oldest : issuedAt s.link.ordinary = some k)
    (entry : s.link.ordinary[k]? = some { transfer := .write addr bytes, service := .issued off n })
    (turn : s.port.passageRun < 8 ∨ s.nextInternal = none) : s.grant = (s.afterWrite k off bytes).tell off bytes n := by
  rw [s.grant_passage (passageWaits_of s k oldest) turn, s.grantPassage_of_issued oldest entry, State.afterWrite, ← cap_eq_min]
  rfl

theorem State.grant_read (s : State) (tag : BitVec 5) (addr : BitVec 29) (count off : Nat) (n : Notice) (rest : List LaneEntry)
    (lane : s.link.ordinary = { transfer := .read tag addr count, service := .issued off n } :: rest)
    (waits : ∀ x ∈ rest, x.service = .waiting) (turn : s.port.passageRun < 8 ∨ s.nextInternal = none) :
    s.grant = { s with
      link := { s.link with
        ordinary := rest
        sent := s.link.sent ++ [{ tag := tag, data := s.mem.readBytes off (8 * count) }], credits := s.link.credits + 1 }
      port := { s.port with passageRun := min 8 (s.port.passageRun + 1) } } := by
  have oldest : issuedAt s.link.ordinary = some 0 := by rw [lane]; rfl
  have entry : s.link.ordinary[0]? = some { transfer := .read tag addr count, service := .issued off n } := by rw [lane]; rfl
  have answered := s.countPassage.flush_ready tag addr count (.issued off n) rest (s.mem.readBytes off (8 * count)) lane waits
  rw [s.grant_passage (passageWaits_of s 0 oldest) turn, s.grantPassage_of_issued oldest entry, ← cap_eq_min]
  exact answered

theorem State.tell_slots_outside (s : State) (off : Nat) (bytes : List (Option Byte)) (h : off < 0x100 ∨ 0x300 ≤ off) :
    s.tell off bytes .slots = s := if_neg (by omega)

theorem State.tell_slots_inside (s : State) (off : Nat) (bytes : List (Option Byte)) (low : 0x100 ≤ off) (high : off < 0x300) :
    s.tell off bytes .slots = s.handOver off bytes := if_pos ⟨low, high⟩

/-! ### The dropped entries (R143) -/

section Dropped

variable (e : Engine) (i : Fin 48) (n : Nat) (p : Fin 4)

theorem Engine.dropEntries_place (hit : Source → Bool) : (e.dropEntries hit).places[p] = (e.places[p]).drop hit := by
  show (e.places.map (Place.drop hit))[p.val]'p.isLt = _
  rw [Vector.getElem_map]
  rfl

theorem Engine.mem_dropEntries_recency (hit : Source → Bool) :
    p ∈ (e.dropEntries hit).recency ↔ p ∈ e.recency ∧ (e.places[p]).hit hit = false := by
  show p ∈ e.recency.filter _ ↔ _
  rw [List.mem_filter, Bool.not_eq_true']

theorem Place.hit_of_key (hit : Source → Bool) (x : Place) (k : Key) (key : x.key? = some k) : x.hit hit = hit k.source := by
  rw [Place.hit, key]

/-- A place keyed to no dropped source is left. -/
theorem Place.drop_of_away (hit : Source → Bool) (x : Place) (h : ∀ k, x.key? = some k → hit k.source = false) :
    x.drop hit = x ∧ x.hit hit = false := by
  cases x with
  | empty | discarding => exact ⟨rfl, rfl⟩
  | valid k d => exact ⟨by rw [Place.drop, h k rfl]; rfl, h k rfl⟩
  | filling k d m => exact ⟨by rw [Place.drop, h k rfl]; rfl, h k rfl⟩

end Dropped

/-- R43: what a write through a RAW view leaves of the cache. -/
theorem Engine.dropEntries_shot (e : Engine) (i : Fin 48) (num : Nat) :
    (∀ (p : Fin 4) (y : Nat) (d : List Byte), e.places[p] = .valid { source := .shot i num, row := y } d →
        (e.dropEntries (Source.isShot i num)).places[p] = .empty ∧ p ∉ (e.dropEntries (Source.isShot i num)).recency) ∧
      (∀ (p : Fin 4) (y m : Nat) (d : List Byte), e.places[p] = .filling { source := .shot i num, row := y } d m →
        (e.dropEntries (Source.isShot i num)).places[p] = .discarding m ∧ p ∉ (e.dropEntries (Source.isShot i num)).recency) ∧
      ∀ p : Fin 4, (∀ key, e.places[p].key? = some key → key.source ≠ .shot i num) →
        (e.dropEntries (Source.isShot i num)).places[p] = e.places[p] ∧
          (p ∈ (e.dropEntries (Source.isShot i num)).recency ↔ p ∈ e.recency) := by
  have hit : Source.isShot i num (.shot i num) = true := (Source.isShot_iff i num _).mpr rfl
  have left (p : Fin 4) (k : Key) (key : (e.places[p]).key? = some k) (source : k.source = .shot i num) :
      p ∉ (e.dropEntries (Source.isShot i num)).recency := by
    rw [e.mem_dropEntries_recency, Place.hit_of_key _ _ k key, source, hit]
    exact fun h => Bool.noConfusion h.2
  refine ⟨fun p y d valid => ⟨?_, left p _ (by rw [valid]; rfl) rfl⟩, fun p y m d filling => ⟨?_, left p _ (by rw [filling]; rfl) rfl⟩,
    fun p away => ?_⟩
  · rw [e.dropEntries_place, valid, Place.drop, if_pos hit]
  · rw [e.dropEntries_place, filling, Place.drop, if_pos hit]
  · obtain ⟨place, unhit⟩ := Place.drop_of_away (Source.isShot i num) e.places[p] fun k key =>
      Bool.eq_false_iff.mpr fun dropped => away k key ((Source.isShot_iff i num _).mp dropped)
    rw [e.dropEntries_place, e.mem_dropEntries_recency, place, unhit]
    exact ⟨rfl, and_iff_left rfl⟩

/-- R184: a marked slot record joins the report list at the end of the event. -/
theorem State.slot_mem_finishEvent (s old : State) (j : Fin 8) (h : .slot j ∈ s.req.marks) :
    .slot j ∈ (s.finishEvent old).req.reportList := by
  refine (mem_foldl_joinReport _ _ _).mpr (.inl (List.mem_append_left _ (List.mem_append_left _ ?_)))
  exact List.mem_filter.mpr ⟨h, decide_eq_true ReportRecord.noConfusion⟩

section HandOver

variable (u : State) (off : Nat) (bytes : List (Option Byte)) (j : Fin 8)

theorem State.handOver_unposted (none : ∀ i : Fin 8, posts i off bytes = false) :
    { u.handOver off bytes with req := u.req } = u ∧ (u.handOver off bytes).req.causes = u.req.causes ∧
      ∀ i : Fin 8, (u.handOver off bytes).req.slots[i].state = u.req.slots[i].state ∧
        (u.handOver off bytes).req.slots[i].taken = u.req.slots[i].taken := by
  rw [u.handOver_quiet off bytes none]
  exact ⟨rfl, rfl, fun i => u.copyBytes_request off bytes i⟩

section Posted

variable (post : posts j off bytes = true) (only : ∀ i : Fin 8, i ≠ j → posts i off bytes = false)

include post only

theorem State.handOver_collides (taken : u.req.slots[j].state = .taken) :
    { u.handOver off bytes with req := u.req } = u ∧
      (u.handOver off bytes).req.causes = u.req.causes ||| Cause.requestCollision.bit ∧
      (u.handOver off bytes).req.slots[j].state = .taken ∧ (u.handOver off bytes).req.slots[j].taken = u.req.slots[j].taken := by
  obtain ⟨state, request⟩ := u.copyBytes_request off bytes j
  have rest : { u.copyBytes off bytes with req := u.req } = u := rfl
  have causes : (u.copyBytes off bytes).req.causes = u.req.causes := rfl
  rw [u.handOver_post off bytes j post only]
  generalize u.copyBytes off bytes = c at *
  rw [State.postIn, State.post, if_pos (state.trans taken)]
  exact ⟨rest, congrArg (· ||| Cause.requestCollision.bit) causes, state.trans taken, request⟩

theorem State.handOver_takes (free : u.req.slots[j].state ≠ .taken) :
    (u.handOver off bytes).req.slots[j].state ≠ .free ∧ .slot j ∈ (u.handOver off bytes).req.marks ∧
      (u.handOver off bytes).req.slots[j].taken.map (fun q => (q.kind, q.tag, q.args)) =
        some ((u.handOver off bytes).req.slots[j].kind, (u.handOver off bytes).req.slots[j].tag, (u.handOver off bytes).req.slots[j].args) := by
  rw [u.handOver_post off bytes j post only]
  exact State.postIn_taken _ j fun h => free ((u.copyBytes_request off bytes j).1.symm.trans h)

end Posted

/-- R181: the bytes of the slot copies after the hand-over. -/
theorem State.handOver_bytes (i : Fin 8) (new : Nat → Option Byte)
    (hnew : ∀ a, new a = if off ≤ a then (bytes[a - off]?).join else none) :
    (u.handOver off bytes).req.slots[i].kind = (new (0x100 + 64 * i.val)).getD u.req.slots[i].kind ∧
      (∀ k, k < 4 → leByte (u.handOver off bytes).req.slots[i].tag.toNat k =
        (new (0x104 + 64 * i.val + k)).getD (leByte u.req.slots[i].tag.toNat k)) ∧
      ∀ (b : Fin 6) (k : Nat), k < 8 → leByte ((u.handOver off bytes).req.slots[i].args[b]).toNat k =
        (new (0x108 + 64 * i.val + 8 * b.val + k)).getD (leByte (u.req.slots[i].args[b]).toNat k) := by
  have copied := u.copied_handOver off bytes
  have byte (x : Nat) (hx : Machine.copied x) : ((u.copyBytes off bytes).req.slots[i]).byteAt x =
      (new (0x100 + 64 * i.val + x)).getD (u.req.slots[i].byteAt x) := by
    rw [u.copyBytes_byteAt off bytes i x hx, hnew]
  refine ⟨(copied.kind i).trans (byte 0 (.inl rfl)), fun k inside => ?_, fun b k inside => ?_⟩
  · rw [copied.tag i, ← Slot.byteAt_tag _ k inside, byte (4 + k) (.inr (by omega)), Slot.byteAt_tag _ k inside]
    congr 2
    omega
  · rw [copied.args i, ← Slot.byteAt_args _ b k inside, byte (8 + 8 * b.val + k) (.inr (by omega)), Slot.byteAt_args _ b k inside]
    congr 2
    omega

end HandOver

/-- Settles O18: a granted write is told after it has left the store; in the slots each copy follows its bytes, and a post is
taken or collides. -/
theorem passageGrantsArePerformed : Obligations.PassageGrantsArePerformed := by
  unfold Obligations.PassageGrantsArePerformed
  refine ⟨fun s u k off addr bytes n new started oldest entry turn hu hnew => ?_,
    fun s tag addr count off n rest started lane waits turn => ?_⟩
  · have granted := s.grant_write k off addr bytes n oldest entry turn
    have same : s.afterWrite k off bytes = u := hu.symm
    rw [same] at granted
    have req : u.req = s.req := by rw [hu]
    have engine : u.engine = s.engine := by rw [hu]
    have calm : s.calm → u.calm := by rw [hu]; exact id
    clear same hu
    have exec (t : State) (told : u.tell off bytes n = t) : exec .memoryGrant s = .next (t.finishEvent s) := by
      rw [exec_memoryGrant s started, granted, told]
    refine ⟨fun plain => ?_, fun slots low high => ?_, fun i num raw quiet => ?_⟩
    · have told : u.tell off bytes n = u := by
        rcases plain with rfl | ⟨rfl, outside⟩
        · rfl
        · exact u.tell_slots_outside off bytes outside
      refine ⟨_, exec u told, rfl, ?_⟩
      rw [State.finishEvent_causes, req]
      exact (BitVec.or_zero ..).symm
    · have told : u.tell off bytes n = u.handOver off bytes := by rw [slots, u.tell_slots_inside off bytes low high]
      have posted (i : Fin 8) : posts i off bytes = true ↔ new (0x101 + 64 * i.val) = some 1 := by rw [posts_iff, hnew]
      have unposted (i : Fin 8) (h : new (0x101 + 64 * i.val) ≠ some 1) : posts i off bytes = false :=
        Bool.eq_false_iff.mpr fun h' => h ((posted i).mp h')
      have kept := (u.copied_handOver off bytes).mem
      have copies := fun i => u.handOver_bytes off bytes i new hnew
      have quiet := u.handOver_unposted off bytes
      have collides := u.handOver_collides off bytes
      have takes := u.handOver_takes off bytes
      have ran := exec _ told
      rw [req] at copies quiet collides takes
      generalize u.handOver off bytes = H at *
      have became (causes : BitVec 20) (rest : { H with req := s.req } = u) (raised : H.req.causes = s.req.causes ||| causes) :
          s.became (H.finishEvent s) u causes := ⟨rest.trans (by rw [← req]), raised⟩
      refine ⟨_, ran, kept, copies, fun none => ?_, fun j post only => ⟨fun taken => ?_, fun free => ?_⟩⟩
      · obtain ⟨rest, causes, request⟩ := quiet fun i => unposted i (none i)
        exact ⟨became 0 rest (causes.trans (BitVec.or_zero ..).symm), request⟩
      · obtain ⟨rest, causes, request⟩ := collides j ((posted j).mpr post) (fun i h => unposted i (only i h)) taken
        exact ⟨became _ rest causes, request⟩
      · obtain ⟨used, marked, request⟩ := takes j ((posted j).mpr post) (fun i h => unposted i (only i h)) free
        exact ⟨used, H.slot_mem_finishEvent s j marked, request⟩
    · have dropped : (u.dropWrittenShot i num).calm := calm quiet
      have told : u.tell off bytes n = u.dropWrittenShot i num := by
        rw [raw, ← State.settle_of_calm _ u dropped]
        rfl
      have entries := u.engine.dropEntries_shot i num
      rw [engine] at entries
      obtain ⟨-, -, ⟨run, -, -⟩, -⟩ := quiet
      refine ⟨_, s.engine.dropEntries (Source.isShot i num), exec _ told, ⟨?_, ?_⟩, run, rfl, rfl, entries⟩
      · rw [← engine]
        rfl
      · rw [State.finishEvent_causes, State.dropWrittenShot, State.dropEntries_req, req]
        exact (BitVec.or_zero ..).symm
  · have granted := s.grant_read tag addr count off n rest lane waits turn
    exact ⟨_, (exec_memoryGrant s started).trans (congrArg (fun x => Host.Outcome.next (State.finishEvent x s)) granted), rfl,
      (BitVec.or_zero (x := s.req.causes)).symm⟩

end Sys2Proof.Machine
end

section
/-! SUPPORT. LOAD_SETTINGS: the tests at its post, and what the performance of its settings read brings about. -/

namespace Sys2Proof.Machine

/-! ### The post (R109, R150, R192) -/

theorem State.perform_loadSettings (s : State) (slot : Fin 8) (a : Vector Beat 6) (table index : Beat) :
    s.perform slot (kindCode 2) (putArgs a [table, index]) = s.reqLoadSettings slot table.toNat index.toNat := by
  have first := arg_putArgs a [table, index] 0 Nat.zero_lt_two
  have second := arg_putArgs a [table, index] 1 Nat.one_lt_two
  show s.reqLoadSettings slot (arg (putArgs a [table, index]) 0) (arg (putArgs a [table, index]) 1) = _
  rw [first, second]
  rfl

theorem code_of_tableOf (table index : Nat) (r : TableRef) (h : tableOf table index = some r) : r.code = table := by
  unfold tableOf at h
  split at h
  · split at h <;> cases h
    rfl
  · cases h; rfl
  · split at h <;> cases h
    rfl
  · cases h; rfl
  · cases h; rfl
  · cases h; rfl
  · cases h; rfl
  · cases h

/-- R109, R150: the tests of LENS and TETHER, and none for another table. -/
theorem State.loadBusy_eq_false (s : State) (r : TableRef) (lens : r = .lens → s.lens.g0.state.busy = false ∧ s.lens.g1.state.busy = false)
    (tether : r = .tether → s.tport.state = .disabled) : s.loadBusy r = false := by
  cases r with
  | lens =>
    obtain ⟨g0, g1⟩ := lens rfl
    rw [State.loadBusy, g0, g1]
    rfl
  | tether =>
    rw [State.loadBusy, tether rfl]
    rfl
  | capture _ | live | develop _ | zones | timing => rfl

theorem State.loadBusy_eq_true (s : State) (r : TableRef)
    (h : r = .lens ∧ (s.lens.g0.state.busy = true ∨ s.lens.g1.state.busy = true) ∨ r = .tether ∧ s.tport.state ≠ .disabled) :
    s.loadBusy r = true := by
  rcases h with ⟨rfl, g0 | g1⟩ | ⟨rfl, enabled⟩
  · rw [State.loadBusy, g0]
    rfl
  · rw [State.loadBusy, g1, Bool.or_true]
  · exact bne_iff_ne.mpr enabled

/-! ### An accepted load (R193) -/

/-- What the effects of an accepted load keep: DRAM, the working tables as replaced, the waiting settings reads, and every slot
copy's request. -/
structure State.Loads (s t : State) : Prop where
  mem : t.mem = s.mem
  tables : t.tables = s.tables
  settings : t.port.settings = s.port.settings
  slots : ∀ i : Fin 8, s.req.slots[i].Stands t.req.slots[i]

theorem State.Loads.refl (s : State) : s.Loads s := ⟨rfl, rfl, rfl, fun _ => .refl _⟩

theorem State.Loads.trans {s t u : State} (h : s.Loads t) (k : t.Loads u) : s.Loads u :=
  ⟨k.mem.trans h.mem, k.tables.trans h.tables, k.settings.trans h.settings, fun i => (h.slots i).trans (k.slots i)⟩

theorem State.Loads.ite {s t u : State} (p : Prop) [Decidable p] (ht : s.Loads t) (hu : s.Loads u) : s.Loads (if p then t else u) := by
  split
  · exact ht
  · exact hu

theorem State.Steady.loads {s t : State} (h : s.Steady t) : s.Loads t :=
  ⟨h.mem, h.tables, h.settings, fun i => by rw [h.slots]; exact .refl _⟩

section Effects

variable (s : State)

theorem State.loads_setDebouncer (l : Line) (d : Debouncer) : s.Loads (s.setDebouncer l d) := by
  cases l <;> exact (State.Steady.release s _).loads

theorem State.loads_loseLens : s.Loads s.loseLens := by
  unfold State.loseLens
  dsimp only
  split
  · exact ⟨rfl, rfl, rfl, fun _ => .refl _⟩
  · exact State.Loads.trans ⟨rfl, rfl, rfl, fun _ => .refl _⟩
      ⟨rfl, rfl, rfl, (State.copies_complete _ _ _ _).slots⟩

theorem State.loads_countChange (l : Line) : s.Loads (s.countChange l) := by
  have press (t : State) : t.Loads (t.pressEvents s) := (t.steady_pressEvents s).loads
  unfold State.countChange
  dsimp only
  generalize (!(s.debouncer l).active) = reads
  have set := s.loads_setDebouncer l { active := reads, since := none }
  cases l with
  | lready => exact .ite _ set (set.trans (State.loads_loseLens _))
  | s1 | s2 | remote => exact set.trans (press _)

theorem State.loads_recheckLine (l : Line) : s.Loads (s.recheckLine l) := by
  have read : s.Loads (s.readLine l) := s.loads_setDebouncer l _
  exact .ite _ ((read.trans (State.loads_countChange _ l)).trans (State.steady_settle _ _).loads) read

theorem State.loads_reperiod (old new : Nat) : s.Loads (s.reperiod old new) := by
  unfold State.reperiod
  split
  · exact .refl s
  · exact .ite _ ((State.Steady.release s _).trans (State.steady_liveFallsDue _ _)).loads (State.Steady.release s _).loads

end Effects

/-- R193: the working tables after an accepted load. -/
def Tables.load (t : Tables) (b : List Byte) : TableRef → Tables
  | .capture i => { t with captures := t.captures.set i (some (parseCapture b)) }
  | .live => { t with live := parseLive b }
  | .develop p => { t with profiles := t.profiles.set p (parseProfile b) }
  | .zones => { t with zones := parseZones b }
  | .lens => { t with lens := some (parseLens b) }
  | .tether => { t with tether := parseTether b }
  | .timing => { t with timing := parseTiming b }

/-- R193: an accepted load replaces its table whole, and no other. -/
theorem State.loads_replaceTable (s : State) (b : List Byte) (r : TableRef) :
    ({ s with tables := s.tables.load b r } : State).Loads (s.replaceTable b r) := by
  cases r with
  | capture i => exact .ite _ (State.steady_depthCheck _).loads (.refl _)
  | live | develop p | zones | lens | tether => exact .refl _
  | timing =>
    obtain ⟨A, hA⟩ : ∃ A : State, A = { s with
      tables := s.tables.load b .timing, time := s.time.redivide s.tables.timing.tickDivider (parseTiming b).tickDivider } := ⟨_, rfl⟩
    have loaded : ({ s with tables := s.tables.load b .timing } : State).Loads A := by
      rw [hA]
      exact ⟨rfl, rfl, rfl, fun _ => .refl _⟩
    have out : s.replaceTable b .timing =
        (((((((A.reperiod s.tables.timing.livePeriod (parseTiming b).livePeriod).pressEvents s).settle s).recheckLine .s1).recheckLine
          .s2).recheckLine .remote).recheckLine .lready) := by
      rw [hA]
      rfl
    rw [out]
    have reperiod := loaded.trans (A.loads_reperiod s.tables.timing.livePeriod (parseTiming b).livePeriod)
    generalize A.reperiod s.tables.timing.livePeriod (parseTiming b).livePeriod = B at reperiod
    have settled := reperiod.trans ((B.steady_pressEvents s).trans (State.steady_settle _ s)).loads
    exact (((settled.trans (State.loads_recheckLine _ _)).trans (State.loads_recheckLine _ _)).trans (State.loads_recheckLine _ _)).trans
      (State.loads_recheckLine _ _)

/-! ### The answer (R183, R193) -/

/-- The load of a slot is answered: its request has completed and is reported, and DRAM and the waiting settings reads are kept. -/
structure State.LoadAnswered (s t : State) (slot : Fin 8) (k : Taken) (tables : Tables) (code : ResultCode) (beat : Beat) : Prop where
  mem : t.mem = s.mem
  settings : t.port.settings = s.port.settings
  tables : t.tables = tables
  done : t.pendingCause .requestDone = true
  marked : .slot slot ∈ t.req.marks
  state : t.req.slots[slot].state = .done
  taken : t.req.slots[slot].taken = some { k with code := code, results := beat }

/-- R183: what follows an answer leaves it. -/
theorem State.LoadAnswered.settle {s t : State} {slot : Fin 8} {k : Taken} {tables : Tables} {code : ResultCode} {beat : Beat}
    (h : s.LoadAnswered t slot k tables code beat) (old : State) : s.LoadAnswered (t.settle old) slot k tables code beat := by
  have steady := t.steady_settle old
  exact ⟨steady.mem.trans h.mem, steady.settings.trans h.settings, steady.tables.trans h.tables, steady.causes _ h.done,
    t.marks_settle old h.marked, by rw [steady.slots]; exact h.state, by rw [steady.slots]; exact h.taken⟩

section Answer

variable (s : State) (slot : Fin 8) (k : Taken) (taken : s.req.slots[slot].taken = some k)

include taken

theorem State.loadAnswered_complete (X : State) (loads : s.Loads X) (code : ResultCode) (beat : Beat) :
    s.LoadAnswered (X.complete slot code beat) slot k s.tables code beat := by
  have copy : (X.complete slot code beat).req.slots[slot] = X.req.slots[slot].withResult code beat := X.setSlot_same slot _
  have request := (loads.slots slot).taken
  refine ⟨loads.mem, loads.settings, loads.tables, State.pendingCause_raise _ _, ?_, ?_, ?_⟩
  · exact List.mem_append_left _ (List.mem_append_right _ (List.mem_singleton_self _))
  · rw [copy]
    rfl
  · rw [copy, Slot.withResult]
    rw [taken] at request
    cases kept : X.req.slots[slot].taken with
    | none => rw [kept] at request; cases request
    | some q =>
      rw [kept] at request
      obtain ⟨kind, tag, args⟩ : q.kind = k.kind ∧ q.tag = k.tag ∧ q.args = k.args := by simpa using request
      show some { q with code := code, results := beat } = _
      rw [← kind, ← tag, ← args]

section EndLoad

variable (r : TableRef) (b : List Byte) (bytes : s.mem.readBytes r.base r.size = b)

theorem State.endLoad_busy (busy : s.loadBusy r = true) :
    s.LoadAnswered (s.endLoad { slot := slot, table := r }) slot k s.tables .busy 0 := by
  rw [State.endLoad]
  dsimp only
  rw [if_pos busy]
  exact s.loadAnswered_complete slot k taken s (.refl s) .busy 0

include bytes

theorem State.endLoad_bad (idle : s.loadBusy r = false) (o : Nat) (fails : firstFail (s.loadTests b r) = some o) :
    s.LoadAnswered (s.endLoad { slot := slot, table := r }) slot k s.tables .badValue (results [r.base + o]) := by
  rw [State.endLoad]
  dsimp only
  rw [if_neg (by rw [idle]; exact Bool.false_ne_true), bytes, fails]
  exact s.loadAnswered_complete slot k taken s (.refl s) .badValue _

theorem State.endLoad_done (idle : s.loadBusy r = false) (passes : firstFail (s.loadTests b r) = none) :
    s.LoadAnswered (s.endLoad { slot := slot, table := r }) slot k (s.tables.load b r) .done (loadResults r k.args[1] b) := by
  have index : s.req.slots[slot].loadIndex = k.args[1] := by rw [Slot.loadIndex, taken]; rfl
  obtain ⟨mem, settings, tables, done, marked, state, request⟩ := State.loadAnswered_complete { s with tables := s.tables.load b r } slot k taken
    (s.replaceTable b r) (s.loads_replaceTable b r) .done (loadResults r k.args[1] b)
  have answered : s.LoadAnswered ((s.replaceTable b r).complete slot .done (loadResults r k.args[1] b)) slot k (s.tables.load b r) .done
    (loadResults r k.args[1] b) := ⟨mem, settings, tables, done, marked, state, request⟩
  rw [State.endLoad]
  dsimp only
  rw [if_neg (by rw [idle]; exact Bool.false_ne_true), bytes, passes, index]
  dsimp only
  split
  · exact answered
  · exact answered.settle s

end EndLoad

end Answer

theorem State.grant_settings (s : State) (q : SettingsRequest) (rest : List SettingsRequest) (passage : s.passageWaits = false)
    (next : s.nextInternal = some .settings) (requests : s.port.settings = q :: rest) :
    s.grant = ({ s with port := { s.port with settings := rest, passageRun := 0, lastServed := .settings } } : State).endLoad q := by
  rw [s.grant_internal .settings (.inl passage) next, State.grantInternal, State.performInternal]
  dsimp only
  rw [requests]

/-- R193: the grant of a settings read. -/
theorem State.exec_settingsGrant (s u : State) (q : SettingsRequest) (rest : List SettingsRequest) (started : s.link.started = true)
    (passage : s.passageWaits = false) (next : s.nextInternal = some .settings) (requests : s.port.settings = q :: rest)
    (hu : u = { s with port := { s.port with settings := rest, passageRun := 0, lastServed := .settings } }) :
    exec .memoryGrant s = .next ((u.endLoad q).finishEvent s) := by
  rw [exec_memoryGrant s started, s.grant_settings q rest passage next requests, hu]

/-- R193: the results of a table other than DEVELOP. -/
theorem loadResults_of_index (r : TableRef) (index : Beat) (b : List Byte) (other : ∀ p, r ≠ .develop p) (h : index.toNat ≤ 65535) :
    loadResults r index b = results [r.code, index.toNat] := by
  have value : indexValue index = index.toNat := if_pos h
  cases r with
  | develop p => exact absurd rfl (other p)
  | capture _ | live | zones | lens | tether | timing => rw [loadResults, value]

/-- R122: the results of a DEVELOP table: p, and its NORM, which 4 bytes hold. -/
theorem loadResults_develop (p : Fin 8) (index : Beat) (b : List Byte) :
    loadResults (.develop p) index b = BitVec.ofNat 64 (p.val + 65536 * normOf (field b 0 2) (field b 2 2)) := by
  have norm : (parseProfile b).norm = normOf (field b 0 2) (field b 2 2) := rfl
  have bound : normOf (field b 0 2) (field b 2 2) ≤ 4095 * 65536 := Nat.div_le_self _ _
  rw [loadResults, norm, packResults, packResults, packResults]
  generalize normOf (field b 0 2) (field b 2 2) = n at bound
  congr 1
  dsimp only
  omega

/-- Settles O44: by the tests at the post, and by those at the grant of the settings read. -/
theorem settingsAreLoaded : Obligations.SettingsAreLoaded := by
  unfold Obligations.SettingsAreLoaded
  refine ⟨fun s slot tag table index hc => ?_, fun s slot r rest k b base code tests u started passage next requests taken place => ?_,
    fun s slot p rest k b started passage next requests taken hb => ?_⟩
  · have performed := State.perform_loadSettings (s.begun slot (kindCode 2) tag [table, index]) slot s.req.slots[slot].args table index
    have busy (r : TableRef) (named : tableOf table.toNat index.toNat = some r) (busy : s.loadBusy r = true) :
        s.answersOnly (.loadSettings slot tag table index) slot 2 tag .busy 0 := by
      refine s.quiet_request slot 2 tag [table, index] .busy 0 s hc s.backdrop_refl (performed.trans ?_)
      rw [State.reqLoadSettings, named]
      exact if_pos busy
    refine ⟨fun unnamed => ?_, fun lens moving => ?_, fun tether enabled => ?_, fun r named lens tether => ?_⟩
    · refine s.quiet_request slot 2 tag [table, index] .badValue 0 s hc s.backdrop_refl (performed.trans ?_)
      rw [State.reqLoadSettings, unnamed]
      rfl
    · exact busy .lens (by rw [lens]; rfl) (s.loadBusy_eq_true .lens (.inl ⟨rfl, moving⟩))
    · exact busy .tether (by rw [tether]; rfl) (s.loadBusy_eq_true .tether (.inr ⟨rfl, enabled⟩))
    · have idle : s.loadBusy r = false := by
        have code := code_of_tableOf _ _ _ named
        refine s.loadBusy_eq_false r (fun h => lens ?_) fun h => tether ?_
        · exact BitVec.eq_of_toNat_eq (by rw [← code, h]; rfl)
        · exact BitVec.eq_of_toNat_eq (by rw [← code, h]; rfl)
      have command := s.command_of_canPost slot (kindCode 2) tag [table, index] hc
      obtain ⟨-, others, causes⟩ := s.begun_served slot (kindCode 2) tag [table, index]
      have copy := s.begun_slot slot (kindCode 2) tag [table, index]
      have begun : s.begun slot (kindCode 2) tag [table, index] = { s with req := (s.begun slot (kindCode 2) tag [table, index]).req } := rfl
      generalize (s.begun slot (kindCode 2) tag [table, index]).req = q at begun
      have idle' : ({ s with req := q } : State).loadBusy r = false := idle
      obtain ⟨slots, mask, shown, statusCount, mirrorCounts, zoneSerial⟩ := others
      rw [performed, State.reqLoadSettings, named] at command
      dsimp only at command
      rw [begun] at command causes copy slots mask shown statusCount mirrorCounts zoneSerial
      rw [idle', if_neg Bool.false_ne_true] at command
      refine ⟨_, congrArg Host.Outcome.next command, ⟨slots, mask, shown, statusCount, mirrorCounts, zoneSerial⟩,
        ⟨rfl, causes.trans (BitVec.or_zero ..).symm⟩, congrArg Slot.state copy, ?_⟩
      show q.slots[slot].taken.map _ = _
      rw [show q.slots[slot] = _ from copy]
      rfl
  · obtain ⟨hbase, hb, htests, hcode, hu, other⟩ : r.base = base ∧ s.mem.readBytes r.base r.size = b ∧ tests = s.loadTests b r ∧
        r.code = code ∧ u = s.tables.load b r ∧ ∀ p, r ≠ .develop p := by
      rcases place with ⟨c, rfl, rfl, rfl, rfl, rfl, rfl⟩ | ⟨rfl, rfl, rfl, rfl, rfl, rfl⟩ | ⟨rfl, rfl, rfl, rfl, rfl, rfl⟩ |
        ⟨rfl, rfl, rfl, rfl, rfl, rfl⟩ | ⟨rfl, rfl, rfl, rfl, rfl, rfl⟩ | ⟨rfl, rfl, rfl, rfl, rfl, rfl⟩ <;>
      exact ⟨rfl, rfl, rfl, rfl, rfl, fun _ => TableRef.noConfusion⟩
    obtain ⟨w, hw⟩ : ∃ w : State, w = { s with port := { s.port with settings := rest, passageRun := 0, lastServed := .settings } } := ⟨_, rfl⟩
    have ran := s.exec_settingsGrant w _ rest started passage next requests hw
    have request : w.req.slots[slot].taken = some k := by rw [hw]; exact taken
    have bytes : w.mem.readBytes r.base r.size = b := by rw [hw]; exact hb
    have busy := w.endLoad_busy slot k request r
    have bad := w.endLoad_bad slot k request r b bytes
    have done := w.endLoad_done slot k request r b bytes
    have testsW : w.loadTests b r = tests := by rw [hw]; exact htests.symm
    have busyW : w.loadBusy r = s.loadBusy r := by rw [hw]; rfl
    have tablesW : w.tables = s.tables := by rw [hw]
    have memW : w.mem = s.mem := by rw [hw]
    have settingsW : w.port.settings = rest := by rw [hw]
    rw [busyW] at busy
    rw [busyW, testsW, tablesW] at bad done
    rw [tablesW] at busy
    rw [← hu] at done
    generalize w.endLoad { slot := slot, table := r } = E at *
    have answer {tables : Tables} {code : ResultCode} {beat : Beat} (h : w.LoadAnswered E slot k tables code beat) :
        E.mem = s.mem ∧ E.port.settings = rest ∧ E.pendingCause .requestDone = true ∧ .slot slot ∈ (E.finishEvent s).req.reportList ∧
          E.req.slots[slot].state = .done := by
      obtain ⟨mem, settings, -, raised, marked, state, -⟩ := h
      exact ⟨mem.trans memW, settings.trans settingsW, raised, E.slot_mem_finishEvent s slot marked, state⟩
    obtain ⟨mem, settings, raised, reported, state⟩ : E.mem = s.mem ∧ E.port.settings = rest ∧ E.pendingCause .requestDone = true ∧
        .slot slot ∈ (E.finishEvent s).req.reportList ∧ E.req.slots[slot].state = .done := by
      cases idle : s.loadBusy r with
      | true => exact answer (busy idle)
      | false =>
        cases test : firstFail tests with
        | some o => exact answer (bad idle o test)
        | none => exact answer (done idle test)
    refine ⟨_, ran, mem, settings, raised, reported, state, fun refused => ?_, fun lens tether => ⟨fun o fails => ?_, fun passes => ⟨?_, fun small => ?_⟩⟩⟩
    · have answered := busy (s.loadBusy_eq_true r refused)
      exact ⟨answered.tables, answered.taken⟩
    · have answered := bad (s.loadBusy_eq_false r lens tether) o fails
      rw [hbase] at answered
      exact ⟨answered.tables, answered.taken⟩
    · exact (done (s.loadBusy_eq_false r lens tether) passes).tables
    · have answered := done (s.loadBusy_eq_false r lens tether) passes
      rw [loadResults_of_index r _ b other small, hcode] at answered
      exact answered.taken
  · obtain ⟨w, hw⟩ : ∃ w : State, w = { s with port := { s.port with settings := rest, passageRun := 0, lastServed := .settings } } := ⟨_, rfl⟩
    have ran := s.exec_settingsGrant w _ rest started passage next requests hw
    have request : w.req.slots[slot].taken = some k := by rw [hw]; exact taken
    have bytes : w.mem.readBytes (TableRef.develop p).base (TableRef.develop p).size = b := by rw [hw]; exact hb.symm
    have bad := w.endLoad_bad slot k request (.develop p) b bytes rfl
    have done := w.endLoad_done slot k request (.develop p) b bytes rfl
    rw [loadResults_develop] at done
    have tablesW : w.tables = s.tables := by rw [hw]
    have memW : w.mem = s.mem := by rw [hw]
    have settingsW : w.port.settings = rest := by rw [hw]
    rw [tablesW] at bad done
    generalize w.endLoad { slot := slot, table := .develop p } = E at *
    refine ⟨fun o fails => ?_, fun passes => ?_⟩
    · have answered := bad o fails
      exact ⟨_, ran, answered.tables, answered.mem.trans memW, answered.settings.trans settingsW, answered.state, answered.taken⟩
    · have answered := done passes
      exact ⟨_, ran, answered.mem.trans memW, answered.settings.trans settingsW, answered.tables, answered.done, answered.state, answered.taken⟩

end Sys2Proof.Machine
end

section
/-! SUPPORT. Capture writes: their targets, their notices, and what a notice does to the PD extractor. -/

namespace Sys2Proof.Machine

/-! ### Targets (R6, R71) -/

section Capture

variable (s : State) (k o : Nat) (addr : BitVec 29) (bytes : List (Option Byte)) (f : Frame)
  (oldest : waitingAt s.link.ordinary = some k)
  (entry : s.link.ordinary[k]? = some { transfer := .write addr bytes, service := .waiting })
  (formed : malformed addr (bytes.length / 8) = false) (window : windowOf (byteAddr addr) = .capture)
  (ho : o = byteAddr addr - 0x80000000)

include oldest entry formed window ho

/-- R34, R71: the service of a capture write. -/
theorem State.exec_captureService :
    exec .ordinaryLaneService s =
      .next (((s.captureWrite o).1.outcome k (.write addr bytes) (s.captureWrite o).2).finishEvent s) := by
  have served := s.serve_of k _ oldest entry
  have target : s.lookUp (.write addr bytes) = s.captureWrite o := by
    rw [s.lookUp_of_write addr bytes formed, State.writeTarget, window, ho]
    rfl
  rw [target] at served
  exact exec_ordinaryLaneService s _ served

end Capture

theorem State.captureWrite_inside (s : State) (o : Nat) (f : Frame) (frame : s.intake.frame = some f) (inside : o < f.geom.frameBytes) :
    s.captureWrite o = match f.kind with
      | .shot i => s.shotTarget f i o
      | .live slot => (s, some (s.pool.livePage slot (o / mib) * mib + o % mib, .capture f.serial o)) := by
  rw [State.captureWrite, frame]
  exact if_neg (by omega)

/-- R6: the pages that a shot's page list lacks are taken from the head of the free list. -/
theorem State.assignPages_of (s : State) (i : Fin 48) (m n : Nat) (x y : Shot) (used : s.record i = some x) (lacking : n = m + 1 - x.pages.length)
    (enough : n ≤ s.pool.free.length) (hy : y = { x with pages := x.pages ++ s.pool.free.take n }) :
    s.assignPages i m = { s with
      pool := { s.pool with free := s.pool.free.drop n, reservation := s.pool.reservation - n }
      shots := { s.shots with records := s.shots.records.set i (some y) } } := by
  have got : (s.pool.free.take n).length = n := List.length_take_of_le enough
  rw [State.assignPages, used]
  dsimp only
  rw [← lacking, got, ← hy]
  rfl

/-! ### Notices (R72) -/

theorem State.captureNotice_stale (s : State) (serial : Word32) (o : Nat) (bytes : List (Option Byte))
    (stale : ∀ f, s.intake.frame = some f → f.serial ≠ serial) : s.captureNotice serial o bytes = s := by
  unfold State.captureNotice
  split
  · rfl
  · next f frame => exact if_neg (stale f frame)

/-- R72: a notice of the frame in flight that does not complete it. -/
theorem State.captureNotice_open (s : State) (o : Nat) (bytes : List (Option Byte)) (f : Frame) (frame : s.intake.frame = some f)
    (early : f.geom.frameBytes ≤ o ∨ o + bytes.length < f.geom.frameBytes) :
    s.captureNotice f.serial o bytes = { s with
      intake := { s.intake with frame := some { f with accepted := min 0xFFFFFFFF (f.accepted + bytes.countP Option.isSome) } }
      phase := s.phase.notice o bytes } := by
  have uncovered : coversEnd (f.accept bytes) o bytes = false := by
    show (decide (o < f.geom.frameBytes) && decide (f.geom.frameBytes ≤ o + bytes.length)) = false
    rw [← Bool.decide_and, decide_eq_false_iff_not]
    omega
  rw [State.captureNotice, frame]
  dsimp only
  rw [if_pos rfl, uncovered, if_neg Bool.false_ne_true, Frame.accept, cap_eq_min]
  rfl

/-! ### The extractor (R77 to R85) -/

section Notice

variable (p : PhaseUnit) (c : FrameCopy) (cur o : Nat) (bytes : List (Option Byte)) (copy : p.copy = some c) (row : p.row = some cur)

theorem PhaseUnit.notice_done (done : p.row = none) : p.notice o bytes = p := by
  unfold PhaseUnit.notice
  split
  · next h => rw [done] at h; cases h
  · rfl

include copy row

theorem PhaseUnit.notice_ignored (h : o / (2 * c.geom.width) % 16 ≠ c.zones.rowPhase ∨ o / (2 * c.geom.width) / 16 < cur) :
    p.notice o bytes = p := by
  rw [PhaseUnit.notice, copy, row]
  dsimp only
  by_cases off : o / (2 * c.geom.width) % 16 ≠ c.zones.rowPhase
  · exact if_pos off
  · rw [if_neg off, if_pos (h.resolve_left off)]

theorem PhaseUnit.notice_current (on : o / (2 * c.geom.width) % 16 = c.zones.rowPhase) (here : o / (2 * c.geom.width) / 16 = cur) :
    p.notice o bytes = p.takeNotice c cur o bytes := by
  rw [PhaseUnit.notice, copy, row]
  dsimp only
  rw [if_neg (not_not.mpr on), here, if_neg (Nat.lt_irrefl cur), if_neg (Nat.lt_irrefl cur)]

/-- R83: a notice of a later row ends the current one first. -/
theorem PhaseUnit.notice_later (on : o / (2 * c.geom.width) % 16 = c.zones.rowPhase) (later : cur < o / (2 * c.geom.width) / 16) :
    p.notice o bytes = (p.endRow c cur (some (o / (2 * c.geom.width) / 16))).notice o bytes := by
  rw [(p.endRow c cur (some (o / (2 * c.geom.width) / 16))).notice_current c _ o bytes copy rfl on rfl, PhaseUnit.notice, copy, row]
  dsimp only
  rw [if_neg (not_not.mpr on), if_neg (Nat.not_lt.mpr later.le), if_pos later]

end Notice

/-- R82: the row store after a write of the current row. -/
def PhaseUnit.taken (p : PhaseUnit) (c : FrameCopy) (j o : Nat) (bytes : List (Option Byte)) : List Site := p.store.mapIdx (takeSite c j o bytes)

theorem PhaseUnit.takeNotice_inside (p : PhaseUnit) (c : FrameCopy) (j o : Nat) (bytes : List (Option Byte))
    (inside : o + bytes.length ≠ (16 * j + c.zones.rowPhase + 1) * (2 * c.geom.width)) :
    p.takeNotice c j o bytes = { p with store := p.taken c j o bytes } := if_neg inside

theorem PhaseUnit.takeNotice_end (p : PhaseUnit) (c : FrameCopy) (j o : Nat) (bytes : List (Option Byte))
    (last : o + bytes.length = (16 * j + c.zones.rowPhase + 1) * (2 * c.geom.width)) :
    p.takeNotice c j o bytes = ({ p with store := p.taken c j o bytes } : PhaseUnit).endRow c j
      (if j + 1 < pdRows c.geom c.zones.rowPhase then some (j + 1) else none) := if_pos last

/-- R78, R82: a sample is taken where both its bytes are enabled in the write, and stays elsewhere. -/
theorem writtenWord_cases (o a : Nat) (bytes : List (Option Byte)) :
    (∀ l h, o ≤ a → bytes[a - o]? = some (some l) → bytes[a + 1 - o]? = some (some h) → writtenWord o bytes a = some (l.toNat + 256 * h.toNat)) ∧
      ((∀ l h, o ≤ a → bytes[a - o]? = some (some l) → bytes[a + 1 - o]? ≠ some (some h)) → writtenWord o bytes a = none) := by
  refine ⟨fun l h inside low high => ?_, fun lacks => ?_⟩
  · rw [writtenWord, if_neg (Nat.not_lt.mpr inside), low, high]
    rfl
  · unfold writtenWord
    split
    · rfl
    · next inside =>
      split
      · next l h low high => exact absurd high (lacks l h (Nat.not_lt.mp inside) low)
      · rfl

theorem takeSite_sample (c : FrameCopy) (j o k a : Nat) (bytes : List (Option Byte)) (x : Site) (side : Site → Option Nat) (col : Nat)
    (which : side = Site.left ∧ col = c.zones.leftOffset ∨ side = Site.right ∧ col = c.zones.rightOffset)
    (place : a = siteOffset c j k col) :
    (∀ l h, o ≤ a → bytes[a - o]? = some (some l) → bytes[a + 1 - o]? = some (some h) →
        side (takeSite c j o bytes k x) = some (min (2 ^ c.geom.bits - 1) (l.toNat + 256 * h.toNat) / 2 ^ (c.geom.bits - 10))) ∧
      ((∀ l h, o ≤ a → bytes[a - o]? = some (some l) → bytes[a + 1 - o]? ≠ some (some h)) → side (takeSite c j o bytes k x) = side x) := by
  have sample : side (takeSite c j o bytes k x) = ((writtenWord o bytes a).map (reduceSample c.geom)).or (side x) := by
    rcases which with ⟨rfl, rfl⟩ | ⟨rfl, rfl⟩
    · rw [place]; rfl
    · rw [place]; rfl
  obtain ⟨written, unwritten⟩ := writtenWord_cases o a bytes
  refine ⟨fun l h inside low high => ?_, fun lacks => ?_⟩
  · rw [sample, written l h inside low high, ← cap_eq_min]
    rfl
  · rw [sample, unwritten lacks]
    rfl

/-! ### The end of a row (R83 to R85) -/

theorem absDiff_eq_natAbs (a b : Nat) : absDiff a b = ((a : Int) - (b : Int)).natAbs := by
  unfold absDiff
  omega

theorem rowCounts_iff (z : Zone) (store : List Site) :
    rowCounts z store = true ↔ ∀ k, z.k0 ≤ k → k ≤ z.k1 → ∃ x l m, store[k]? = some x ∧ x.left = some l ∧ x.right = some m := by
  have both (k : Nat) : (match store[k]? with | some x => x.left.isSome && x.right.isSome | none => false) = true ↔
      ∃ x l m, store[k]? = some x ∧ x.left = some l ∧ x.right = some m := by
    cases here : store[k]? with
    | none => simp
    | some x => simp [Option.isSome_iff_exists]
  rw [rowCounts, List.all_eq_true]
  refine ⟨fun h k low high => ?_, fun h i inside => ?_⟩
  · have taken := h (k - z.k0) (List.mem_range.mpr (by rw [Zone.width]; omega))
    rw [Nat.add_sub_cancel' low] at taken
    exact (both k).mp taken
  · have bound := List.mem_range.mp inside
    rw [Zone.width] at bound
    exact (both (z.k0 + i)).mpr (h _ (by omega) (by omega))

theorem countRow_standing (z : Zone) (j : Nat) (store : List Site) (a : ZoneSums) : (countRow z j store a).standing = a.standing := by
  unfold countRow
  split <;> rfl

/-- R84, R85: what the end of a row adds to a zone that takes it. -/
theorem countRow_counts (z : Zone) (j : Nat) (store : List Site) (a : ZoneSums)
    (h : a.standing = .active ∧ z.j0 ≤ j ∧ j ≤ z.j1 ∧ rowCounts z store = true) :
    (countRow z j store a).rowsUsed = a.rowsUsed + 1 ∧ ∀ t, (countRow z j store a).sums[t]? = (a.sums[t]?).map fun v =>
      v + ((List.range (z.k1 + 1 - z.k0 - 16)).map fun i =>
        ((leftAt store (z.k0 + 8 + i) : Int) - (rightAt store (z.k0 + i + t) : Int)).natAbs).sum := by
  rw [countRow, if_pos h]
  refine ⟨rfl, fun t => ?_⟩
  have total : sad z store t = ((List.range (z.k1 + 1 - z.k0 - 16)).map fun i =>
      ((leftAt store (z.k0 + 8 + i) : Int) - (rightAt store (z.k0 + i + t) : Int)).natAbs).sum := by
    rw [sad, Zone.terms, Zone.width]
    simp only [absDiff_eq_natAbs]
  rw [← total]
  exact List.getElem?_mapIdx

theorem countRow_skips (z : Zone) (j : Nat) (store : List Site) (a : ZoneSums)
    (h : ¬ (a.standing = .active ∧ z.j0 ≤ j ∧ j ≤ z.j1 ∧ rowCounts z store = true)) : countRow z j store a = a := if_neg h

theorem PhaseUnit.endRow_zone (p : PhaseUnit) (c : FrameCopy) (j : Nat) (next : Option Nat) (z : Fin 12) :
    (p.endRow c j next).zones[z] = countRow c.zones.zone[z] j p.store p.zones[z] := Vector.getElem_ofFn z.isLt

/-- Settles O17: the target from the page list or the slot, the notice at the performance, and the rows by the extractor's own. -/
theorem captureWritesAreFiled : Obligations.CaptureWritesAreFiled := by
  unfold Obligations.CaptureWritesAreFiled
  refine ⟨fun s k o addr bytes f i x page oldest entry formed window ho frame kind inside used enough paged => ?_,
    fun s k o off addr bytes f slot oldest entry formed window ho frame kind inside hoff => ?_,
    fun s u k off o addr bytes serial started oldest entry turn hu => ?_, fun p q o r bytes hq => ⟨fun done => ?_, ?_⟩⟩
  · have ran := s.exec_captureService k o addr bytes oldest entry formed window ho
    have write := s.captureWrite_inside o f frame inside
    rw [kind] at write
    dsimp only at write
    obtain ⟨n, hn⟩ : ∃ n, n = o / 1048576 + 1 - x.pages.length := ⟨_, rfl⟩
    rw [← hn] at enough paged ⊢
    obtain ⟨y, hy⟩ : ∃ y, y = { x with pages := x.pages ++ s.pool.free.take n } := ⟨_, rfl⟩
    have assigned := s.assignPages_of i (o / mib) n x y used hn enough hy
    have record : (s.assignPages i (o / mib)).record i = some y := by
      rw [assigned]
      exact Vector.getElem_set_self i.isLt
    have place : y.pages[o / mib]? = some page := by rw [hy]; exact paged
    rw [State.shotTarget] at write
    rw [record, Option.bind_some, place, assigned] at write
    rw [write, Option.map_some, State.outcome_issued] at ran
    exact ⟨_, y, ran, hy, rfl, (BitVec.or_zero (x := s.req.causes)).symm⟩
  · have ran := s.exec_captureService k o addr bytes oldest entry formed window ho
    have write := s.captureWrite_inside o f frame inside
    rw [kind] at write
    dsimp only at write
    rw [write, State.outcome_issued] at ran
    refine ⟨_, ran, ?_, (BitVec.or_zero (x := s.req.causes)).symm⟩
    rw [hoff]
    rfl
  · have granted := s.grant_write k off addr bytes (.capture serial o) oldest entry turn
    have same : s.afterWrite k off bytes = u := hu.symm
    rw [same] at granted
    have req : u.req = s.req := by rw [hu]
    have intake : u.intake = s.intake := by rw [hu]
    have phase : u.phase = s.phase := by rw [hu]
    clear same hu
    refine ⟨fun stale => ?_, fun f frame serials early => ?_⟩
    · have told : u.tell off bytes (.capture serial o) = u := u.captureNotice_stale serial o bytes (by rw [intake]; exact stale)
      refine ⟨u.finishEvent s, (exec_memoryGrant s started).trans (by rw [granted, told]), rfl, ?_⟩
      rw [State.finishEvent_causes, req]
      exact (BitVec.or_zero ..).symm
    · obtain rfl := serials
      have told : u.tell off bytes (.capture f.serial o) = _ := u.captureNotice_open o bytes f (by rw [intake]; exact frame) early
      obtain ⟨E, hE⟩ : ∃ E : State, E = { u with
          intake := { u.intake with frame := some { f with accepted := min 0xFFFFFFFF (f.accepted + bytes.countP Option.isSome) } }
          phase := u.phase.notice o bytes } := ⟨_, rfl⟩
      rw [← hE] at told
      refine ⟨E.finishEvent s, (exec_memoryGrant s started).trans (by rw [granted, told]), ?_, ?_⟩
      · rw [hE, ← intake, ← phase]
        rfl
      · rw [State.finishEvent_causes, hE]
        exact (congrArg RequestUnit.causes req).trans (BitVec.or_zero ..).symm
  · rw [hq]
    exact p.notice_done o bytes done
  · rintro c cur copy row hr
    have there : r = 16 * (r / 16) + r % 16 := by omega
    refine ⟨fun ignored => ?_, fun on later => ?_, fun on here => ?_, ?_⟩
    · rw [hq]
      exact p.notice_ignored c cur o bytes copy row (by rw [← hr]; exact ignored)
    · rw [hq, hr]
      exact p.notice_later c cur o bytes copy row (by rw [← hr]; exact on) (by rw [← hr]; exact later)
    · have current : q = p.takeNotice c cur o bytes := by
        rw [hq]
        exact p.notice_current c cur o bytes copy row (by rw [← hr]; exact on) (by rw [← hr]; exact here)
      have rowStart : 16 * cur + c.zones.rowPhase = r := by omega
      refine ⟨p.taken c cur o bytes, List.length_mapIdx, fun k x y side col a hx hy which place => ?_, fun unfinished => ?_, fun last => ?_⟩
      · have site : y = takeSite c cur o bytes k x := by
          rw [PhaseUnit.taken, List.getElem?_mapIdx, hx] at hy
          exact (Option.some.inj hy).symm
        rw [site]
        exact takeSite_sample c cur o k a bytes x side col which (by rw [place, siteOffset, rowStart])
      · rw [current]
        exact p.takeNotice_inside c cur o bytes (by rw [rowStart]; exact unfinished)
      · rw [current]
        exact p.takeNotice_end c cur o bytes (by rw [rowStart]; exact last)
    · rintro next z g a b rfl rfl rfl
      have counts := rowCounts_iff c.zones.zone[z] p.store
      rw [p.endRow_zone c cur next z, ← counts]
      exact ⟨rfl, rfl, rfl, rfl, countRow_standing _ _ _ _, fun h => countRow_counts _ _ _ _ h, fun h => countRow_skips _ _ _ _ h⟩

end Sys2Proof.Machine
end

section
/-! SUPPORT. The completion of a frame: the zone to follow, what focus control finds, and what follows. -/

namespace Sys2Proof.Machine

/-! ### The last result set (R92) -/

/-- R92: the last result set stays. -/
def State.ResultsKept (s t : State) : Prop := t.phase.results = s.phase.results

section Results

variable (s old : State)

theorem State.ResultsKept.refl : s.ResultsKept s := rfl

theorem State.ResultsKept.trans {s t u : State} (h : s.ResultsKept t) (k : t.ResultsKept u) : s.ResultsKept u := Eq.trans k h

theorem State.ResultsKept.ite {s t u : State} (p : Prop) [Decidable p] (ht : s.ResultsKept t) (hu : s.ResultsKept u) :
    s.ResultsKept (if p then t else u) := by
  split
  · exact ht
  · exact hu

theorem State.Aside.results {s t : State} (h : s.Aside t) : s.ResultsKept t := congrArg PhaseUnit.results h.phase

theorem State.results_release (x : ReleaseUnit) : s.ResultsKept { s with release := x } := rfl

theorem State.results_liveFallsDue (due : Nat) : s.ResultsKept (s.liveFallsDue due) :=
  .ite _ (((s.results_release _).trans (State.aside_dropLive _ _).results).trans rfl) (s.results_release _)

theorem State.results_syncLive : s.ResultsKept (s.syncLive old) :=
  .ite _ (s.results_liveFallsDue _) (.ite _ (.refl s) (s.results_release _))

theorem State.results_deriveRelease : s.ResultsKept (s.deriveRelease old) :=
  ((s.results_release { s.release with state := s.releaseStateNow }).trans (.ite _ (State.results_release _ _) (.refl _))).trans
    (State.results_syncLive _ _)

theorem State.results_testTrigger (k : TriggerKind) : s.ResultsKept (s.testTrigger k) := by
  have room : s.ResultsKept (s.roomFor k) := .ite _ (State.aside_makeRoom _ _ s).results (.refl s)
  have fired (t : State) : t.ResultsKept (t.fireShot k) := by
    unfold State.fireShot
    split
    · exact ((t.aside_openShot _ _ _ _).results.trans (State.results_release _ _)).trans rfl
    · exact .refl t
  have waits (t : State) (r : WaitReason) : t.ResultsKept (t.waitFor r) := .ite _ rfl (t.results_release _)
  unfold State.testTrigger
  dsimp only
  split
  · exact (room.trans (fired _)).trans (State.results_deriveRelease _ _)
  · exact (room.trans (waits _ _)).trans (State.results_syncLive _ _)

theorem State.results_updateRelease : s.ResultsKept (s.updateRelease old) := by
  have derived := s.results_deriveRelease old
  have tested := fun k => derived.trans (State.results_testTrigger _ k)
  unfold State.updateRelease
  dsimp only
  split
  · exact derived
  · split
    · split
      · exact tested _
      · exact derived
    · split
      · exact tested _
      · exact derived

theorem State.results_settle : s.ResultsKept (s.settle old) :=
  (show s.ResultsKept s.deriveFocus from rfl).trans ((State.results_updateRelease _ old).trans (State.aside_serveOut _).results)

end Results

/-! ### The zone to follow (R99) -/

theorem ResultSet.valid_iff (r : ResultSet) (i : Fin 12) : r.valid i = true ↔ (r.zones[i]).status = .valid := beq_iff_eq

/-- The best of the zones looked at: the VALID one of the greatest disparity, the first of them where several have it. -/
structure ResultSet.BestOf (r : ResultSet) (l : List (Fin 12)) (best : Option (Fin 12)) : Prop where
  none : best = none → ∀ i ∈ l, r.valid i = false
  some : ∀ k, best = some k → k ∈ l ∧ r.valid k = true ∧ ∀ i ∈ l, r.valid i = true →
    (r.zones[i]).disparity ≤ (r.zones[k]).disparity ∧ ((r.zones[i]).disparity = (r.zones[k]).disparity → k ≤ i)

/-- R99 NEAREST: one more zone, in rising order. -/
def ResultSet.better (r : ResultSet) (best : Option (Fin 12)) (i : Fin 12) : Option (Fin 12) :=
  if r.valid i then
    match best with
    | none => some i
    | some b => if (r.zones[b]).disparity < (r.zones[i]).disparity then some i else some b
  else best

theorem ResultSet.nearest_eq (r : ResultSet) : r.nearest = (List.finRange 12).foldl r.better none := rfl

theorem ResultSet.bestOf_better (r : ResultSet) (l : List (Fin 12)) (best : Option (Fin 12)) (i : Fin 12) (h : r.BestOf l best)
    (later : ∀ j ∈ l, j ≤ i) : r.BestOf (l ++ [i]) (r.better best i) := by
  have split {p : Fin 12 → Prop} (old : ∀ j ∈ l, p j) (new : p i) : ∀ j ∈ l ++ [i], p j := fun j hj =>
    (List.mem_append.mp hj).elim (old j) fun e => by rw [List.mem_singleton.mp e]; exact new
  unfold ResultSet.better
  by_cases valid : r.valid i = true
  · rw [if_pos valid]
    cases best with
    | none =>
      refine ⟨fun e => (by cases e), fun k e => ?_⟩
      cases e
      refine ⟨List.mem_append_right _ (List.mem_singleton_self i), valid, split (fun j hj v => ?_) fun _ => ⟨le_refl _, fun _ => le_refl _⟩⟩
      rw [h.none rfl j hj] at v
      cases v
    | some b =>
      obtain ⟨member, validB, best⟩ := h.some b rfl
      dsimp only
      by_cases greater : (r.zones[b]).disparity < (r.zones[i]).disparity
      · rw [if_pos greater]
        refine ⟨fun e => (by cases e), fun k e => ?_⟩
        cases e
        refine ⟨List.mem_append_right _ (List.mem_singleton_self i), valid, split (fun j hj v => ?_) fun _ => ⟨le_refl _, fun _ => le_refl _⟩⟩
        have below := (best j hj v).1
        exact ⟨by omega, fun e => by omega⟩
      · rw [if_neg greater]
        refine ⟨fun e => (by cases e), fun k e => ?_⟩
        cases e
        exact ⟨List.mem_append_left _ member, validB, split best fun _ => ⟨by omega, fun _ => later b member⟩⟩
  · rw [if_neg valid]
    refine ⟨fun e => split (h.none e) (Bool.eq_false_iff.mpr valid), fun k e => ?_⟩
    obtain ⟨member, validK, best⟩ := h.some k e
    exact ⟨List.mem_append_left _ member, validK, split best fun v => absurd v valid⟩

theorem ResultSet.bestOf_foldl (r : ResultSet) (l m : List (Fin 12)) (best : Option (Fin 12)) (h : r.BestOf l best)
    (sorted : (l ++ m).Pairwise (· ≤ ·)) : r.BestOf (l ++ m) (m.foldl r.better best) := by
  induction m generalizing l best with
  | nil => rwa [List.append_nil]
  | cons i m ih =>
    have later : ∀ j ∈ l, j ≤ i := fun j hj => (List.pairwise_append.mp sorted).2.2 j hj i List.mem_cons_self
    have shift : l ++ i :: m = (l ++ [i]) ++ m := by simp
    rw [shift] at sorted ⊢
    exact ih (l ++ [i]) _ (r.bestOf_better l best i h later) sorted

theorem ResultSet.bestOf_nearest (r : ResultSet) : r.BestOf (List.finRange 12) r.nearest :=
  r.bestOf_foldl [] _ none ⟨fun _ _ h => absurd h List.not_mem_nil, fun _ h => by cases h⟩ (List.pairwise_le_finRange 12)

section Finding

variable (s : State) (r : ResultSet) (t : Latch)

theorem State.chooseZone_fixed (h : s.focus.selection = .fixed) :
    s.chooseZone r = if (r.zones[s.focus.fixedZone]).status = .valid then some s.focus.fixedZone else none := by
  rw [State.chooseZone, h]
  by_cases valid : (r.zones[s.focus.fixedZone]).status = .valid
  · rw [if_pos valid]
    exact if_pos ((r.valid_iff _).mpr valid)
  · rw [if_neg valid]
    exact if_neg fun v => valid ((r.valid_iff _).mp v)

theorem State.chooseZone_nearest (h : s.focus.selection = .nearest) : s.chooseZone r = r.nearest := by rw [State.chooseZone, h]

theorem State.chooseZone_sticky (k : Fin 12) (h : s.focus.selection = .sticky) (last : s.focus.lastZone = some k)
    (valid : (r.zones[k]).status = .valid) (near : ((r.zones[k]).disparity - s.focus.lastDisparity).natAbs ≤ s.jumpLimit) :
    s.chooseZone r = some k := by
  rw [State.chooseZone, h]
  dsimp only
  rw [last]
  exact if_pos (by rw [(r.valid_iff k).mpr valid, decide_eq_true near]; rfl)

/-! ### What focus control finds (R98, R100 to R105) -/

theorem State.finding_zone : (s.finding r t).zone = s.chooseZone r := rfl

theorem State.finding_disparity (k : Fin 12) (zone : (s.finding r t).zone = some k) : (s.finding r t).disparity = (r.zones[k]).disparity := by
  rw [s.finding_zone r t] at zone
  show (match s.chooseZone r with | some z => (r.zones[z]).disparity | none => 0) = _
  rw [zone]

theorem State.finding_inFocus_iff : (s.finding r t).inFocus = true ↔
    ∃ k, (s.finding r t).zone = some k ∧ ((r.zones[k]).disparity).natAbs ≤ s.inFocusBand := by
  have flag : (s.finding r t).inFocus = ((s.finding r t).zone.isSome && decide ((s.finding r t).disparity.natAbs ≤ s.inFocusBand)) := rfl
  have disparity := s.finding_disparity r t
  rw [flag]
  generalize s.finding r t = f at disparity
  cases zone : f.zone with
  | none => simp
  | some k =>
    rw [disparity k zone]
    simp

/-- R101: a frame locks focus in ACQUIRING, in focus, both groups IDLE at its trigger. -/
theorem State.finding_locks : (s.finding r t).locks = (s.focus.state == .acquiring && (s.finding r t).inFocus && t.bothIdle) := rfl

theorem State.finding_target : (s.finding r t).target =
    if s.mayIssue t (s.finding r t).inFocus then
      s.tables.lens.bind fun l => l.frameTarget t (s.finding r t).zone (s.finding r t).disparity (s.finding r t).edge
    else none := rfl

/-- R101: no target and no lock of a frame outside ACQUIRING and TRACKING. -/
theorem State.finding_idle (h : s.focus.state ≠ .acquiring) (h' : s.focus.state ≠ .tracking) :
    (s.finding r t).target = none ∧ (s.finding r t).locks = false := by
  rw [s.finding_target r t, s.finding_locks r t, State.mayIssue]
  cases state : s.focus.state with
  | acquiring => exact absurd state h
  | tracking => exact absurd state h'
  | off | noLens | idle | locked => exact ⟨by simp, rfl⟩

/-- R101: a frame in focus in ACQUIRING issues no target. -/
theorem State.finding_inFocus (acquiring : s.focus.state = .acquiring) (inFocus : (s.finding r t).inFocus = true) :
    (s.finding r t).target = none := by
  rw [s.finding_target r t, State.mayIssue, acquiring, inFocus]
  simp

/-- R102, R103: the target of a frame that may issue one, of its zone. -/
theorem State.finding_issues (l : Lens) (k : Fin 12) (table : s.tables.lens = some l) (zone : (s.finding r t).zone = some k)
    (may : s.mayIssue t (s.finding r t).inFocus = true) : (s.finding r t).target =
      if (l.delta (r.zones[k]).disparity).natAbs < l.deadband then none else some (l.pair (t.position + l.delta (r.zones[k]).disparity)) := by
  rw [s.finding_target r t, if_pos may, table, s.finding_disparity r t k zone, zone]
  rfl

theorem State.mayIssue_of (inFocus : Bool) (h : s.focus.state = .tracking ∧ t.g0.homed = true ∧ t.g1.homed = true ∨
    s.focus.state = .acquiring ∧ inFocus = false ∧ t.g0 = .idle ∧ t.g1 = .idle) : s.mayIssue t inFocus = true := by
  rcases h with ⟨state, g0, g1⟩ | ⟨state, out, g0, g1⟩
  · rw [State.mayIssue, state, Latch.bothHomed, g0, g1]
    rfl
  · rw [State.mayIssue, state, Latch.bothHomed, Latch.bothIdle, g0, g1, out]
    rfl

end Finding

/-! ### Acting on a LIVE frame (R98) -/

theorem State.handFound_eq (s : State) (F : Finding) : s.handFound F = { s with lens := (s.handFound F).lens } := by
  unfold State.handFound
  split
  · unfold State.handTargets
    split <;> rfl
  · rfl

/-- R105, R115: the targets that a frame issues reach both groups. -/
theorem State.handFound_some (s : State) (F : Finding) (p : TargetPair) (l : Lens) (target : F.target = some p) (table : s.tables.lens = some l) :
    (s.handFound F).lens = { s.lens with g0 := s.lens.g0.takeTarget l.g0 s.now p.g0, g1 := s.lens.g1.takeTarget l.g1 s.now p.g1 } := by
  rw [State.handFound, target]
  dsimp only
  rw [State.handTargets, table]

theorem State.handFound_none (s : State) (F : Finding) (target : F.target = none) : (s.handFound F).lens = s.lens := by
  rw [State.handFound, target]

/-- R97: targets leave homed groups homed. -/
theorem State.handFound_homed (s t : State) (F : Finding) (lens : t.lens = (s.handFound F).lens) : t.lensHomed = s.lensHomed := by
  rw [State.lensHomed, lens]
  unfold State.handFound
  split
  · unfold State.handTargets
    split
    · rfl
    · exact congrArg₂ and (GroupDrive.takeTarget_homed _ _ _ _) (GroupDrive.takeTarget_homed _ _ _ _)
  · rfl

/-- R98: what focus control keeps of a frame. -/
def Focus.noted (u : Focus) (F : Finding) (serial : Word32) : Focus :=
  { u with
    state := if F.locks then .locked else u.state
    lastZone := F.zone, lastDisparity := F.disparity, lastInFocus := F.inFocus, lastSerial := serial
    lastTarget := F.target.or u.lastTarget }

theorem State.actOnFrame_live (s : State) (r : ResultSet) (slot : Fin 2) (t : Latch) (F : Finding) (found : s.finding r t = F) :
    s.actOnFrame r (.live slot) t = { s with
      lens := (s.handFound F).lens, focus := s.focus.noted F r.serial, req := if F.locks then (s.raise .focusLocked).req else s.req } := by
  have steps : s.actOnFrame r (.live slot) t = ((s.handFound F).lockFound F).noteFound F r := by
    rw [s.actOnFrame_eq, found]
    rfl
  rw [steps, s.handFound_eq F]
  generalize (s.handFound F).lens = lens
  unfold State.lockFound Focus.noted
  split <;> rfl

/-- What the evaluation of a LIVE frame leaves: the PD unit, the lens, the focus unit and the request unit apart, everything. -/
theorem State.evaluateFrame_live (s : State) (f : Frame) (slot : Fin 2) (live : f.kind = .live slot) :
    ∃ phase lens focus req, s.evaluateFrame f = { s with phase := phase, lens := lens, focus := focus, req := req } ∧
      (s.focus.state ≠ .acquiring → s.focus.state ≠ .tracking → lens = s.lens ∧ focus.state = s.focus.state ∧ focus.mode = s.focus.mode) ∧
      ∀ c r F, s.phase.copy = some c → s.focus.mode ≠ .off → r = s.phase.evaluate c → s.finding r f.latch = F →
        phase.results = some r ∧ lens = (s.handFound F).lens ∧ focus = s.focus.noted F r.serial ∧
          .zoneLow ∈ req.marks ∧ .zoneHigh ∈ req.marks ∧ (F.locks = true → req.causes.getLsbD Cause.focusLocked.code = true) := by
  unfold State.evaluateFrame
  cases copy : s.phase.copy with
  | none => exact ⟨s.phase, s.lens, s.focus, s.req, rfl, fun _ _ => ⟨rfl, rfl, rfl⟩, fun c r F h => by cases h⟩
  | some c =>
    dsimp only
    by_cases off : s.focus.mode = .off
    · rw [if_pos off]
      exact ⟨s.phase, s.lens, s.focus, s.req, rfl, fun _ _ => ⟨rfl, rfl, rfl⟩, fun _ _ _ _ on => absurd off on⟩
    · rw [if_neg off, live]
      generalize evaluated : s.phase.evaluate c = r
      obtain ⟨F, found⟩ : ∃ F, s.finding r f.latch = F := ⟨_, rfl⟩
      have lens : ((s.storeResults r).handFound F).lens = (s.handFound F).lens := by
        unfold State.handFound
        split
        · unfold State.handTargets
          rw [show (s.storeResults r).tables = s.tables from rfl]
          split <;> rfl
        · rfl
      rw [(s.storeResults r).actOnFrame_live r slot f.latch F found, lens]
      refine ⟨{ s.phase with results := some r }, (s.handFound F).lens, s.focus.noted F r.serial,
        if F.locks then ((s.storeResults r).raise .focusLocked).req else (s.storeResults r).req, rfl, fun h h' => ?_, fun c' r' F' hc _ hr hF => ?_⟩
      · obtain ⟨target, locks⟩ := s.finding_idle r f.latch h h'
        rw [found] at target locks
        refine ⟨s.handFound_none F target, ?_, rfl⟩
        rw [Focus.noted, locks]
        rfl
      · obtain rfl : c = c' := Option.some.inj hc
        obtain rfl : r' = r := hr.trans evaluated
        obtain rfl : F = F' := found.symm.trans hF
        have low : ReportRecord.zoneLow ∈ (s.storeResults r').req.marks :=
          List.mem_append_left _ (List.mem_append_right _ (List.mem_singleton_self _))
        have high : ReportRecord.zoneHigh ∈ (s.storeResults r').req.marks := List.mem_append_right _ (List.mem_singleton_self _)
        refine ⟨rfl, rfl, rfl, ?_, ?_, fun locks => ?_⟩
        · split
          · exact List.mem_append_left _ low
          · exact low
        · split
          · exact List.mem_append_left _ high
          · exact high
        · rw [if_pos locks]
          exact State.pendingCause_raise _ .focusLocked

/-! ### The completion (R72, R73) -/

theorem PhaseUnit.takeNotice_copy (p : PhaseUnit) (c : FrameCopy) (j o : Nat) (bytes : List (Option Byte)) :
    (p.takeNotice c j o bytes).copy = p.copy := by
  unfold PhaseUnit.takeNotice
  dsimp only
  split <;> rfl

theorem PhaseUnit.notice_copy (p : PhaseUnit) (o : Nat) (bytes : List (Option Byte)) : (p.notice o bytes).copy = p.copy := by
  unfold PhaseUnit.notice
  split
  · dsimp only
    split
    · rfl
    · split
      · rfl
      · split
        · exact PhaseUnit.takeNotice_copy _ _ _ _ _
        · exact PhaseUnit.takeNotice_copy _ _ _ _ _
  · rfl

/-- R72: the notice that covers the frame's last byte completes it. -/
theorem State.captureNotice_completes (s : State) (o : Nat) (bytes : List (Option Byte)) (f : Frame) (frame : s.intake.frame = some f)
    (inside : o < f.geom.frameBytes) (covers : f.geom.frameBytes ≤ o + bytes.length) :
    s.captureNotice f.serial o bytes = (State.completeFrame { s with
      intake := { s.intake with frame := some (f.accept bytes) }, phase := s.phase.notice o bytes } (f.accept bytes)).settle s := by
  have covered : coversEnd (f.accept bytes) o bytes = true := by
    show (decide (o < f.geom.frameBytes) && decide (f.geom.frameBytes ≤ o + bytes.length)) = true
    rw [decide_eq_true inside, decide_eq_true covers]
    rfl
  rw [State.captureNotice, frame]
  dsimp only
  rw [if_pos rfl, covered, if_pos rfl]

/-- The state in which a frame completes at the grant of its last write. -/
def State.lastWrite (s : State) (k off o : Nat) (bytes : List (Option Byte)) (f : Frame) : State :=
  { s.afterWrite k off bytes with
    intake := { s.intake with frame := some (f.accept bytes) }, phase := s.phase.notice o bytes }

theorem State.exec_completion (s : State) (k off o : Nat) (addr : BitVec 29) (bytes : List (Option Byte)) (f : Frame)
    (started : s.link.started = true) (oldest : issuedAt s.link.ordinary = some k)
    (entry : s.link.ordinary[k]? = some { transfer := .write addr bytes, service := .issued off (.capture f.serial o) })
    (turn : s.port.passageRun < 8) (frame : s.intake.frame = some f) (inside : o < f.geom.frameBytes)
    (covers : f.geom.frameBytes ≤ o + bytes.length) :
    exec .memoryGrant s =
      .next ((((s.lastWrite k off o bytes f).completeFrame (f.accept bytes)).settle (s.afterWrite k off bytes)).finishEvent s) := by
  rw [exec_memoryGrant s started, s.grant_write k off addr bytes _ oldest entry (.inl turn), State.tell,
    (s.afterWrite k off bytes).captureNotice_completes o bytes f frame inside covers]
  rfl

theorem State.completeFrame_live (s : State) (f : Frame) (slot : Fin 2) (live : f.kind = .live slot) :
    s.completeFrame f = ((((s.evaluateFrame f).closePhase).completeLive slot f.geom).raise .frameDone).closeFrame := by
  rw [State.completeFrame, live]

theorem State.completeFrame_shot (s : State) (f : Frame) (i : Fin 48) (shot : f.kind = .shot i) :
    s.completeFrame f = ((((s.evaluateFrame f).closePhase).completeShot i).raise .frameDone).closeFrame := by
  rw [State.completeFrame, shot]

/-- R184: a marked record other than the status record joins the report list at the end of the event. -/
theorem State.mem_finishEvent (s old : State) (x : ReportRecord) (other : x ≠ .status) (h : x ∈ s.req.marks) :
    x ∈ (s.finishEvent old).req.reportList := by
  refine (mem_foldl_joinReport _ _ _).mpr (.inl (List.mem_append_left _ (List.mem_append_left _ ?_)))
  exact List.mem_filter.mpr ⟨h, decide_eq_true other⟩

theorem State.focusStateNow_congr {s t : State} (mode : t.focus.mode = s.focus.mode) (homed : t.lensHomed = s.lensHomed)
    (half : t.halfPress = s.halfPress) (state : t.focus.state = s.focus.state) : t.focusStateNow = s.focusStateNow := by
  rw [State.focusStateNow, mode, homed, half, state]
  rfl

/-- R97, R101: a lock stands while its conditions do. -/
theorem State.focusStateNow_locked {s t : State} (mode : t.focus.mode = s.focus.mode) (homed : t.lensHomed = s.lensHomed)
    (half : t.halfPress = s.halfPress) (state : t.focus.state = .locked) (acquiring : s.focusStateNow = .acquiring) : t.focusStateNow = .locked := by
  rw [State.focusStateNow, mode, homed, half, state]
  rw [State.focusStateNow] at acquiring
  revert acquiring
  cases s.focus.mode with
  | off => exact nofun
  | tracking => cases s.lensHomed <;> cases s.halfPress <;> exact nofun
  | single => cases s.lensHomed <;> cases s.halfPress <;> simp

/-- R97: without a half press the focus state is OFF, NO_LENS or IDLE. -/
theorem State.focusStateNow_unpressed (s : State) (h : s.halfPress = false) : s.focusStateNow ≠ .acquiring ∧ s.focusStateNow ≠ .tracking := by
  rw [State.focusStateNow, h]
  cases s.focus.mode <;> cases s.lensHomed <;> simp

/-- What the completion of a LIVE frame leaves. -/
theorem State.completed_live (s : State) (f : Frame) (slot : Fin 2) (live : f.kind = .live slot) :
    ∃ phase lens focus req, s.completeFrame f = { s with
        phase := phase, lens := lens, focus := focus, req := req
        windows := { s.windows with designation := some slot, liveCount := s.windows.liveCount + 1, liveGeom := some f.geom }
        intake := { s.intake with frame := none } } ∧
      req.causes.getLsbD Cause.frameDone.code = true ∧
      (s.focus.state ≠ .acquiring → s.focus.state ≠ .tracking → lens = s.lens ∧ focus.state = s.focus.state ∧ focus.mode = s.focus.mode) ∧
      ∀ c r F, s.phase.copy = some c → s.focus.mode ≠ .off → r = s.phase.evaluate c → s.finding r f.latch = F →
        phase.results = some r ∧ lens = (s.handFound F).lens ∧ focus = s.focus.noted F r.serial ∧
          .zoneLow ∈ req.marks ∧ .zoneHigh ∈ req.marks ∧ (F.locks = true → req.causes.getLsbD Cause.focusLocked.code = true) := by
  obtain ⟨phase, lens, focus, req, evaluated, idle, found⟩ := s.evaluateFrame_live f slot live
  refine ⟨{ phase with copy := none, row := none, store := [], zones := Vector.replicate 12 (ZoneSums.clear .disabled) }, lens, focus,
    { req with causes := req.causes ||| Cause.frameDone.bit, marks := req.marks ++ [.status] }, ?_, ?_, idle, fun c r F copy on hr hF => ?_⟩
  · rw [s.completeFrame_live f slot live, evaluated]
    rfl
  · exact State.pendingCause_raise { s with req := req } .frameDone
  · obtain ⟨results, lens', focus', low, high, locks⟩ := found c r F copy on hr hF
    exact ⟨results, lens', focus', List.mem_append_left _ low, List.mem_append_left _ high, fun h => by
      rw [BitVec.getLsbD_or, locks h, Bool.true_or]⟩

/-- R72, R73, R86, R98: the grant that completes a LIVE frame. -/
theorem State.liveFrameCompletes (s : State) (k off o : Nat) (addr : BitVec 29) (bytes : List (Option Byte)) (f : Frame) (slot : Fin 2)
    (started : s.link.started = true) (oldest : issuedAt s.link.ordinary = some k)
    (entry : s.link.ordinary[k]? = some { transfer := .write addr bytes, service := .issued off (.capture f.serial o) })
    (turn : s.port.passageRun < 8) (frame : s.intake.frame = some f) (live : f.kind = .live slot) (inside : o < f.geom.frameBytes)
    (covers : f.geom.frameBytes ≤ o + bytes.length) :
    ∃ t, exec .memoryGrant s = .next t ∧ t.mem = s.mem.writeMasked off bytes ∧ t.pendingCause .frameDone = true ∧
      t.windows = { s.windows with designation := some slot, liveCount := s.windows.liveCount + 1, liveGeom := some f.geom } ∧
      (s.calm → t.intake = { s.intake with frame := none } ∧ t.shots = s.shots ∧ t.pool = s.pool) ∧
      ∀ c r F, s.phase.copy = some c → s.focus.mode ≠ .off → s.focus.state = s.focusStateNow →
        r = (s.phase.notice o bytes).evaluate c → s.finding r f.latch = F →
        t.phase.results = some r ∧ .zoneLow ∈ t.req.reportList ∧ .zoneHigh ∈ t.req.reportList ∧ t.lens = (s.handFound F).lens ∧
          t.focus = { s.focus.noted F r.serial with state := t.focus.state } ∧
          (F.locks = true → s.focus.state = .acquiring → F.target = none → t.focus.state = .locked ∧ t.pendingCause .focusLocked = true) ∧
          (F.locks = false → t.focus.state = s.focus.state) := by
  have ran := s.exec_completion k off o addr bytes f started oldest entry turn frame inside covers
  obtain ⟨A, hA⟩ : ∃ A, A = s.lastWrite k off o bytes f := ⟨_, rfl⟩
  obtain ⟨u, hu⟩ : ∃ u, u = s.afterWrite k off bytes := ⟨_, rfl⟩
  rw [← hA, ← hu] at ran
  obtain ⟨phase, lens, focus, req, completed, done, idle, found⟩ := A.completed_live (f.accept bytes) slot live
  obtain ⟨E, hE⟩ : ∃ E, E = A.completeFrame (f.accept bytes) := ⟨_, rfl⟩
  rw [← hE] at ran completed
  have steady := E.steady_settle u
  have results := E.results_settle u
  have marks := E.marks_settle u
  have settledFocus := E.settle_focus u
  have calmE : E.calm → E.settle u = E := E.settle_of_calm u
  generalize E.settle u = V at ran steady results marks settledFocus calmE
  have homedE (F : Finding) (h : lens = (s.handFound F).lens) : E.lensHomed = s.lensHomed :=
    s.handFound_homed E F (by rw [completed]; exact h)
  have halfE : E.halfPress = s.halfPress := by rw [completed, hA]; rfl
  refine ⟨_, ran, ?_, ?_, ?_, fun calm => ?_, fun c r F copy on derived hr hF => ?_⟩
  · show V.mem = _
    rw [steady.mem, completed, hA]
    rfl
  · exact steady.causes .frameDone (by rw [completed]; exact done)
  · show V.windows = _
    rw [steady.windows, completed, hA]
    rfl
  · obtain ⟨rest, port, engine, focused⟩ := calm
    obtain ⟨notAcquiring, notTracking⟩ := s.focusStateNow_unpressed rest.1
    rw [← focused] at notAcquiring notTracking
    obtain ⟨lensA, stateA, modeA⟩ := idle (by rw [hA]; exact notAcquiring) (by rw [hA]; exact notTracking)
    have now : E.focusStateNow = s.focusStateNow := by
      refine State.focusStateNow_congr ?_ ?_ halfE ?_
      · rw [completed]
        exact modeA.trans (by rw [hA]; rfl)
      · rw [State.lensHomed, completed]
        show (lens.g0.state.homed && lens.g1.state.homed) = _
        rw [lensA, hA]
        rfl
      · rw [completed]
        exact stateA.trans (by rw [hA]; rfl)
    have focusE : E.focus.state = E.focusStateNow := by
      rw [now, ← focused, completed]
      exact stateA.trans (by rw [hA]; rfl)
    have same : V = E := by
      refine calmE ⟨?_, ?_, ?_, focusE⟩
      · rw [completed, hA]
        exact rest
      · rw [completed, hA]
        exact port
      · rw [completed, hA]
        exact engine
    rw [same, completed, hA]
    exact ⟨rfl, rfl, rfl⟩
  · obtain ⟨resultsE, lensE, focusE, low, high, locks⟩ := found c r F (by rw [hA]; exact (s.phase.notice_copy o bytes).trans copy) (by rw [hA]; exact on)
      (by rw [hA]; exact hr) (by rw [hA]; exact hF)
    have lensS : lens = (s.handFound F).lens := by
      rw [lensE, hA]
      unfold State.handFound
      split
      · unfold State.handTargets
        rw [show (s.lastWrite k off o bytes f).tables = s.tables from rfl]
        split <;> rfl
      · rfl
    have focusS : E.focus = s.focus.noted F r.serial := by rw [completed]; exact focusE.trans (by rw [hA]; rfl)
    have modeE : E.focus.mode = s.focus.mode := by rw [focusS]; rfl
    refine ⟨Eq.trans results (by rw [completed]; exact resultsE), V.mem_finishEvent s _ nofun (marks (by rw [completed]; exact low)),
      V.mem_finishEvent s _ nofun (marks (by rw [completed]; exact high)), steady.lens.trans (by rw [completed]; exact lensS), ?_,
      fun locked acquiring none => ⟨?_, ?_⟩, fun unlocked => ?_⟩
    · show V.focus = { s.focus.noted F r.serial with state := V.focus.state }
      rw [settledFocus, focusS]
    · show V.focus.state = _
      rw [settledFocus]
      exact State.focusStateNow_locked modeE (homedE F lensS) halfE (by rw [focusS, Focus.noted, if_pos locked]) (derived.symm.trans acquiring)
    · exact steady.causes .focusLocked (by rw [completed]; exact locks locked)
    · show V.focus.state = _
      rw [settledFocus, derived]
      exact State.focusStateNow_congr modeE (homedE F lensS) halfE (by rw [focusS, Focus.noted, unlocked]; rfl)

/-! ### A SHOT frame (R12, R13) -/

theorem State.enqueue_exists (s : State) (i : Fin 48) (b : Bool) : ∃ shots queue req, s.enqueue i b = { s with shots := shots, queue := queue, req := req } := by
  unfold State.enqueue
  split
  · split
    · exact ⟨_, _, _, rfl⟩
    · exact ⟨_, _, _, rfl⟩
  · exact ⟨_, _, _, rfl⟩

/-- R13: what a shot that something keeps changes as it becomes KEPT. -/
theorem State.becomeKept_of (s : State) (i : Fin 48) (x : Shot) (used : s.record i = some x) (keeps : x.unkept = false) :
    (∃ shots queue req, s.becomeKept i = { s with shots := shots, queue := queue, req := req }) ∧ (s.becomeKept i).record i = some x.kept ∧
      (s.becomeKept i).queue = { s.queue with
        normal := s.queue.normal ++ if x.policy = .none then [] else [{ index := i, number := x.number }] } := by
  obtain ⟨record, -, -, queue⟩ := s.becomeKept_left i
  have stays : (s.becomeKept i).record i = some x.kept := by
    rw [record i]
    simp [used, keeps]
  have entries : ([i].filterMap fun j => (s.record j).bind (Shot.entry j)) = if x.policy = .none then [] else [{ index := i, number := x.number }] := by
    by_cases policy : x.policy = .none <;> simp [used, Shot.entry, policy]
  rw [entries] at queue
  refine ⟨?_, stays, queue⟩
  obtain ⟨shots, queue, req, queued⟩ := (s.modifyShot i Shot.kept).enqueue_exists i false
  unfold State.becomeKept at stays ⊢
  dsimp only at stays ⊢
  rw [queued] at stays ⊢
  generalize hu : State.raise { s.modifyShot i Shot.kept with shots := shots, queue := queue, req := req } .shotKept = u at stays ⊢
  have unfreed : ∃ shots queue req, u = { s with shots := shots, queue := queue, req := req } := by
    rw [← hu]
    exact ⟨_, _, _, rfl⟩
  split
  · split
    · next y here lost =>
      rw [here] at stays
      dsimp only at stays
      rw [if_pos lost, u.freeShot_record, if_pos rfl] at stays
      cases stays
    · exact unfreed
  · exact unfreed

theorem Shot.unkept_of_keeps (x : Shot) (h : x.cardHold = true ∨ x.policy ≠ .none ∨ x.views ≠ 0) : x.unkept = false := by
  rcases h with card | policy | viewed
  · refine decide_eq_false fun lost => ?_
    have hold : x.kept.holds.card = true := by simp [Shot.kept, card]
    rw [lost.1] at hold
    cases hold
  · exact (x.kept_of_policy policy).1
  · exact decide_eq_false fun lost => viewed lost.2

/-- R72, R73, R12: the grant that completes a SHOT frame of destiny KEPT, without an evaluation. -/
theorem State.completed_kept (s : State) (f : Frame) (i : Fin 48) (x : Shot) (shot : f.kind = .shot i) (mode : s.focus.mode = .off)
    (used : s.record i = some x) (lapsed : x.lapsed = false) (destiny : x.destiny = some .kept) (keeps : x.unkept = false) :
    ∃ phase shots queue req, s.completeFrame f = { s with
        phase := phase, shots := shots, queue := queue, req := req
        pool := { s.pool with reservation := 0 }, intake := { s.intake with frame := none } } ∧
      req.causes.getLsbD Cause.frameDone.code = true ∧ req.causes.getLsbD Cause.shotKept.code = true ∧ shots.records[i] = some x.kept ∧
      queue = { s.queue with normal := s.queue.normal ++ if x.policy = .none then [] else [{ index := i, number := x.number }] } := by
  obtain ⟨B, hB⟩ : ∃ B, B = s.closePhase.releaseReservation := ⟨_, rfl⟩
  have unevaluated : s.evaluateFrame f = s := by
    unfold State.evaluateFrame
    split
    · rfl
    · exact if_pos mode
  have usedB : B.record i = some x := by rw [hB]; exact used
  have kept : s.closePhase.completeShot i = B.becomeKept i := by
    unfold State.completeShot
    dsimp only
    rw [← hB, usedB]
    dsimp only
    rw [lapsed, if_neg Bool.false_ne_true, if_pos destiny]
  obtain ⟨⟨shots, queue, req, became⟩, record, queued⟩ := B.becomeKept_of i x usedB keeps
  have raised := B.becomeKept_raises i
  rw [became] at record queued raised
  have completed := s.completeFrame_shot f i shot
  rw [unevaluated, kept, became, hB] at completed
  refine ⟨_, shots, queue, _, completed, State.pendingCause_raise { s with req := req } .frameDone, ?_, record, by rw [hB] at queued; exact queued⟩
  exact (State.Steady.raise ({ s with req := req } : State) .frameDone).causes .shotKept raised

/-- Settles O20: a LIVE frame by what focus control finds in it, a SHOT frame by its record becoming KEPT. -/
theorem lastByteCompletesTheFrame : Obligations.LastByteCompletesTheFrame := by
  unfold Obligations.LastByteCompletesTheFrame
  refine ⟨fun s k off o addr bytes f slot started oldest entry turn frame live inside covers => ?_,
    fun s k off o addr bytes f i x started oldest entry turn frame shot inside covers mode used lapsed destiny keeps calm port => ?_⟩
  · obtain ⟨t, ran, mem, done, windows, atRest, evaluated⟩ :=
      s.liveFrameCompletes k off o addr bytes f slot started oldest entry turn frame live inside covers
    refine ⟨t, ran, mem, done, windows, atRest, fun c r l copy on derived table hr => ?_⟩
    obtain ⟨F, found⟩ : ∃ F, s.finding r f.latch = F := ⟨_, rfl⟩
    obtain ⟨results, low, high, lens, focus, locked, unlocked⟩ := evaluated c r F copy on derived hr found
    have serial : r.serial = c.serial := by rw [hr]
    have zone : t.focus.lastZone = F.zone := by rw [focus]; rfl
    have disparity : t.focus.lastDisparity = F.disparity := by rw [focus]; rfl
    have inFocus : t.focus.lastInFocus = F.inFocus := by rw [focus]; rfl
    have target : t.focus.lastTarget = F.target.or s.focus.lastTarget := by rw [focus]; rfl
    have chosen : F.zone = s.chooseZone r := by rw [← found]; rfl
    have band : s.inFocusBand = l.inFocusBand := by rw [State.inFocusBand, table]; rfl
    have jump : s.jumpLimit = l.jumpLimit := by rw [State.jumpLimit, table]; rfl
    have focusIff := s.finding_inFocus_iff r f.latch
    have disparities := s.finding_disparity r f.latch
    have locking := s.finding_locks r f.latch
    have noTarget := s.finding_inFocus r f.latch
    have idleFinding := s.finding_idle r f.latch
    have issues := fun k => s.finding_issues r f.latch l k table
    rw [found] at focusIff disparities locking noTarget idleFinding
    simp only [found] at issues
    have still (h : F.target = none) : t.lens = s.lens ∧ t.focus.lastTarget = s.focus.lastTarget :=
      ⟨lens.trans (s.handFound_none F h), by rw [target, h, Option.none_or]⟩
    refine ⟨results, ?_, low, high, fun sel => ?_, fun sel => ?_, fun k sel last valid near => ?_, fun k last => ?_, ?_,
      fun acquiring hit g0 g1 => ?_, fun state => ?_, fun k d p last active hd hp => ?_⟩
    · rw [focus]
      exact serial
    · rw [zone, chosen, s.chooseZone_fixed r sel]
    · rw [zone, chosen, s.chooseZone_nearest r sel]
      have best := r.bestOf_nearest
      refine ⟨fun none i valid => ?_, fun k some => ?_⟩
      · have invalid := best.none none i (List.mem_finRange i)
        rw [(r.valid_iff i).mpr valid] at invalid
        cases invalid
      · obtain ⟨-, valid, greatest⟩ := best.some k some
        exact ⟨(r.valid_iff k).mp valid, fun i v => greatest i (List.mem_finRange i) ((r.valid_iff i).mpr v)⟩
    · rw [zone, chosen, s.chooseZone_sticky r k sel last valid (by rw [jump]; exact near)]
    · rw [disparity]
      exact disparities k (zone.symm.trans last)
    · rw [inFocus, zone, focusIff, band]
    · rw [inFocus] at hit
      have none := noTarget acquiring hit
      have locks : F.locks = true := by rw [locking, acquiring, hit, Latch.bothIdle, g0, g1]; rfl
      obtain ⟨state, raised⟩ := locked locks acquiring none
      exact ⟨state, raised, still none⟩
    · obtain ⟨none, locks⟩ := idleFinding (by rintro h; simp [h] at state) (by rintro h; simp [h] at state)
      exact ⟨unlocked locks, still none⟩
    · have inactive : F.locks = false := by
        rw [locking]
        rcases active with ⟨tracking, -, -⟩ | ⟨-, out, -, -⟩
        · rw [tracking]
          rfl
        · rw [← inFocus, out, Bool.and_false, Bool.false_and]
      have may := s.mayIssue_of f.latch F.inFocus (by rw [← inFocus]; exact active)
      have issued := issues k (zone.symm.trans last) may
      have delta : l.delta (r.zones[k]).disparity = d := hd.symm
      rw [delta, ← hp] at issued
      refine ⟨unlocked inactive, fun dead => ?_, fun live => ?_⟩
      · exact still (issued.trans (if_pos dead))
      · have some := issued.trans (if_neg (Nat.not_lt.mpr live))
        exact ⟨by rw [target, some, Option.some_or], lens.trans (s.handFound_some F p l some table)⟩
  · have ran := s.exec_completion k off o addr bytes f started oldest entry turn frame inside covers
    obtain ⟨A, hA⟩ : ∃ A, A = s.lastWrite k off o bytes f := ⟨_, rfl⟩
    rw [← hA] at ran
    obtain ⟨phase, shots, queue, req, completed, done, raised, record, queued⟩ := A.completed_kept (f.accept bytes) i x shot
      (by rw [hA]; exact mode) (by rw [hA]; exact used) lapsed destiny (x.unkept_of_keeps keeps)
    obtain ⟨E, hE⟩ : ∃ E, E = A.completeFrame (f.accept bytes) := ⟨_, rfl⟩
    rw [← hE] at ran completed
    have calmE : E.calm := by
      obtain ⟨rest, ⟨-, word⟩, engine, focus⟩ := calm
      rw [completed, hA]
      exact ⟨rest, ⟨.inl port, word⟩, engine, focus⟩
    rw [E.settle_of_calm _ calmE] at ran
    have queueS : queue = { s.queue with normal := s.queue.normal ++ if x.policy = .none then [] else [{ index := i, number := x.number }] } := by
      rw [queued, hA]
      rfl
    refine ⟨_, ran, ?_⟩
    rw [completed, hA]
    refine ⟨rfl, done, raised, rfl, rfl, record, ?_, ?_, rfl, rfl, rfl⟩
    · show queue.urgent = _
      rw [queueS]
    · show queue.normal = _
      rw [queueS]

end Sys2Proof.Machine
end

section
/-! SUPPORT. Reads of DEVELOPED views: the develop lane, the engine's runs and fills, and the DEVELOP grants. -/

namespace Sys2Proof.Machine

/-! ### The engine's actions (R135, R136) -/

theorem State.engineActs_step (n : Nat) (s t : State) (act : s.engineAct = some t) : s.engineActs (n + 1) = t.engineActs n := by
  rw [State.engineActs, act]

theorem State.engineActs_stop (n : Nat) (s : State) (stop : s.engineAct = none) : s.engineActs n = s := by
  cases n with
  | zero => rfl
  | succ n => rw [State.engineActs, stop]

theorem State.engineAct_idle (s : State) (idle : s.engineIdle) : s.engineAct = none := by
  obtain ⟨run, stream, lane⟩ := idle
  simp [State.engineAct, run, State.pickRun, lane, State.streamWants, stream]

/-- R136: the engine takes no other run while one waits for its fill. -/
theorem State.engineAct_waiting (s : State) (r : Run) (p : Fin 4) (k : Key) (d : List Byte) (n : Nat) (run : s.engine.run = some r)
    (found : s.engine.lookup r.key = some p) (filling : s.engine.places[p] = .filling k d n) : s.engineAct = none := by
  rw [State.engineAct, run]
  dsimp only
  rw [found]
  dsimp only
  rw [filling]

theorem State.engineAct_valid (s : State) (r : Run) (p : Fin 4) (k : Key) (d : List Byte) (run : s.engine.run = some r)
    (found : s.engine.lookup r.key = some p) (valid : s.engine.places[p] = .valid k d) : s.engineAct = some (s.completeRun r p d) := by
  rw [State.engineAct, run]
  dsimp only
  rw [found]
  dsimp only
  rw [valid]

/-- R140: a run whose row pair is absent starts its fill in the lowest EMPTY place. -/
theorem State.engineAct_absent (s : State) (r : Run) (p : Fin 4) (run : s.engine.run = some r) (absent : s.engine.lookup r.key = none)
    (empty : s.engine.emptyPlace = some p) : s.engineAct = some (s.startFill p r.key r.geom) := by
  have made : s.engine.makePlace = some (p, s.engine) := by rw [Engine.makePlace, empty]
  rw [State.engineAct, run]
  dsimp only
  rw [absent]
  dsimp only
  rw [made]

/-- R135, R142: a run of the develop lane completes, its view not STREAM. -/
theorem State.completeRun_lane (s : State) (r : Run) (p : Fin 4) (pair : List Byte) (rd : LaneRead) (client : r.client = .lane)
    (stream : r.stream = false) (lane : s.link.develop = [rd]) : s.completeRun r p pair = { s with
      engine := { s.engine with run := none, recency := p :: dropElem p s.engine.recency }
      link := { s.link with
        develop := [], credits := s.link.credits + 1
        sent := s.link.sent ++ [{ tag := rd.tag, data := ((developRun r.geom r.profile pair r.run).drop (byteAddr rd.addr % 256)).take (8 * rd.count) }] } } := by
  unfold State.completeRun
  rw [client, stream]
  dsimp only
  rw [Bool.false_and, if_neg Bool.false_ne_true, State.answerLane]
  dsimp only
  rw [lane]
  rfl

/-- R136, R137: the engine takes the run of the read at the head of the lane. -/
theorem State.engineAct_takes (s : State) (rd : LaneRead) (rest : List LaneRead) (r : Run) (idle : s.engine.run = none)
    (lane : s.link.develop = rd :: rest) (run : s.laneRun rd = some r) :
    s.engineAct = some { s with engine := { s.engine with run := some r } } := by
  rw [State.engineAct, idle]
  dsimp only
  rw [State.pickRun, lane]
  dsimp only
  rw [run]

theorem viewOf_of_window (a : Nat) (v : Fin 4) (window : windowOf a = .view v) : viewOf a = v := by
  rw [windowOf] at window
  generalize viewOf a = w at window ⊢
  split at window
  · cases window
  · split at window
    · cases window
    · split at window
      · exact Window.view.inj window
      · cases window

/-- R137: the run of an offset of a DEVELOPED view. -/
theorem State.laneRun_mapped (s : State) (rd : LaneRead) (v : Fin 4) (e : View) (src : Source) (g : Geometry) (o : Nat)
    (view : viewOf (byteAddr rd.addr) = v) (offset : viewOffset (byteAddr rd.addr) = o) (mapped : s.windows.views[v] = some e)
    (developed : e.developed = true) (run : s.viewRun e = some (src, g)) (inside : o < g.developedBytes) : s.laneRun rd = some {
      client := .lane, key := { source := src, row := o / (2 * g.width) }, geom := g, run := o % (2 * g.width) / 256
      profile := s.tables.profiles[e.profile], stream := e.stream } := by
  subst view offset
  unfold State.laneRun
  dsimp only
  split
  · next h => exact absurd (mapped.symm.trans h) nofun
  · next f h =>
    obtain rfl : e = f := Option.some.inj (mapped.symm.trans h)
    rw [developed, if_pos rfl, run]
    exact if_neg (Nat.not_le.mpr inside)

/-- R45, R137: the run of a read of a shot's DEVELOPED view. -/
theorem State.laneRun_shot (s : State) (rd : LaneRead) (v : Fin 4) (e : View) (i : Fin 48) (n : Nat) (x : Shot) (o : Nat)
    (window : windowOf (byteAddr rd.addr) = .view v) (offset : viewOffset (byteAddr rd.addr) = o)
    (mapped : s.windows.views[v] = some e) (developed : e.developed = true)
    (source : e.source = .shot i n) (shot : s.shotAt { index := i, number := n } = some x)
    (inside : o < x.geom.developedBytes) : s.laneRun rd = some {
      client := .lane, key := { source := .shot i n, row := o / (2 * x.geom.width) }, geom := x.geom
      run := o % (2 * x.geom.width) / 256, profile := s.tables.profiles[e.profile], stream := e.stream } := by
  have views : s.viewRun e = some (.shot i n, x.geom) := by
    rw [State.viewRun, source]
    dsimp only
    rw [shot]
    rfl
  exact s.laneRun_mapped rd v e _ _ o (viewOf_of_window _ v window) offset mapped developed views inside

/-- R136: with the release unit at rest and the port quiet, only the engine acts after an event. -/
theorem State.settle_of_engine (s old : State) (rest : s.restful) (port : s.portQuiet) (focus : s.focus.state = s.focusStateNow) :
    s.settle old = s.engineActs 128 := by
  have derived : s.deriveFocus = s := by rw [State.deriveFocus, ← focus]
  have acts := State.engineOnly_engineActs 128 s
  rw [s.settle_of_restful old rest, derived, State.serveOut, s.takeNext_of_busy port.1]
  exact State.resumeUnit_of_quiet _ (by rw [show s.engineSettle.tport = s.tport from acts.tport]; exact port.2)

/-! ### A run that waits (R33, R136) -/

/-- The lanes and the run in progress, with the cache it waits for. -/
structure State.LanesKept (s t : State) : Prop where
  link : t.link = s.link
  run : t.engine.run = s.engine.run
  places : t.engine.places = s.engine.places

theorem State.LanesKept.refl (s : State) : s.LanesKept s := ⟨rfl, rfl, rfl⟩

theorem State.LanesKept.trans {s t u : State} (h : s.LanesKept t) (k : t.LanesKept u) : s.LanesKept u :=
  ⟨k.link.trans h.link, k.run.trans h.run, k.places.trans h.places⟩

theorem State.LanesKept.ite {s t u : State} (p : Prop) [Decidable p] (ht : s.LanesKept t) (hu : s.LanesKept u) :
    s.LanesKept (if p then t else u) := by
  split
  · exact ht
  · exact hu

section Lanes

variable (s : State)

theorem State.lanesKept_beginUnit (n : Nat) : s.LanesKept (s.beginUnit n) := by
  unfold State.beginUnit
  split
  · exact .refl s
  · split
    · exact .ite _ ⟨rfl, rfl, rfl⟩ ⟨rfl, rfl, rfl⟩
    · exact .ite _ ⟨rfl, rfl, rfl⟩ ⟨rfl, rfl, rfl⟩

theorem State.lanesKept_feedPlace (i : Fin 2) : s.LanesKept (s.feedPlace i) := by
  unfold State.feedPlace
  split
  · exact .refl s
  · split
    · dsimp only
      split <;> exact ⟨rfl, rfl, rfl⟩
    · exact .refl s

theorem State.lanesKept_feedRaw : s.LanesKept s.feedRaw := (s.lanesKept_feedPlace 0).trans (State.lanesKept_feedPlace _ 1)

theorem State.lanesKept_takeItem (r : ShotRef) (x : Shot) (t : TetherPart) : s.LanesKept (s.takeItem r x t) := by
  unfold State.takeItem
  refine State.LanesKept.trans ?_ (State.lanesKept_beginUnit _ _)
  cases t.kind with
  | raw =>
    refine State.LanesKept.trans ?_ (State.lanesKept_feedRaw _)
    exact ⟨rfl, rfl, rfl⟩
  | developed => exact ⟨rfl, rfl, rfl⟩

theorem State.lanesKept_takeNext : s.LanesKept s.takeNext := by
  unfold State.takeNext
  split
  · split
    · exact .refl s
    · split
      · split
        · exact s.lanesKept_takeItem _ _ _
        · exact .refl s
      · exact .refl s
  · exact .refl s

theorem State.lanesKept_resumeUnit : s.LanesKept s.resumeUnit := by
  unfold State.resumeUnit
  split
  · exact .refl s
  · exact .ite _ (s.lanesKept_beginUnit _) (.refl s)

/-- With the release unit at rest, a run that waits for its fill goes on waiting, and the lanes stay. -/
theorem State.settle_waiting (old : State) (r : Run) (p : Fin 4) (k : Key) (d : List Byte) (n : Nat) (rest : s.restful)
    (run : s.engine.run = some r) (found : s.engine.lookup r.key = some p) (filling : s.engine.places[p] = .filling k d n) :
    s.LanesKept (s.settle old) := by
  have derived : s.LanesKept s.deriveFocus := ⟨rfl, rfl, rfl⟩
  have taken := derived.trans s.deriveFocus.lanesKept_takeNext
  rw [s.settle_of_restful old rest, State.serveOut]
  generalize s.deriveFocus.takeNext = t at taken
  have lookup : t.engine.lookup r.key = some p := by
    rw [Engine.lookup, taken.places]
    exact found
  have stop := t.engineAct_waiting r p k d n (taken.run.trans run) lookup (by rw [taken.places]; exact filling)
  rw [State.engineSettle, t.engineActs_stop 128 stop]
  exact taken.trans (State.lanesKept_resumeUnit t)

end Lanes

/-! ### The fill (R140, R141) -/

theorem find?_finRange_of {n : Nat} (f : Fin n → Bool) (p : Fin n) (here : f p = true) (first : ∀ q, q < p → f q = false) :
    (List.finRange n).find? f = some p := by
  refine List.find?_eq_some_iff_getElem.mpr ⟨here, p.val, by simp, by simp, fun j below => ?_⟩
  rw [List.getElem_finRange]
  rw [first _ below]
  rfl

theorem Engine.emptyPlace_of (e : Engine) (p : Fin 4) (empty : e.places[p] = .empty) (first : ∀ q, q < p → e.places[q] ≠ .empty) :
    e.emptyPlace = some p := find?_finRange_of _ p (beq_iff_eq.mpr empty) fun q below => beq_eq_false_iff_ne.mpr (first q below)

/-- R138: a key is found in its own place where no other place is keyed to it. -/
theorem Engine.lookup_of (e : Engine) (k : Key) (p : Fin 4) (here : (e.places[p]).key? = some k)
    (others : ∀ q, q ≠ p → (e.places[q]).key? ≠ some k) : e.lookup k = some p :=
  find?_finRange_of _ p (beq_iff_eq.mpr here) fun q below => beq_eq_false_iff_ne.mpr (others q (Fin.ne_of_lt below))

theorem Engine.absent_of_lookup (e : Engine) (k : Key) (h : e.lookup k = none) (q : Fin 4) : (e.places[q]).key? ≠ some k := fun here =>
  List.find?_eq_none.mp h q (List.mem_finRange q) (beq_iff_eq.mpr here)

/-- R138: a look-up follows the keys of the places. -/
theorem Engine.lookup_congr {e f : Engine} (k : Key) (h : ∀ q : Fin 4, (f.places[q]).key? = (e.places[q]).key?) : f.lookup k = e.lookup k := by
  have same : (fun q : Fin 4 => (f.places[q]).key? == some k) = fun q : Fin 4 => (e.places[q]).key? == some k := funext fun q => by rw [h q]
  rw [Engine.lookup, same]
  rfl

/-- R141: every block of a row pair lies within the frame. -/
theorem pairOffset_lt (g : Geometry) (y b : Nat) (row : 2 * y + 2 ≤ g.height) (block : b < g.width / 64) (whole : g.width % 128 = 0) :
    pairOffset g y b < g.frameBytes := by
  obtain ⟨m, width⟩ : ∃ m, g.width = 128 * m := ⟨g.width / 128, by omega⟩
  have runs : g.runs = m := by rw [Geometry.runs, width]; omega
  have positive : 0 < m := by omega
  have column := Nat.mod_lt b positive
  have half : b / m ≤ 1 := by
    have below : b < m * 2 := by omega
    have := Nat.div_lt_of_lt_mul below
    omega
  rw [pairOffset, Geometry.frameBytes, runs, width]
  calc (2 * y + b / m) * (2 * (128 * m)) + b % m * 256 < (2 * y + b / m) * (2 * (128 * m)) + 1 * (2 * (128 * m)) := by omega
    _ = (2 * y + b / m + 1) * (2 * (128 * m)) := (Nat.add_mul ..).symm
    _ ≤ g.height * (2 * (128 * m)) := Nat.mul_le_mul_right _ (by omega)
    _ = 128 * m * 2 * g.height := by rw [Nat.mul_comm 2 (128 * m), Nat.mul_comm]

/-- R141: the DEVELOP requests of a row pair of a shot of one page. -/
theorem State.fillRequests_of (s : State) (p : Fin 4) (k : Key) (g : Geometry) (i : Fin 48) (n page : Nat) (x : Shot)
    (source : k.source = .shot i n) (shot : s.shotAt { index := i, number := n } = some x) (pages : x.pages = [page])
    (row : 2 * k.row + 2 ≤ g.height) (whole : g.width % 128 = 0) (one : g.frameBytes ≤ 1048576) :
    s.fillRequests p k g = (List.range (g.width / 64)).map fun b => {
      place := p, block := b
      offset := page * 1048576 + (2 * k.row + b / (g.width / 128)) * (2 * g.width) + b % (g.width / 128) * 256 } := by
  rw [State.fillRequests, ← List.filterMap_eq_map]
  refine List.filterMap_congr fun b member => ?_
  have inside := pairOffset_lt g k.row b row (List.mem_range.mp member) whole
  have block : s.sourceBlock k.source (pairOffset g k.row b) = some (page * mib + pairOffset g k.row b) := by
    have first : pairOffset g k.row b / mib = 0 := Nat.div_eq_of_lt (lt_of_lt_of_le inside one)
    have rest : pairOffset g k.row b % mib = pairOffset g k.row b := Nat.mod_eq_of_lt (lt_of_lt_of_le inside one)
    generalize pairOffset g k.row b = o at first rest ⊢
    unfold State.sourceBlock
    rw [source]
    dsimp only
    rw [shot]
    dsimp only
    rw [first, rest, pages]
    rfl
  rw [block]
  show some _ = some _
  rw [pairOffset, Geometry.runs, ← Nat.add_assoc]
  rfl

/-! ### Arrival (R33) -/

/-- The state in which a READ has joined the develop lane. -/
def State.joined (s : State) (rd : LaneRead) : State :=
  { s with link := { s.link with credits := s.link.credits - 1, develop := s.link.develop ++ [rd] } }

theorem exec_developRead (s : State) (tag : BitVec 5) (addr : BitVec 29) (count : Nat) (v : Fin 4) (e : View) (low : 1 ≤ count)
    (high : count ≤ 32) (formed : malformed addr count = false) (credit : s.link.credits ≠ 0)
    (window : windowOf (byteAddr addr) = .view v) (mapped : s.windows.views[v] = some e) (developed : e.developed = true) :
    exec (.read tag addr count) s =
      .next (((s.joined { tag := tag, addr := addr, count := count }).settle s).finishEvent s) := by
  have packet : beatCountOk count = true := by rw [beatCountOk, decide_eq_true low, decide_eq_true high]; rfl
  have lane : s.toDevelopLane addr count = true := by
    rw [State.toDevelopLane, formed, if_neg Bool.false_ne_true, window]
    dsimp only
    rw [mapped]
    exact developed
  have arrives : s.arriveRead tag addr count = ((s.joined { tag := tag, addr := addr, count := count }).settle s).finishEvent s := by
    rw [State.arriveRead, if_neg credit, if_pos lane]
    rfl
  show execRead tag addr count s = _
  rw [execRead, if_pos packet, arrives]

/-- R34, R135: a READ whose row pair is VALID is answered at once. -/
theorem State.settle_answers (s old : State) (rd : LaneRead) (r : Run) (p : Fin 4) (pair : List Byte) (calm : s.calm) (credit : s.link.credits ≠ 0)
    (run : s.laneRun rd = some r) (client : r.client = .lane) (stream : r.stream = false) (found : s.engine.lookup r.key = some p)
    (valid : s.engine.places[p] = .valid r.key pair) : (s.joined rd).settle old = { s with
      link := { s.link with sent := s.link.sent ++
        [{ tag := rd.tag, data := ((developRun r.geom r.profile pair r.run).drop (byteAddr rd.addr % 256)).take (8 * rd.count) }] }
      engine := { s.engine with recency := p :: dropElem p s.engine.recency } } := by
  obtain ⟨rest, port, ⟨noRun, noStream, noRead⟩, focus⟩ := calm
  have lane : (s.joined rd).link.develop = [rd] := by rw [State.joined, noRead]; rfl
  obtain ⟨A, hA⟩ : ∃ A : State, A = { s.joined rd with engine := { s.engine with run := some r } } := ⟨_, rfl⟩
  have takes : (s.joined rd).engineAct = some A := by
    rw [hA]
    exact (s.joined rd).engineAct_takes rd [] r noRun lane run
  have completes : A.engineAct = some (A.completeRun r p pair) := A.engineAct_valid r p r.key pair (by rw [hA]) (by rw [hA]; exact found) (by rw [hA]; exact valid)
  have completed := A.completeRun_lane r p pair rd client stream (by rw [hA]; exact lane)
  have stops : (A.completeRun r p pair).engineAct = none := by
    rw [completed]
    exact State.engineAct_idle _ ⟨rfl, by rw [hA]; exact noStream, rfl⟩
  have acts : (s.joined rd).engineActs 128 = A.completeRun r p pair := by
    rw [State.engineActs_step 127 _ _ takes, State.engineActs_step 126 _ _ completes, State.engineActs_stop _ _ stops]
  have back : s.link.credits - 1 + 1 = s.link.credits := by omega
  rw [(s.joined rd).settle_of_engine old rest port focus, acts, completed, hA]
  show ({ s with
    link := { s.link with develop := [], credits := s.link.credits - 1 + 1, sent := _ }
    engine := { s.engine with run := none, recency := _ } } : State) = _
  rw [back, ← noRun, ← noRead]
  rfl

/-- R140, R141: a READ whose row pair is absent starts its fill, and waits. -/
theorem State.settle_fills (s old : State) (rd : LaneRead) (r : Run) (p : Fin 4) (calm : s.calm) (run : s.laneRun rd = some r)
    (absent : s.engine.lookup r.key = none) (empty : s.engine.emptyPlace = some p) (requests : List FillRequest)
    (fill : (s.joined rd).fillRequests p r.key r.geom = requests) (awaited : requests.length ≠ 0) :
    (s.joined rd).settle old = { s with
      link := { s.link with credits := s.link.credits - 1, develop := [rd] }
      engine := { s.engine with
        run := some r
        places := s.engine.places.set p (.filling r.key (List.replicate (4 * r.geom.width) 0) requests.length)
        recency := p :: dropElem p s.engine.recency }
      port := { s.port with develop := s.port.develop ++ requests } } := by
  obtain ⟨rest, port, ⟨noRun, noStream, noRead⟩, focus⟩ := calm
  have lane : (s.joined rd).link.develop = [rd] := by rw [State.joined, noRead]; rfl
  obtain ⟨A, hA⟩ : ∃ A : State, A = { s.joined rd with engine := { s.engine with run := some r } } := ⟨_, rfl⟩
  have takes : (s.joined rd).engineAct = some A := by
    rw [hA]
    exact (s.joined rd).engineAct_takes rd [] r noRun lane run
  have starts : A.engineAct = some (A.startFill p r.key r.geom) := A.engineAct_absent r p (by rw [hA]) (by rw [hA]; exact absent) (by rw [hA]; exact empty)
  have reqs : A.fillRequests p r.key r.geom = requests := by rw [hA]; exact fill
  have started : A.startFill p r.key r.geom = { A with
      engine := { A.engine with
        places := A.engine.places.set p (.filling r.key (List.replicate (4 * r.geom.width) 0) requests.length)
        recency := p :: dropElem p A.engine.recency }
      port := { A.port with develop := A.port.develop ++ requests } } := by
    rw [State.startFill, reqs, newFill, if_neg awaited]
  have waits : (A.startFill p r.key r.geom).engineAct = none := by
    rw [started]
    refine State.engineAct_waiting _ r p r.key _ _ (by rw [hA]) (Engine.lookup_of _ r.key p ?_ fun q other => ?_) (Vector.getElem_set_self p.isLt)
    · exact congrArg Place.key? (Vector.getElem_set_self p.isLt)
    · rw [show (A.engine.places.set p _)[q] = A.engine.places[q] from Vector.getElem_set_ne p.isLt q.isLt fun e => other (Fin.ext e.symm), hA]
      exact s.engine.absent_of_lookup r.key absent q
  have acts : (s.joined rd).engineActs 128 = A.startFill p r.key r.geom := by
    rw [State.engineActs_step 127 _ _ takes, State.engineActs_step 126 _ _ starts, State.engineActs_stop _ _ waits]
  rw [(s.joined rd).settle_of_engine old rest port focus, acts, started, hA]
  show ({ s with link := { s.link with credits := _, develop := s.link.develop ++ [rd] }, engine := _, port := _ } : State) = _
  rw [noRead]
  rfl

/-! ### DEVELOP grants (R141) -/

theorem State.grant_develop (s u : State) (q : FillRequest) (rest : List FillRequest) (passage : s.passageWaits = false)
    (next : s.nextInternal = some .develop) (requests : s.port.develop = q :: rest)
    (hu : u = { s with port := { s.port with develop := rest, passageRun := 0, lastServed := .develop } }) :
    s.grant = (u.performFill q).settle { s with port := { s.port with passageRun := 0, lastServed := .develop } } := by
  rw [s.grant_internal .develop (.inl passage) next, State.grantInternal, State.performInternal]
  dsimp only
  rw [requests, hu]

theorem State.performFill_of (u : State) (q : FillRequest) (x y : Place) (here : u.engine.places[q.place] = x)
    (out : x.fillStep q.block (u.mem.readBytes q.offset 256) = y) :
    u.performFill q = { u with engine := { u.engine with places := u.engine.places.set q.place y } } := by
  rw [State.performFill]
  dsimp only
  rw [here, out]

/-- R141: the 256 bytes of a block replace those of the row pair at its place. -/
theorem putBlock_of (d d' block : List Byte) (b : Nat) (size : block.length = 256) (fits : 256 * b + 256 ≤ d.length)
    (bytes : ∀ j, d'[j]? = if 256 * b ≤ j ∧ j < 256 * b + 256 then block[j - 256 * b]? else d[j]?) : putBlock d b block = d' := by
  refine List.ext_getElem? fun j => ?_
  have front : (d.take (256 * b)).length = 256 * b := List.length_take_of_le (by omega)
  rw [bytes j, putBlock]
  by_cases before : j < 256 * b
  · rw [if_neg (by omega), List.append_assoc, List.getElem?_append_left (by omega), List.getElem?_take_of_lt before]
  · by_cases inside : j < 256 * b + 256
    · rw [if_pos ⟨by omega, inside⟩, List.append_assoc, List.getElem?_append_right (by omega), front, List.getElem?_append_left (by omega)]
    · rw [if_neg (by omega), List.getElem?_append_right (by rw [List.length_append, front, size]; omega), List.length_append, front, size,
        List.getElem?_drop, Nat.add_sub_cancel' (Nat.not_lt.mp inside)]

/-- Settles O15: by the engine's actions that follow the arrival, or the grant. -/
theorem developedReadsAreAnswered : Obligations.DevelopedReadsAreAnswered := by
  unfold Obligations.DevelopedReadsAreAnswered
  refine ⟨fun s tag addr count v e r p k d n low high formed credit window mapped developed rest run found filling => ?_,
    fun s tag addr count v e i n x p k low high formed credit calm window mapped developed stream source shot inside hk => ?_,
    fun s u q rest block started passage next requests hblock hu => ?_⟩
  · have ran := exec_developRead s tag addr count v e low high formed credit window mapped developed
    have kept := (s.joined { tag := tag, addr := addr, count := count }).settle_waiting s r p k d n rest run found filling
    exact ⟨_, ran, kept.link⟩
  · have ran := exec_developRead s tag addr count v e low high formed credit window mapped developed
    obtain ⟨o, offset⟩ : ∃ o, viewOffset (byteAddr addr) = o := ⟨_, rfl⟩
    rw [offset] at inside hk ⊢
    obtain ⟨rd, hrd⟩ : ∃ rd : LaneRead, rd = { tag := tag, addr := addr, count := count } := ⟨_, rfl⟩
    have run := s.laneRun_shot rd v e i n x o (by rw [hrd]; exact window) (by rw [hrd]; exact offset) mapped developed source shot inside
    rw [stream, ← hk] at run
    rw [← hrd] at ran
    refine ⟨fun pair found valid => ?_, fun page absent empty first pages whole even one => ?_⟩
    · have answers := s.settle_answers s rd _ p pair calm credit run rfl rfl found valid
      rw [answers] at ran
      refine ⟨_, _, rfl, ran, ?_, (BitVec.or_zero (x := s.req.causes)).symm⟩
      rw [hrd]
      rfl
    · have width : 0 < x.geom.width := by
        by_contra none
        have zero : x.geom.width = 0 := by omega
        rw [Geometry.developedBytes, zero, Nat.zero_mul] at inside
        omega
      have row : 2 * k.row + 2 ≤ x.geom.height := by
        obtain ⟨m, height⟩ : ∃ m, x.geom.height = 2 * m := ⟨x.geom.height / 2, by omega⟩
        have image : o < 2 * x.geom.width * m := by
          rw [Geometry.developedBytes, height] at inside
          calc o < x.geom.width * (2 * m) := inside
            _ = 2 * x.geom.width * m := by rw [← Nat.mul_assoc, Nat.mul_comm x.geom.width 2]
        have above := Nat.div_lt_of_lt_mul image
        rw [hk]
        dsimp only
        omega
      have fill := (s.joined rd).fillRequests_of p k x.geom i n page x (by rw [hk]) shot pages row whole one
      have length : ((List.range (x.geom.width / 64)).map fun b => ({
          place := p, block := b
          offset := page * 1048576 + (2 * k.row + b / (x.geom.width / 128)) * (2 * x.geom.width)
            + b % (x.geom.width / 128) * 256 } : FillRequest)).length = x.geom.width / 64 := by
        rw [List.length_map, List.length_range]
      have fills := s.settle_fills s rd _ p calm run absent (s.engine.emptyPlace_of p empty first) _ fill (by rw [length]; omega)
      rw [fills, length] at ran
      refine ⟨_, ran, Vector.getElem_set_self p.isLt, fun p' other => Vector.getElem_set_ne p.isLt p'.isLt fun e => other (Fin.ext e.symm), rfl, ?_, rfl⟩
      rw [hrd]
      rfl
  · have granted := s.grant_develop u q rest passage next requests hu
    have exec (E V : State) (performed : u.performFill q = E) (settled : ∀ old, E.settle old = V) :
        exec .memoryGrant s = .next (V.finishEvent s) := by
      rw [exec_memoryGrant s started, granted, performed, settled]
    have read : u.mem.readBytes q.offset 256 = block := by rw [hu, hblock]
    have size : block.length = 256 := by rw [hblock, Memory.readBytes, List.length_map, List.length_range]
    have stepped (x y : Place) (here : s.engine.places[q.place] = x) (out : x.fillStep q.block block = y) :
        u.performFill q = { u with engine := { s.engine with places := s.engine.places.set q.place y } } := by
      rw [u.performFill_of q x y (by rw [hu]; exact here) (by rw [read]; exact out), hu]
    have quiet (y : Place) (performed : u.performFill q = { u with engine := { s.engine with places := s.engine.places.set q.place y } })
        (calm : s.calm) : ∃ t, Machine.exec .memoryGrant s = .next t ∧
          s.became t { u with engine := { s.engine with places := s.engine.places.set q.place y } } 0 := by
      obtain ⟨E, hE⟩ : ∃ E : State, E = { u with engine := { s.engine with places := s.engine.places.set q.place y } } := ⟨_, rfl⟩
      rw [← hE] at performed ⊢
      have calmE : E.calm := by
        obtain ⟨rest, port, engine, focus⟩ := calm
        rw [hE, hu]
        exact ⟨rest, port, engine, focus⟩
      refine ⟨_, exec E E performed fun old => E.settle_of_calm old calmE, rfl, ?_⟩
      rw [State.finishEvent_causes, hE, hu]
      exact (BitVec.or_zero ..).symm
    refine ⟨fun k d d' n filling fits length bytes => ?_, fun n discarding calm => ?_⟩
    · have put := putBlock_of d d' block q.block size fits bytes
      refine ⟨fun calm => ?_, fun r rd last restful port focus stream run client noStream key found lane => ?_⟩
      · exact quiet _ (stepped _ _ filling (by rw [Place.fillStep, put])) calm
      · have performed := stepped _ (.valid k d') filling (by rw [Place.fillStep, put, if_pos last])
        obtain ⟨E, hE⟩ : ∃ E : State, E = { u with engine := { s.engine with places := s.engine.places.set q.place (.valid k d') } } := ⟨_, rfl⟩
        rw [← hE] at performed
        have keys (i : Fin 4) : (E.engine.places[i]).key? = (s.engine.places[i]).key? := by
          rw [hE]
          by_cases same : i = q.place
          · rw [same, filling]
            exact (congrArg Place.key? (Vector.getElem_set_self q.place.isLt)).trans rfl
          · exact congrArg Place.key? (Vector.getElem_set_ne q.place.isLt i.isLt fun e => same (Fin.ext e.symm))
        have foundE : E.engine.lookup r.key = some q.place := by rw [key, Engine.lookup_congr k keys, found]
        have completes : E.engineAct = some (E.completeRun r q.place d') :=
          E.engineAct_valid r q.place k d' (by rw [hE]; exact run) foundE (by rw [hE]; exact Vector.getElem_set_self q.place.isLt)
        have completed := E.completeRun_lane r q.place d' rd client noStream (by rw [hE, hu]; exact lane)
        obtain ⟨V, hV⟩ : ∃ V, V = E.completeRun r q.place d' := ⟨_, rfl⟩
        rw [← hV] at completes completed
        have stops : V.engineAct = none := by
          rw [completed]
          exact State.engineAct_idle _ ⟨rfl, by rw [hE]; exact stream, rfl⟩
        have settled (old : State) : E.settle old = V := by
          rw [E.settle_of_engine old (by rw [hE, hu]; exact restful) (by rw [hE, hu]; exact port) (by rw [hE, hu]; exact focus),
            State.engineActs_step 127 _ _ completes, V.engineActs_stop _ stops]
        refine ⟨_, exec E V performed settled, ?_, ?_⟩
        · rw [completed, hE, hu]
          rfl
        · rw [State.finishEvent_causes, completed, hE, hu]
          exact (BitVec.or_zero ..).symm
    · exact quiet _ (stepped _ _ discarding rfl) calm

end Sys2Proof.Machine
end
